-- ==== Sys2Proof/Word.lean ====
section
/-! DEFINITION. The words of the part: register words, path counts, identifiers, tags and slots. -/

namespace Sys2Proof

/-- One word of the register window: 16 bits (R182). -/
abbrev Word := BitVec 16

/-- A path count: a 32-bit value that wraps (00_scope.md, Conventions; R163). -/
abbrev Count := BitVec 32

/-- A statement id or an account reference, 0 to FFFFFFFFh (R1). -/
abbrev Ident := BitVec 32

/-- The number of a sheet record, 0 to 47 (R21). -/
abbrev Tag := Fin 48

/-- The number of a statement record, 0 to 15 (R1). -/
abbrev Slot := Fin 16

end Sys2Proof
end

