-- ==== Sys2Proof/Config.lean ====
section
/-! DEFINITION. What is fixed for the part: the names of the paper path (00_scope.md), the fixed values of the
Transport Supervisor (R163, R165, R169) and the free values the manual leaves open. -/

namespace Sys2Proof

/-- The three input trays (00_scope.md, Physical path). -/
inductive Tray | t1 | t2 | t3
deriving DecidableEq, Repr

/-- The fourteen sensors, in the order of the sensor table (00_scope.md; coded 0 to 13, R185). -/
inductive Sensor | f1 | f2 | f3 | reg | xfer | fuse | dup1 | dup2 | out | b1 | b2 | b3 | b4 | bp
deriving DecidableEq, Repr

/-- The five gates, D as 0 and G1 to G4 as 1 to 4 (R185). -/
inductive Gate | d | g1 | g2 | g3 | g4
deriving DecidableEq, Repr

/-- The five bins, B1 to B4 as 0 to 3 and P as 4 (R185). -/
inductive Bin | b1 | b2 | b3 | b4 | p
deriving DecidableEq, Repr

/-- The 14 legs in the order of R175, and the park distance as code 14 (R176). -/
inductive Leg
  | f1Reg | f2Reg | f3Reg | releaseReg | regXfer | xferFuse | fuseOut | fuseDup1 | dup1Dup2
  | outB1 | outB2 | outB3 | outB4 | outBp | park
deriving DecidableEq, Repr

/-- The 15 limits in the order of R175, coded 0 to 14 (R176). -/
inductive Limit
  | throwLead | clearanceMargin | holdPolicy | leadTolerance | trailTolerance | pickDistance | pickTolerance
  | debounceDistance | minimumGap | routeChangeGap | loopGuard | sideReadyMargin | backupMultiplier
  | oversizeThreshold | unknownLengthReserve
deriving DecidableEq, Repr

/-- One value for each of the three installed units: a strap level (true is high), a fitted value or an enabled
value (R178). -/
structure Units where
  duplex   : Bool
  fourBins : Bool
  gauge    : Bool
deriving DecidableEq, Repr

/-- An edge to accept: its sensor, and whether the retirement claim of a delivery that the edge brings about waits until
the end of the next step (R36, R152; log 41). -/
structure Edge where
  sensor      : Sensor
  retireLater : Bool
deriving DecidableEq, Repr

/-- A door that opens: its bin, and whether the opening falls within a grant decision that claims the bin, after the claim
has read it and before the append is taken (R129, R144; log 44). -/
structure Opening where
  bin        : Bin
  meetsClaim : Bool
deriving DecidableEq, Repr

namespace Config

/-- The nominal rate, 4000 counts/s (R163). -/
def nominalRate : Nat := 4000

/-- The start band: the nominal rate plus or minus 5 %, both ends included (R163). -/
def startBandLow : Nat := 3800
/-- The upper end of the start band (R163). -/
def startBandHigh : Nat := 4200

/-- A measurement span is 500 counts (R163). -/
def spanCounts : Nat := 500

/-- The encoder silence limit, 25 ms (R169). -/
def silenceLimitMs : Nat := 25

/-- Free value (log 10): the measured rate written for a span whose quotient lies outside 1 to 65535 counts/s; the
stored rate is this value plus 1. Nothing constrains it. -/
opaque rateOutOfRange : Nat → Fin 65535

/-- Free value (log 21): the rate a backup base takeover works with when no rate has been measured, less 1. -/
opaque rateUnmeasured : Count → Fin 65535

end Config

end Sys2Proof
end

