-- ==== Sys2Proof/Syntax.lean ====
section
/-! DEFINITION. The commands of the part: one constructor per row of the table of operations and events. -/

namespace Sys2Proof

/-- The commands. The arguments of a command of the command index are the words of the command buffer (R183), so
its constructor carries only what the command samples from the part's input lines (log 6). -/
inductive Instr
  /-- GO 01h (R3). -/
  | openStatement
  /-- GO 02h (R5). -/
  | page
  /-- GO 03h (R16). -/
  | restartStatement
  /-- GO 04h (R17). -/
  | discardStatement
  /-- GO 05h (R18). -/
  | queryStatement
  /-- GO 06h (R40). -/
  | querySheet
  /-- GO 07h (R41). -/
  | findSheets
  /-- GO 08h (R49). -/
  | trayResume
  /-- GO 09h (R65). -/
  | queryQueue
  /-- GO 0Ah (R74). -/
  | sideReady
  /-- GO 0Bh (R75). -/
  | sideFail
  /-- GO 0Ch, with the four readings of the gauge lines it takes one after another (R104). -/
  | calibrateZero (r1 r2 r3 r4 : BitVec 10)
  /-- GO 0Dh (R110). -/
  | readSnapshot
  /-- GO 0Eh (R141). -/
  | binAccept
  /-- GO 0Fh (R142). -/
  | binRole
  /-- GO 10h, with the present level of the empty line of the bin named (R143). -/
  | queryBin (emptyActive : Bool)
  /-- GO 11h (R157). -/
  | clearJam
  /-- GO 12h (R164). -/
  | start
  /-- GO 13h (R166). -/
  | stop
  /-- GO 14h (R173). -/
  | queryTransport
  /-- GO 15h (R176). -/
  | setLeg
  /-- GO 16h (R176). -/
  | setTray
  /-- GO 17h (R176). -/
  | setSensor
  /-- GO 18h (R176). -/
  | setGate
  /-- GO 19h (R176). -/
  | setLimits
  /-- GO 1Ah (R176). -/
  | setCapacity
  /-- GO 1Bh (R179). -/
  | setUnits
  /-- GO 1Ch, with the present levels of the strap lines (R181). -/
  | queryProfile (straps : Units)
  /-- GO 1Dh (R186). -/
  | clearNoticeLost
  /-- GO 1Eh (R191). -/
  | warmReset
  /-- A write to GO of a code that names no command (R183). -/
  | badCommand (code : Word)
  /-- A write to COMMAND DATA (R183). -/
  | commandData (word : Word)
  /-- A read of RESULT (R184). -/
  | result
  /-- A read of NOTICE (R187). -/
  | notice
  /-- A read of NOTICE DATA (R187). -/
  | noticeData
  /-- A read of CALL (R188). -/
  | call
  /-- A read of CALL DATA (R188). -/
  | callData
  /-- A write to SNAPSHOT SELECT (R189). -/
  | snapshotSelect (word : Word)
  /-- A write that the window ignores (R182, R183). -/
  | ignoredRegisterWrite (offset : BitVec 5) (word : Word)
  /-- Power-on or the reset line, with the strap levels it latches (R178, R191). -/
  | coldReset (straps : Units)
  /-- A change of a sensor line (R88). -/
  | sensorLineChange (sensor : Sensor)
  /-- The end of a debounce, its edge accepted (R88), with the order of a delivery's retirement claim (log 41). -/
  | debounceComplete (edge : Edge)
  /-- An encoder pulse, with the real time in nanoseconds since the pulse before it (R163). -/
  | encoderPulse (elapsed : Nat)
  /-- The encoder silence limit expires (R169). -/
  | encoderSilence
  /-- An interval of the backup time base (R170). -/
  | backupBaseTick
  /-- 2 s in STARTING (R165). -/
  | startLimitExpiry
  /-- The supply warning line is asserted (R171). -/
  | supplyWarningAsserted
  /-- The supply warning line clears (R171). -/
  | supplyWarningCleared
  /-- No record is live in DRAINING (R168). -/
  | drainComplete
  /-- A change of a tray-ready line (R48). -/
  | trayReadyChange (tray : Tray)
  /-- A bin door opens (R138, R139), perhaps within a grant decision that claims the bin (R129, R144; log 44). -/
  | binDoorOpened (opening : Opening)
  /-- A bin door closes, with the level of the empty line at that moment (R140). -/
  | binDoorClosed (bin : Bin) (emptyActive : Bool)
  /-- The grant decision over the queue heads (R51, R60). -/
  | trayGrant
  /-- The grant of its release to the parked sheet (R62). -/
  | releaseGrant
  /-- The launch count of the pending pick is reached (R61). -/
  | pickLaunch
  /-- The pick window at the exit of a tray closes (R92). -/
  | pickWindowExpiry (tray : Tray)
  /-- A lead window of a sensor past the tray exits closes (R95). -/
  | leadWindowExpiry (sensor : Sensor)
  /-- The trail window of a sheet closes (R97). -/
  | trailWindowExpiry (tag : Tag)
  /-- The release window closes (R100). -/
  | releaseWindowExpiry
  /-- The park count is reached (R98). -/
  | park
  /-- A gauge sample falls due, with the reading of the lines (R101). `suspectLater` says that the ADM takes a
  suspect claim of this reading only after the next command (R49). -/
  | gaugeReading (reading : BitVec 10) (suspectLater : Bool)
  /-- The deadline of the called pitch of a tag is reached (R73). -/
  | deadlineExpiry (tag : Tag)
  /-- The first request of a gate, a THROW, is due (R117). -/
  | gateThrow (gate : Gate)
  /-- The first request of a gate, a PASSAGE, is due (R118). -/
  | gatePassage (gate : Gate)
  /-- The clearance count of a held gate is reached (R119). -/
  | gateClearance (gate : Gate)
  /-- Jam handling takes a fault handed to it, by its place among those waiting (R147). -/
  | jam (place : Nat)
  /-- The run-out count is 0 in RUNOUT (R153). -/
  | runoutComplete
  /-- The STU takes a break request, by its place among those waiting (R12). -/
  | breakStatement (place : Nat)
  /-- The SHT takes a condemnation claim, by its place among those waiting (R34). -/
  | condemn (place : Nat)
  /-- The GSC takes the oldest reroute request (R120). -/
  | reroute
  /-- The ADM takes the oldest flush request (R46). -/
  | flush
  /-- The BNM takes its oldest request, an opening request (R135). -/
  | spoilRangeOpening
  /-- The BNM takes its oldest request, a closing request (R135). -/
  | closingRequest
deriving DecidableEq, Repr

namespace Instr

/-- The code written to GO (the command index, section 11.2), for the commands of the index. -/
def goCode : Instr → Option Word
  | openStatement => some 0x01
  | page => some 0x02
  | restartStatement => some 0x03
  | discardStatement => some 0x04
  | queryStatement => some 0x05
  | querySheet => some 0x06
  | findSheets => some 0x07
  | trayResume => some 0x08
  | queryQueue => some 0x09
  | sideReady => some 0x0A
  | sideFail => some 0x0B
  | calibrateZero _ _ _ _ => some 0x0C
  | readSnapshot => some 0x0D
  | binAccept => some 0x0E
  | binRole => some 0x0F
  | queryBin _ => some 0x10
  | clearJam => some 0x11
  | start => some 0x12
  | stop => some 0x13
  | queryTransport => some 0x14
  | setLeg => some 0x15
  | setTray => some 0x16
  | setSensor => some 0x17
  | setGate => some 0x18
  | setLimits => some 0x19
  | setCapacity => some 0x1A
  | setUnits => some 0x1B
  | queryProfile _ => some 0x1C
  | clearNoticeLost => some 0x1D
  | warmReset => some 0x1E
  | badCommand _ | commandData _ | result | notice | noticeData | call | callData | snapshotSelect _
  | ignoredRegisterWrite _ _ | coldReset _ | sensorLineChange _ | debounceComplete _ | encoderPulse _
  | encoderSilence | backupBaseTick | startLimitExpiry | supplyWarningAsserted | supplyWarningCleared
  | drainComplete | trayReadyChange _ | binDoorOpened _ | binDoorClosed _ _ | trayGrant | releaseGrant | pickLaunch
  | pickWindowExpiry _ | leadWindowExpiry _ | trailWindowExpiry _ | releaseWindowExpiry | park | gaugeReading _ _
  | deadlineExpiry _ | gateThrow _ | gatePassage _ | gateClearance _ | jam _ | runoutComplete | breakStatement _
  | condemn _ | reroute | flush | spoilRangeOpening | closingRequest => none

end Instr

/-- A code that names a command of the command index: 01h to 1Eh (section 11.2). -/
def namesCommand (code : Word) : Bool := 1 ≤ code.toNat && code.toNat ≤ 0x1E

end Sys2Proof
end

