-- ==== Sys2Proof/WellFormed.lean ====
section
/-! DEFINITION. What the table's rows ask of a command's operands. -/

namespace Sys2Proof

/-- The offsets of the window whose writes are ignored in some state of the port: GO and COMMAND DATA (while BUSY is
set, R183), the read-only registers and the unused ones. SNAPSHOT SELECT at 10h is always writable (R182). -/
def ignorableOffset (offset : BitVec 5) : Bool := offset.toNat % 2 == 0 && offset != 0x10

/-- A well-formed command. The operands are typed, so that four checks are left:
a code of BAD_COMMAND names no command (R183);
an ignored write names a word register other than SNAPSHOT SELECT (R182);
a lead window lies past the tray exits, where R92 and not R95 speaks;
the time between two pulses is not zero. -/
def WellFormed : Instr → Bool
  | .badCommand code => !namesCommand code
  | .ignoredRegisterWrite offset _ => ignorableOffset offset
  | .leadWindowExpiry sensor => sensor != .f1 && sensor != .f2 && sensor != .f3
  | .encoderPulse elapsed => elapsed != 0
  | .openStatement | .page | .restartStatement | .discardStatement | .queryStatement | .querySheet | .findSheets
  | .trayResume | .queryQueue | .sideReady | .sideFail | .calibrateZero _ _ _ _ | .readSnapshot | .binAccept
  | .binRole | .queryBin _ | .clearJam | .start | .stop | .queryTransport | .setLeg | .setTray | .setSensor | .setGate
  | .setLimits | .setCapacity | .setUnits | .queryProfile _ | .clearNoticeLost | .warmReset | .commandData _ | .result
  | .notice | .noticeData | .call | .callData | .snapshotSelect _ | .coldReset _ | .sensorLineChange _
  | .debounceComplete _ | .encoderSilence | .backupBaseTick | .startLimitExpiry | .supplyWarningAsserted
  | .supplyWarningCleared | .drainComplete | .trayReadyChange _ | .binDoorOpened _ | .binDoorClosed _ _ | .trayGrant
  | .releaseGrant | .pickLaunch | .pickWindowExpiry _ | .trailWindowExpiry _ | .releaseWindowExpiry | .park
  | .gaugeReading _ _ | .deadlineExpiry _ | .gateThrow _ | .gatePassage _ | .gateClearance _ | .jam _
  | .runoutComplete | .breakStatement _ | .condemn _ | .reroute | .flush | .spoilRangeOpening | .closingRequest => true

end Sys2Proof
end

