-- ==== Sys2Proof/Machine/Counts.lean ====
section
/-! DEFINITION. Comparison and arithmetic of path counts (00_scope.md, Conventions; R87). -/

namespace Sys2Proof.Machine

/-- Count `a` reaches count `b`: `a` minus `b` as a signed 32-bit value is zero or greater (R87). -/
def reaches (a b : Count) : Bool := !(a - b).msb

/-- Count `a` lies before count `b`: `a` minus `b` as a signed 32-bit value is less than zero (R87). -/
def liesBefore (a b : Count) : Bool := (a - b).msb

/-- Count `a` is later than count `b`: `a` minus `b` as a signed 32-bit value is greater than zero (00_scope.md). -/
def isLater (a b : Count) : Bool := reaches a b && a != b

/-- The later of two counts. -/
def laterOf (a b : Count) : Count := if isLater a b then a else b

/-- Count `c` lies in the window from `opens` to `closes`, both ends included (R87). -/
def inWindow (c opens closes : Count) : Bool := reaches c opens && reaches closes c

/-- A count and a distance, modulo 2^32 (R87). -/
def plus (c : Count) (d : Nat) : Count := c + BitVec.ofNat 32 d

/-- A count less a distance, modulo 2^32 (R87). -/
def minus (c : Count) (d : Nat) : Count := c - BitVec.ofNat 32 d

end Sys2Proof.Machine
end

