-- ==== Sys2Proof/Machine/Defaults.lean ====
section
/-! DEFINITION. The places of the named settings in their tables, and the defaults of the profile store (R175). -/

namespace Sys2Proof

/-- The code of a tray: T1, T2, T3 as 0, 1, 2 (R185). -/
def Tray.idx : Tray → Fin 3
  | .t1 => 0 | .t2 => 1 | .t3 => 2

/-- The code of a sensor, 0 to 13 (R185). -/
def Sensor.idx : Sensor → Fin 14
  | .f1 => 0 | .f2 => 1 | .f3 => 2 | .reg => 3 | .xfer => 4 | .fuse => 5 | .dup1 => 6 | .dup2 => 7 | .out => 8
  | .b1 => 9 | .b2 => 10 | .b3 => 11 | .b4 => 12 | .bp => 13

/-- The code of a gate, D as 0 (R185). -/
def Gate.idx : Gate → Fin 5
  | .d => 0 | .g1 => 1 | .g2 => 2 | .g3 => 3 | .g4 => 4

/-- The code of a bin, P as 4 (R185). -/
def Bin.idx : Bin → Fin 5
  | .b1 => 0 | .b2 => 1 | .b3 => 2 | .b4 => 3 | .p => 4

/-- The code of a leg, or of the park distance (R176). -/
def Leg.idx : Leg → Fin 15
  | .f1Reg => 0 | .f2Reg => 1 | .f3Reg => 2 | .releaseReg => 3 | .regXfer => 4 | .xferFuse => 5 | .fuseOut => 6
  | .fuseDup1 => 7 | .dup1Dup2 => 8 | .outB1 => 9 | .outB2 => 10 | .outB3 => 11 | .outB4 => 12 | .outBp => 13
  | .park => 14

/-- The code of a limit (R176). -/
def Limit.idx : Limit → Fin 15
  | .throwLead => 0 | .clearanceMargin => 1 | .holdPolicy => 2 | .leadTolerance => 3 | .trailTolerance => 4
  | .pickDistance => 5 | .pickTolerance => 6 | .debounceDistance => 7 | .minimumGap => 8 | .routeChangeGap => 9
  | .loopGuard => 10 | .sideReadyMargin => 11 | .backupMultiplier => 12 | .oversizeThreshold => 13
  | .unknownLengthReserve => 14

/-- The trays in code order. -/
def Tray.all : List Tray := [.t1, .t2, .t3]

/-- The sensors in code order. -/
def Sensor.all : List Sensor := [.f1, .f2, .f3, .reg, .xfer, .fuse, .dup1, .dup2, .out, .b1, .b2, .b3, .b4, .bp]

/-- The gates in code order. -/
def Gate.all : List Gate := [.d, .g1, .g2, .g3, .g4]

/-- The bins in code order. -/
def Bin.all : List Bin := [.b1, .b2, .b3, .b4, .p]

/-- The legs and the park distance in code order. -/
def Leg.all : List Leg :=
  [.f1Reg, .f2Reg, .f3Reg, .releaseReg, .regXfer, .xferFuse, .fuseOut, .fuseDup1, .dup1Dup2, .outB1, .outB2, .outB3,
   .outB4, .outBp, .park]

/-- The limits in code order. -/
def Limit.all : List Limit :=
  [.throwLead, .clearanceMargin, .holdPolicy, .leadTolerance, .trailTolerance, .pickDistance, .pickTolerance,
   .debounceDistance, .minimumGap, .routeChangeGap, .loopGuard, .sideReadyMargin, .backupMultiplier,
   .oversizeThreshold, .unknownLengthReserve]

/-- The default of a leg or of the park distance (R175). -/
def Leg.default : Leg → Nat
  | .f1Reg => 1400 | .f2Reg => 1700 | .f3Reg => 2000 | .releaseReg => 600 | .regXfer => 800 | .xferFuse => 1000
  | .fuseOut => 700 | .fuseDup1 => 900 | .dup1Dup2 => 2400 | .outB1 => 500 | .outB2 => 900 | .outB3 => 1300
  | .outB4 => 1700 | .outBp => 2100 | .park => 150

/-- The default of a limit; the hold policy is coded HOLD 0, REST 1 (R175). -/
def Limit.default : Limit → Nat
  | .throwLead => 120 | .clearanceMargin => 40 | .holdPolicy => 0 | .leadTolerance => 60 | .trailTolerance => 40
  | .pickDistance => 300 | .pickTolerance => 80 | .debounceDistance => 8 | .minimumGap => 200
  | .routeChangeGap => 300 | .loopGuard => 1400 | .sideReadyMargin => 400 | .backupMultiplier => 2
  | .oversizeThreshold => 40 | .unknownLengthReserve => 50

/-- The default of a gate offset (R175). -/
def Gate.defaultOffset : Gate → Nat
  | .d => 350 | .g1 => 250 | .g2 => 650 | .g3 => 1050 | .g4 => 1450

/-- The default of a bin capacity (R175). -/
def Bin.defaultCapacity : Bin → Nat
  | .p => 500 | .b1 | .b2 | .b3 | .b4 => 1500

/-- The range of a leg or of the park distance (R175). -/
def Leg.range : Leg → Nat × Nat
  | .park => (50, 1000)
  | .f1Reg | .f2Reg | .f3Reg | .releaseReg | .regXfer | .xferFuse | .fuseOut | .fuseDup1 | .dup1Dup2 | .outB1
  | .outB2 | .outB3 | .outB4 | .outBp => (100, 20000)

/-- The range of a limit (R175). -/
def Limit.range : Limit → Nat × Nat
  | .throwLead => (10, 1000) | .clearanceMargin => (0, 500) | .holdPolicy => (0, 1)
  | .leadTolerance => (10, 500) | .trailTolerance => (10, 500) | .pickDistance => (50, 5000)
  | .pickTolerance => (10, 500) | .debounceDistance => (1, 64) | .minimumGap => (50, 5000)
  | .routeChangeGap => (0, 5000) | .loopGuard => (0, 20000) | .sideReadyMargin => (100, 5000)
  | .backupMultiplier => (1, 4) | .oversizeThreshold => (1, 4095) | .unknownLengthReserve => (1, 4000)

end Sys2Proof
end

