-- ==== Sys2Proof/Machine/State.lean ====
section
/-! DEFINITION. The state of the part as plain data, block by block, and the state right after cold reset. -/

namespace Sys2Proof.Machine

/-- No command of the part ends in a fault of the model: a refused command is answered with a result code (R184), and
a path fault is a jam, which the part takes and goes on (R147). So there is no reason to list. -/
inductive Fault
deriving DecidableEq, Repr

/-- Why a command has no meaning. -/
inductive Refusal
  /-- Raised by an arm of exec whose command has no meaning yet; safe (the model stops where the part goes on). No arm
  raises it now. -/
  | notModelled (mnemonic : String)
deriving DecidableEq, Repr

/-! ## Statement Table Unit (chapter 1) -/

/-- The state of a record that is not FREE (R1), coded from 1 (R185). -/
inductive StatementState | opened | closed | broken | abandoned
deriving DecidableEq, Repr

/-- The plex of a statement (R1). -/
inductive Plex | simplex | duplex
deriving DecidableEq, Repr

/-- The bin class of a statement (R1, R4). -/
inductive BinClass | standard | oversize
deriving DecidableEq, Repr

/-- The six causes of a break, in the order of R1. -/
inductive BreakCause | jam | blank | gauge | binOpened | binOverflow | reset
deriving DecidableEq, Repr

/-- A statement record that is not FREE (R1). -/
structure Statement where
  state      : StatementState
  ident      : Ident
  account    : Ident
  plex       : Plex
  binClass   : BinClass
  declared   : Option Nat
  generation : Nat
  nextPage   : Nat
  queued     : Nat
  admitted   : Nat
  delivered  : Nat
  inFlight   : Nat
  bin        : Option Bin
  firstPos   : Option Nat
  lastPos    : Option Nat
  cause      : Option BreakCause
  lastSeen   : Bool
deriving DecidableEq, Repr

/-- The Statement Table, FREE as `none` (R1), and the opening numbers (R2). -/
structure StatementUnit where
  table    : Vector (Option Statement) 16
  openings : Vector Word 16
deriving DecidableEq, Repr

/-- The pair by which blocks inside the part name a statement (R2): the owner of a sheet (R22), an entry of a stacking
list, and the owner that last statement names (R126). -/
structure Owner where
  slot       : Slot
  generation : Nat
deriving DecidableEq, Repr

/-! ## Sheet Table Unit (chapter 2) -/

/-- The state of a live record (R21, R24), coded from 1 (R185). -/
inductive SheetState | picking | main | loop | parked | output | stranded
deriving DecidableEq, Repr

/-- Why a sheet is condemned (R34). -/
inductive CondemnCause | blank | gauge | broken
deriving DecidableEq, Repr

/-- The state of a side in a sheet record (R21): `none_` is NONE, which only a back pitch takes. -/
inductive SideState | none_ | called | ready | imaging | done | missed
deriving DecidableEq, Repr

/-- The verdict of a gauge burst (R102). -/
inductive Verdict | normal | double | thin
deriving DecidableEq, Repr

/-- The trail the PTK awaits next for a sheet (R21, R27). `widened` is the mark of R105 for this window; `expired` is
the model's mark that its expiry has been taken (log 19). -/
structure TrailPending where
  sensor  : Sensor
  opens   : Count
  closes  : Count
  widened : Bool
  expired : Bool
deriving DecidableEq, Repr

/-- The result of a gauge burst (R21, R32). -/
structure GaugeResult where
  readings : List Nat
  verdict  : Verdict
deriving DecidableEq, Repr

/-- A live sheet record (R21). `back` is absent for SIMPLEX. -/
structure Sheet where
  state        : SheetState
  slot         : Slot
  generation   : Nat
  page         : Nat
  last         : Bool
  plex         : Plex
  tray         : Tray
  length       : Nat
  target       : Bin
  condemned    : Option CondemnCause
  front        : SideState
  back         : Option SideState
  lastSensor   : Option Sensor
  lastLead     : Option Count
  trail        : Option TrailPending
  attempts     : Nat
  gauge        : Option GaugeResult
  divert       : Bool
  runOut       : Bool
deriving DecidableEq, Repr

/-! ## Admission Controller (chapter 3) -/

/-- A feed queue entry (R44). -/
structure Entry where
  slot       : Slot
  generation : Nat
  page       : Nat
  last       : Bool
  tray       : Tray
  attempts   : Nat
deriving DecidableEq, Repr

/-- The two feed queues (R44). -/
inductive Queue | new | restart
deriving DecidableEq, Repr

/-- The hold reasons, coded NONE 0 to EMPTY 12 (R55, R185). -/
inductive HoldReason
  | none_ | transport | pickBusy | tag | tray | sequence | depth | loopGuard | bin | credit | order | purge | empty
deriving DecidableEq, Repr

/-- The condition of a tray (R48). -/
inductive TrayCondition | ok | suspect | failed
deriving DecidableEq, Repr

/-- A pick pending (not issued) or in progress: the copy of the entry and its source queue, which holds the picking
place (R47, R60, R61). -/
structure Pick where
  entry  : Entry
  source : Queue
  tag    : Tag
  launch : Count
  issued : Bool
deriving DecidableEq, Repr

/-- The previous-grant record (R50). -/
structure PreviousGrant where
  tag       : Tag
  predicted : Count
  length    : Nat
  target    : Bin
  plex      : Plex
deriving DecidableEq, Repr

/-- The Admission Controller. `suspects` holds the suspect claims sent by the PTK and not yet taken (R49, log 22). -/
structure Admission where
  newQueue     : List Entry
  restartQueue : List Entry
  newHold      : HoldReason
  restartHold  : HoldReason
  pick         : Option Pick
  previous     : Option PreviousGrant
  starvation   : Nat
  conditions   : Vector TrayCondition 3
  pickLines    : Vector Bool 3
  releaseLine  : Bool
  suspects     : List Tray
deriving DecidableEq, Repr

/-! ## Transfer Sequencer (chapter 4) -/

/-- The side of a pitch (R67). -/
inductive Side | front | back
deriving DecidableEq, Repr

/-- The state of a pitch in the list (R67). -/
inductive PitchState | called | ready | missed | imaging
deriving DecidableEq, Repr

/-- The miss reason of a MISSED pitch (R67). -/
inductive MissReason | deadline | fail
deriving DecidableEq, Repr

/-- A pitch (R67). -/
structure Pitch where
  call       : Word
  tag        : Tag
  slot       : Slot
  generation : Nat
  page       : Nat
  side       : Side
  state      : PitchState
  deadline   : Count
  reason     : Option MissReason
  registered : Bool
  read       : Bool
deriving DecidableEq, Repr

/-- The Transfer Sequencer (R67, R68, R78); `halted` while deadline expiries are not taken (R81). -/
structure Sequencer where
  pitches        : List Pitch
  nextCall       : Word
  transferEnable : Bool
  halted         : Bool
deriving DecidableEq, Repr

/-! ## Path Tracker (chapter 5) -/

/-- An entry of an expectation list (R90), with the pair that the PTK holds for its claims on the record (R22, log 40). -/
structure Expectation where
  tag     : Tag
  owner   : Owner
  opens   : Count
  closes  : Count
  widened : Bool
deriving DecidableEq, Repr

/-- The release window (R100), with the marks of `TrailPending`. -/
structure ReleaseWindow where
  tag     : Tag
  opens   : Count
  closes  : Count
  widened : Bool
  expired : Bool
deriving DecidableEq, Repr

/-- The park watch (R98), with the pair of its claim (R22, log 40). -/
structure ParkWatch where
  tag   : Tag
  owner : Owner
  count : Count
deriving DecidableEq, Repr

/-- A running gauge burst (R101), with the pair of its claim (R22, log 40). -/
structure Burst where
  tag      : Tag
  owner    : Owner
  tray     : Tray
  regLead  : Count
  readings : List Nat
deriving DecidableEq, Repr

/-- The ten jam causes, in the order of the jam record (R146). -/
inductive JamCause
  | late | early | unexpected | short | stall | overlap | trackFull | loopOverrun | gateConflict | binOpen
deriving DecidableEq, Repr

/-- The jam snapshot (R109); a level is true for COVERED. -/
structure Snapshot where
  levels : Vector Bool 14
  count  : Count
  cause  : Option JamCause
  sensor : Sensor
  tag    : Option Tag
  second : Bool
  locked : Bool
deriving DecidableEq, Repr

/-- The Path Tracker. `debounced` is true for COVERED; `debounce` holds the count of the first change of a debounce in
progress (R88). -/
structure Tracker where
  debounced  : Vector Bool 14
  debounce   : Vector (Option Count) 14
  lists      : Vector (List Expectation) 14
  release    : Option ReleaseWindow
  park       : Option ParkWatch
  burst      : Option Burst
  frozen     : Bool
  zeroOffset : Nat
  verdicts   : Vector Nat 3
  snapshot   : Snapshot
deriving DecidableEq, Repr

/-! ## Gate Scheduler (chapter 6) -/

/-- The kind of a gate request (R113). -/
inductive RequestKind | throw | passage
deriving DecidableEq, Repr

/-- A request in a gate's pending list (R113), with the pair of its claim (R22, log 40). -/
structure GateRequest where
  tag   : Tag
  owner : Owner
  kind  : RequestKind
  count : Count
deriving DecidableEq, Repr

/-- The holder of a thrown gate and its clearance count, which come and go together (R113). -/
structure Hold where
  tag       : Tag
  clearance : Count
deriving DecidableEq, Repr

/-- A gate record (R113): the position is thrown exactly while there is a holder. -/
structure GateRecord where
  hold    : Option Hold
  waiting : List GateRequest
deriving DecidableEq, Repr

/-- The Gate Scheduler: records, actuator lines and the freeze (R113, R123, R124). -/
structure Gates where
  records : Vector GateRecord 5
  lines   : Vector Bool 5
  frozen  : Bool
deriving DecidableEq, Repr

/-! ## Bin Manager (chapter 7) -/

/-- The role of a bin (R126). -/
inductive BinRole | standard | oversize | off | purge
deriving DecidableEq, Repr

/-- The state of a bin (R126, R127). -/
inductive BinState | ready | full | fenced | doorOpen | check | off
deriving DecidableEq, Repr

/-- A spoil range (R134); `isOpen` for the status OPEN. -/
structure SpoilRange where
  first  : Nat
  last   : Nat
  ident  : Ident
  isOpen : Bool
deriving DecidableEq, Repr

/-- A bin record (R126). The capacity has its one home in the profile store. `jogRight` is true for RIGHT. P's
stacking list, spoil list, jog and last statement stay as at reset (R126, R133). -/
structure BinRecord where
  role     : BinRole
  state    : BinState
  fill     : Nat
  reserved : Nat
  stacking : List Owner
  spoil    : List SpoilRange
  jogRight : Bool
  last     : Option Owner
deriving DecidableEq, Repr

/-- The Bin Manager: the five records and the current standard bin pointer (R126). -/
structure Bins where
  records : Vector BinRecord 5
  pointer : Bin
deriving DecidableEq, Repr

/-! ## Jam handling and the Transport Supervisor (chapters 8 and 9) -/

/-- The drive section of a sensor (R89). -/
inductive Section | main | output
deriving DecidableEq, Repr

/-- The jam record (R146). -/
structure JamRecord where
  cause       : Option JamCause
  sensor      : Sensor
  tag         : Option Tag
  section_    : Section
  count       : Count
  runOutCount : Nat
  further     : Nat
  delivered   : List Tag
deriving DecidableEq, Repr

/-- The transport states (R162). -/
inductive TransportState | stopped | starting | running | draining | runout | jammed
deriving DecidableEq, Repr

/-- The transport causes, in the order of R185. -/
inductive TransportCause
  | start | startComplete | startFailed | stop | supply | purgeDoor | encoderLost | drainComplete | jam
  | runoutComplete | secondFault | clearJam
deriving DecidableEq, Repr

/-- The reason carried by a TRANSPORT notice (R187). -/
inductive StartReason | none_ | timeout | encoder
deriving DecidableEq, Repr

/-- The open measurement span (R163): its counts so far and the real time they took, in nanoseconds (log 9). -/
structure Span where
  counts : Nat
  time   : Nat
deriving DecidableEq, Repr

/-- The transport record (R162), the path count (R163), the open span and the silence watch (R169). A run line is true
while asserted. -/
structure Transport where
  state        : TransportState
  cause        : Option TransportCause
  mainRun      : Bool
  outputRun    : Bool
  startCount   : Option Count
  pathCount    : Count
  rate         : Option Nat
  encoderLost  : Bool
  pulseSince   : Bool
  backup       : Bool
  span         : Option Span
  silenceWatch : Bool
deriving DecidableEq, Repr

/-! ## Profile store (chapter 10) -/

/-- The line level that means COVERED (R88). -/
inductive Polarity | high | low
deriving DecidableEq, Repr

/-- The settings of one tray (R175). -/
structure TraySettings where
  length   : Nat
  bandLow  : Nat
  bandHigh : Nat
deriving DecidableEq, Repr

/-- The profile store (R175, R178). -/
structure Profile where
  legs       : Vector Nat 15
  trays      : Vector TraySettings 3
  polarity   : Vector Polarity 14
  offsets    : Vector Nat 5
  limits     : Vector Nat 15
  capacities : Vector Nat 5
  fitted     : Units
  enabled    : Units
deriving DecidableEq, Repr

/-! ## Command Port (chapter 11) -/

/-- Why a pitch was withdrawn (R187). -/
inductive WithdrawCause | misfeed | clear
deriving DecidableEq, Repr

/-- The events of a BIN notice (R187). -/
inductive BinEvent | full | fenced | doorOpen | doorClosed | check | ready
deriving DecidableEq, Repr

/-- The kind of a reset (R187). -/
inductive ResetKind | cold | warm
deriving DecidableEq, Repr

/-- The notices (R187). -/
inductive Notice
  | stmtComplete (slot : Slot) (ident : Ident) (bin : Bin) (first last : Nat)
  | stmtBroken (slot : Slot) (ident : Ident) (cause : BreakCause) (delivered : Nat)
  | stmtAbandoned (slot : Slot) (ident : Ident) (cause : BreakCause) (delivered : Nat)
  | pitchWithdrawn (call : Word) (tag : Tag) (side : Side) (slot : Slot) (page : Nat) (cause : WithdrawCause)
  | pitchMissed (call : Word) (tag : Tag) (side : Side) (slot : Slot) (page : Nat) (reason : MissReason)
  | jam (cause : JamCause) (sensor : Sensor) (tag : Option Tag) (section_ : Section) (count : Count) (second : Bool)
  | transport (state : TransportState) (cause : TransportCause) (reason : StartReason)
  | tray (tray : Tray) (condition : TrayCondition)
  | bin (bin : Bin) (event : BinEvent) (fill : Nat)
  | supply (asserted : Bool) (state : TransportState)
  | reset (kind : ResetKind)
deriving DecidableEq, Repr

/-- The Command Port (R183 to R190). `readData` is the word the last register read returned (log 8). -/
structure Port where
  buffer       : List Word
  overrun      : Bool
  busy         : Bool
  result       : List Word
  cursor       : Nat
  notices      : List Notice
  noticeBuffer : List Word
  callBuffer   : List Word
  noticeLost   : Bool
  select       : Nat
  readData     : Word
deriving DecidableEq, Repr

/-! ## Requests between blocks, lines, and the whole -/

/-- A path fault handed to jam handling (R147). -/
structure PathFault where
  cause  : JamCause
  sensor : Sensor
  tag    : Option Tag
deriving DecidableEq, Repr

/-- A break request (R12); the opening number stands in the requests of the ADM and the BNM (R2). -/
structure BreakRequest where
  slot       : Slot
  generation : Nat
  cause      : BreakCause
  opening    : Option Word
deriving DecidableEq, Repr

/-- A condemnation claim on one record, or with no tag on every live record of the pair (R34). -/
structure CondemnClaim where
  tag        : Option Tag
  slot       : Slot
  generation : Nat
  cause      : CondemnCause
deriving DecidableEq, Repr

/-- A reroute request for one record, or with no tag for every live record of the pair (R120). -/
structure RerouteRequest where
  tag        : Option Tag
  slot       : Slot
  generation : Nat
deriving DecidableEq, Repr

/-- A request of the STU to the BNM about a broken statement (R135). -/
inductive BinRequest
  | opening (bin : Bin) (ident : Ident) (first last : Nat)
  | closing (bin : Bin) (slot : Slot) (generation : Nat) (ident : Ident)
deriving DecidableEq, Repr

/-- A delivery retirement claim of the BNM, with the pair of the record (R22, R36). -/
structure Retirement where
  tag   : Tag
  owner : Owner
deriving DecidableEq, Repr

/-- The requests and claims sent and not yet taken by their owner, oldest first (logs 1 and 41). -/
structure Requests where
  faults   : List PathFault
  breaks   : List BreakRequest
  condemns : List CondemnClaim
  reroutes : List RerouteRequest
  flushes  : List Owner
  bins     : List BinRequest
  retires  : List Retirement
deriving DecidableEq, Repr

/-- The input lines (00_scope.md, Pin summary). A sensor line is true at HIGH, a door line true while it shows the door
open, every other line true while asserted, active or high. -/
structure Lines where
  sensors       : Vector Bool 14
  trayReady     : Vector Bool 3
  doors         : Vector Bool 5
  empties       : Vector Bool 5
  supplyWarning : Bool
  gauge         : BitVec 10
  straps        : Units
deriving DecidableEq, Repr

/-- The whole part, and the queue of the commands that are waiting. -/
structure State where
  pending  : List Instr
  stu      : StatementUnit
  sheets   : Vector (Option Sheet) 48
  adm      : Admission
  tsq      : Sequencer
  ptk      : Tracker
  gsc      : Gates
  bnm      : Bins
  jam      : JamRecord
  tsv      : Transport
  profile  : Profile
  cpt      : Port
  lines    : Lines
  requests : Requests
deriving DecidableEq, Repr

/-! ## Cold reset -/

/-- The defaults of the profile store, with the latched straps (R175, R178, R180). A strap at HIGH latches its unit as
fitted: the manual says so of FOUR BINS (00_scope.md) and GAUGE FITTED (section 5.6), and the model takes DUPLEX FITTED the
same way (log 39). -/
def Profile.atReset (straps : Units) : Profile where
  legs := Vector.ofFn fun i => (Leg.all[i.val]?.getD .park).default
  trays := Vector.replicate 3 { length := 1118, bandLow := 180, bandHigh := 260 }
  polarity := Vector.replicate 14 .high
  offsets := Vector.ofFn fun i => (Gate.all[i.val]?.getD .d).defaultOffset
  limits := Vector.ofFn fun i => (Limit.all[i.val]?.getD .throwLead).default
  capacities := Vector.ofFn fun i => (Bin.all[i.val]?.getD .p).defaultCapacity
  fitted := straps
  enabled := straps

/-- The role of a bin after cold reset (R127). -/
def BinRole.atReset (fourBins : Bool) : Bin → BinRole
  | .b1 | .b2 => .standard
  | .b3 => if fourBins then .standard else .off
  | .b4 => if fourBins then .oversize else .off
  | .p => .purge

/-- A bin record after cold reset (R145). -/
def BinRecord.atReset (role : BinRole) (doorOpen : Bool) : BinRecord where
  role := role
  state := if role = .off then .off else if doorOpen then .doorOpen else .check
  fill := 0
  reserved := 0
  stacking := []
  spoil := []
  jogRight := false
  last := none

/-- The empty snapshot (R112). -/
def Snapshot.atReset : Snapshot where
  levels := Vector.replicate 14 false
  count := 0
  cause := none
  sensor := .f1
  tag := none
  second := false
  locked := false

/-- The Path Tracker after cold reset: the polarities are HIGH, so the debounced levels are the line levels (R112). -/
def Tracker.atReset (sensors : Vector Bool 14) : Tracker where
  debounced := sensors
  debounce := Vector.replicate 14 none
  lists := Vector.replicate 14 []
  release := none
  park := none
  burst := none
  frozen := false
  zeroOffset := 0
  verdicts := Vector.replicate 3 0
  snapshot := Snapshot.atReset

/-- The Admission Controller after cold reset (R66). -/
def Admission.atReset : Admission where
  newQueue := []
  restartQueue := []
  newHold := .transport
  restartHold := .transport
  pick := none
  previous := none
  starvation := 0
  conditions := Vector.replicate 3 .ok
  pickLines := Vector.replicate 3 false
  releaseLine := false
  suspects := []

/-- The Transfer Sequencer after either reset (R86). -/
def Sequencer.atReset : Sequencer where
  pitches := []
  nextCall := 0
  transferEnable := false
  halted := false

/-- The Gate Scheduler after either reset (R125). -/
def Gates.atReset : Gates where
  records := Vector.replicate 5 { hold := none, waiting := [] }
  lines := Vector.replicate 5 false
  frozen := false

/-- The jam record after either reset (R161). -/
def JamRecord.atReset : JamRecord where
  cause := none
  sensor := .f1
  tag := none
  section_ := .main
  count := 0
  runOutCount := 0
  further := 0
  delivered := []

/-- The transport after cold reset (R174). -/
def Transport.atReset : Transport where
  state := .stopped
  cause := none
  mainRun := false
  outputRun := false
  startCount := none
  pathCount := 0
  rate := none
  encoderLost := false
  pulseSince := false
  backup := false
  span := none
  silenceWatch := false

/-- The Command Port after cold reset: the RESET(cold) notice alone in the queue (R191). -/
def Port.atReset : Port where
  buffer := []
  overrun := false
  busy := false
  result := []
  cursor := 0
  notices := [.reset .cold]
  noticeBuffer := []
  callBuffer := []
  noticeLost := false
  select := 0
  readData := 0

/-- No request is waiting. -/
def Requests.empty : Requests where
  faults := []
  breaks := []
  condemns := []
  reroutes := []
  flushes := []
  bins := []
  retires := []

/-- Every block at its cold reset values, with the input lines as they stand (R191). -/
def State.afterColdReset (pending : List Instr) (lines : Lines) : State where
  pending := pending
  stu := { table := Vector.replicate 16 none, openings := Vector.replicate 16 0 }
  sheets := Vector.replicate 48 none
  adm := Admission.atReset
  tsq := Sequencer.atReset
  ptk := Tracker.atReset lines.sensors
  gsc := Gates.atReset
  bnm :=
    { records := Vector.ofFn fun i =>
        BinRecord.atReset (BinRole.atReset lines.straps.fourBins (Bin.all[i.val]?.getD .p)) lines.doors[i]
      pointer := .b1 }
  jam := JamRecord.atReset
  tsv := Transport.atReset
  profile := Profile.atReset lines.straps
  cpt := Port.atReset
  lines := lines
  requests := Requests.empty

/-- The line levels at power-on: the board's, which the manual does not give. DESIGN CHOICE, log 7. -/
def Lines.atPowerOn : Lines where
  sensors := Vector.replicate 14 false
  trayReady := Vector.replicate 3 true
  doors := Vector.replicate 5 false
  empties := Vector.replicate 5 false
  supplyWarning := false
  gauge := 0
  straps := { duplex := true, fourBins := true, gauge := true }

/-- The part right after power-on. -/
def State.reset : State := State.afterColdReset [] Lines.atPowerOn

end Sys2Proof.Machine
end

