-- ==== Sys2Proof/Machine/Operands.lean ====
section
/-! DEFINITION. How values are coded in words (R184, R185, R187 to R189), and how argument words are read. -/

namespace Sys2Proof.Machine

/-! ## Codes -/

/-- A count, index, tag, slot, position, distance or reading in one word (R185). -/
def word (n : Nat) : Word := BitVec.ofNat 16 n

/-- A path count, statement id or account reference in two words, low word first (R185). -/
def dword (v : BitVec 32) : List Word := [v.extractLsb' 0 16, v.extractLsb' 16 16]

/-- The value of two argument words, low word first (R185). -/
def ofDword (lo hi : Word) : BitVec 32 := hi ++ lo

/-- A yes/no field: no 0, yes 1 (R185). -/
def yesNo (b : Bool) : Word := if b then 1 else 0

/-- A line level, whose values are first listed as "asserted, withdrawn" (R162, R185; log 16): asserted 0. -/
def lineLevel (asserted : Bool) : Word := if asserted then 0 else 1

/-- An optional value of `n` value words: a presence word, then the words, 0 when absent (R185). -/
def optWords (n : Nat) : Option (List Word) → List Word
  | none => 0 :: List.replicate n 0
  | some ws => 1 :: ws

/-- A list with room for `room` entries of `width` words: a count word, the entries, 0 in the unused ones (R185). -/
def listWords (room width : Nat) (entries : List (List Word)) : List Word :=
  let kept := entries.take room
  word kept.length :: (kept.flatten ++ List.replicate ((room - kept.length) * width) 0)

def StatementState.code : StatementState → Word
  | .opened => 1 | .closed => 2 | .broken => 3 | .abandoned => 4

def Plex.code : Plex → Word
  | .simplex => 0 | .duplex => 1

def BinClass.code : BinClass → Word
  | .standard => 0 | .oversize => 1

def BreakCause.code : BreakCause → Word
  | .jam => 0 | .blank => 1 | .gauge => 2 | .binOpened => 3 | .binOverflow => 4 | .reset => 5

def SheetState.code : SheetState → Word
  | .picking => 1 | .main => 2 | .loop => 3 | .parked => 4 | .output => 5 | .stranded => 6

def CondemnCause.code : CondemnCause → Word
  | .blank => 0 | .gauge => 1 | .broken => 2

/-- The front pitch of a record: CALLED, READY, IMAGING, DONE, MISSED (R21). A front pitch is never NONE. -/
def SideState.frontCode : SideState → Word
  | .none_ => 0 | .called => 0 | .ready => 1 | .imaging => 2 | .done => 3 | .missed => 4

/-- The back pitch of a record: NONE, CALLED, READY, IMAGING, DONE, MISSED (R21). -/
def SideState.backCode : SideState → Word
  | .none_ => 0 | .called => 1 | .ready => 2 | .imaging => 3 | .done => 4 | .missed => 5

def Verdict.code : Verdict → Word
  | .normal => 0 | .double => 1 | .thin => 2

def HoldReason.code : HoldReason → Word
  | .none_ => 0 | .transport => 1 | .pickBusy => 2 | .tag => 3 | .tray => 4 | .sequence => 5 | .depth => 6
  | .loopGuard => 7 | .bin => 8 | .credit => 9 | .order => 10 | .purge => 11 | .empty => 12

def TrayCondition.code : TrayCondition → Word
  | .ok => 0 | .suspect => 1 | .failed => 2

def Side.code : Side → Word
  | .front => 0 | .back => 1

def PitchState.code : PitchState → Word
  | .called => 0 | .ready => 1 | .missed => 2 | .imaging => 3

def MissReason.code : MissReason → Word
  | .deadline => 0 | .fail => 1

def JamCause.code : JamCause → Word
  | .late => 0 | .early => 1 | .unexpected => 2 | .short => 3 | .stall => 4 | .overlap => 5 | .trackFull => 6
  | .loopOverrun => 7 | .gateConflict => 8 | .binOpen => 9

def BinRole.code : BinRole → Word
  | .standard => 0 | .oversize => 1 | .off => 2 | .purge => 3

def BinState.code : BinState → Word
  | .ready => 0 | .full => 1 | .fenced => 2 | .doorOpen => 3 | .check => 4 | .off => 5

def Section.code : Section → Word
  | .main => 0 | .output => 1

def TransportState.code : TransportState → Word
  | .stopped => 0 | .starting => 1 | .running => 2 | .draining => 3 | .runout => 4 | .jammed => 5

def TransportCause.code : TransportCause → Word
  | .start => 0 | .startComplete => 1 | .startFailed => 2 | .stop => 3 | .supply => 4 | .purgeDoor => 5
  | .encoderLost => 6 | .drainComplete => 7 | .jam => 8 | .runoutComplete => 9 | .secondFault => 10 | .clearJam => 11

def StartReason.code : StartReason → Word
  | .none_ => 0 | .timeout => 1 | .encoder => 2

def Polarity.code : Polarity → Word
  | .high => 0 | .low => 1

def WithdrawCause.code : WithdrawCause → Word
  | .misfeed => 0 | .clear => 1

def BinEvent.code : BinEvent → Word
  | .full => 0 | .fenced => 1 | .doorOpen => 2 | .doorClosed => 3 | .check => 4 | .ready => 5

def ResetKind.code : ResetKind → Word
  | .cold => 0 | .warm => 1

def trayCode (t : Tray) : Word := word t.idx
def sensorCode (s : Sensor) : Word := word s.idx
def binCode (b : Bin) : Word := word b.idx
def tagCode (t : Tag) : Word := word t.val
def slotCode (s : Slot) : Word := word s.val

/-- The result codes (R184). -/
inductive ResultCode
  | ok | badCommand | badArgument | state | noEntry | duplicate | unknown | order | queueFull | stale | late | wait
  | covered | limit
deriving DecidableEq, Repr

/-- The low byte of a result header (R184). -/
def ResultCode.code : ResultCode → Nat
  | .ok => 0 | .badCommand => 1 | .badArgument => 2 | .state => 3 | .noEntry => 4 | .duplicate => 5 | .unknown => 6
  | .order => 7 | .queueFull => 8 | .stale => 9 | .late => 10 | .wait => 11 | .covered => 12 | .limit => 13

/-- A header word: the low byte, and the number of words of the record in the high byte (R184, R187, R188). -/
def header (low count : Nat) : Word := word (count * 256 + low)

/-! ## Argument words -/

/-- A yes/no argument (R185). -/
def argBool (w : Word) : Option Bool :=
  if w = 0 then some false else if w = 1 then some true else none

def argTag (w : Word) : Option Tag := if h : w.toNat < 48 then some ⟨w.toNat, h⟩ else none
def argSlot (w : Word) : Option Slot := if h : w.toNat < 16 then some ⟨w.toNat, h⟩ else none
def argTray (w : Word) : Option Tray := Tray.all[w.toNat]?
def argSensor (w : Word) : Option Sensor := Sensor.all[w.toNat]?
def argGate (w : Word) : Option Gate := Gate.all[w.toNat]?
def argBin (w : Word) : Option Bin := Bin.all[w.toNat]?
def argLeg (w : Word) : Option Leg := Leg.all[w.toNat]?
def argLimit (w : Word) : Option Limit := Limit.all[w.toNat]?

def argPlex (w : Word) : Option Plex :=
  if w = 0 then some .simplex else if w = 1 then some .duplex else none

def argSide (w : Word) : Option Side :=
  if w = 0 then some .front else if w = 1 then some .back else none

def argQueue (w : Word) : Option Queue :=
  if w = 0 then some .new else if w = 1 then some .restart else none

def argPolarity (w : Word) : Option Polarity :=
  if w = 0 then some .high else if w = 1 then some .low else none

/-- The roles BIN ROLE takes: STANDARD, OVERSIZE and OFF (R142). -/
def argRole (w : Word) : Option BinRole :=
  if w = 0 then some .standard else if w = 1 then some .oversize else if w = 2 then some .off else none

/-- A number within a range, both ends included (00_scope.md, Conventions). -/
def argIn (w : Word) (lo hi : Nat) : Option Nat :=
  if lo ≤ w.toNat ∧ w.toNat ≤ hi then some w.toNat else none

/-! ## Notices and the snapshot -/

/-- The kind of a notice, the low byte of its header (R187). -/
def Notice.kind : Notice → Nat
  | .stmtComplete .. => 1 | .stmtBroken .. => 2 | .stmtAbandoned .. => 3 | .pitchWithdrawn .. => 4
  | .pitchMissed .. => 5 | .jam .. => 6 | .transport .. => 7 | .tray .. => 8 | .bin .. => 9 | .supply .. => 10
  | .reset .. => 11

/-- The words of a notice after its header (R187). -/
def Notice.words : Notice → List Word
  | .stmtComplete slot ident b first last =>
      slotCode slot :: dword ident ++ [binCode b, word first, word last]
  | .stmtBroken slot ident cause delivered =>
      slotCode slot :: dword ident ++ [cause.code, word delivered]
  | .stmtAbandoned slot ident cause delivered =>
      slotCode slot :: dword ident ++ [cause.code, word delivered]
  | .pitchWithdrawn call tag side slot page cause =>
      [call, tagCode tag, side.code, slotCode slot, word page, cause.code]
  | .pitchMissed call tag side slot page reason =>
      [call, tagCode tag, side.code, slotCode slot, word page, reason.code]
  | .jam cause sensor tag sec count second =>
      [cause.code, sensorCode sensor] ++ optWords 1 (tag.map fun t => [tagCode t]) ++ [sec.code] ++ dword count
        ++ [yesNo second]
  | .transport state cause reason => [state.code, cause.code, reason.code]
  | .tray t condition => [trayCode t, condition.code]
  | .bin b event fill => [binCode b, event.code, word fill]
  | .supply asserted state => [lineLevel asserted, state.code]
  | .reset kind => [kind.code]

/-- The header of a notice: its kind, and its words with the header (R187). -/
def Notice.header (n : Notice) : Word := Machine.header n.kind (n.words.length + 1)

/-- Bit `n` set for each true level `n` (R189, word 0). -/
def levelBits (levels : Vector Bool 14) : Word :=
  word ((List.finRange 14).foldl (fun acc i => acc + (if levels[i] then 2 ^ i.val else 0)) 0)

/-- The seven snapshot words (R189). -/
def Snapshot.words (s : Snapshot) : List Word :=
  levelBits s.levels :: dword s.count ++
    [ (s.cause.map JamCause.code).getD 0, sensorCode s.sensor, (s.tag.map tagCode).getD 0,
      word ((if s.locked then 1 else 0) + (if s.second then 2 else 0) + (if s.tag.isSome then 4 else 0)
        + (if s.cause.isSome then 8 else 0)) ]

end Sys2Proof.Machine
end

