-- ==== Sys2Proof/Machine/Ops.lean ====
section
/-! DEFINITION. The named operations over the state: reading and writing the tables, sending notices and requests
between blocks, answering a command, the queue of commands. -/

namespace Sys2Proof.Machine

/-- The outcome of a command. -/
abbrev Result := Host.Outcome State Fault Refusal

/-! ## Profile store and tables -/

namespace State

/-- A leg, or the park distance (R175). -/
def leg (s : State) (l : Leg) : Nat := s.profile.legs[l.idx]

/-- A limit (R175). -/
def limit (s : State) (l : Limit) : Nat := s.profile.limits[l.idx]

/-- A gate offset (R175). -/
def offset (s : State) (g : Gate) : Nat := s.profile.offsets[g.idx]

/-- A bin capacity (R126, R175). -/
def capacity (s : State) (b : Bin) : Nat := s.profile.capacities[b.idx]

/-- The settings of a tray (R175). -/
def traySettings (s : State) (t : Tray) : TraySettings := s.profile.trays[t.idx]

/-- A tolerance, deadline margin or clearance margin as it is set now: times the multiplier while the backup base is in
use (R72, R106, R123). -/
def widened (s : State) (tolerance : Nat) : Nat :=
  if s.tsv.backup then tolerance * s.limit .backupMultiplier else tolerance

/-- The present path count. -/
def now (s : State) : Count := s.tsv.pathCount

/-- A statement record, `none` for FREE (R1). -/
def statement (s : State) (slot : Slot) : Option Statement := s.stu.table[slot]

/-- Write a statement record. -/
def setStatement (s : State) (slot : Slot) (r : Option Statement) : State :=
  { s with stu := { s.stu with table := s.stu.table.set slot r } }

/-- The opening number of a slot (R2). -/
def openingOf (s : State) (slot : Slot) : Word := s.stu.openings[slot]

/-- The record named by a slot and a generation; `none` where the part drops the report: a FREE slot or another
generation (R2). -/
def ofPair (s : State) (slot : Slot) (generation : Nat) : Option Statement :=
  match s.statement slot with
  | none => none
  | some r => if r.generation = generation then some r else none

/-- A sheet record, `none` for FREE (R21). -/
def sheet (s : State) (t : Tag) : Option Sheet := s.sheets[t]

/-- Write a sheet record. -/
def setSheet (s : State) (t : Tag) (r : Option Sheet) : State := { s with sheets := s.sheets.set t r }

/-- A bin record (R126). -/
def bin (s : State) (b : Bin) : BinRecord := s.bnm.records[b.idx]

/-- Write a bin record. -/
def setBin (s : State) (b : Bin) (r : BinRecord) : State :=
  { s with bnm := { s.bnm with records := s.bnm.records.set b.idx r } }

/-- A gate record (R113). -/
def gate (s : State) (g : Gate) : GateRecord := s.gsc.records[g.idx]

/-- Write a gate record. -/
def setGate (s : State) (g : Gate) (r : GateRecord) : State :=
  { s with gsc := { s.gsc with records := s.gsc.records.set g.idx r } }

/-- Drive a gate actuator line. -/
def setGateLine (s : State) (g : Gate) (asserted : Bool) : State :=
  { s with gsc := { s.gsc with lines := s.gsc.lines.set g.idx asserted } }

/-- The expectation list of a sensor (R90). -/
def list (s : State) (x : Sensor) : List Expectation := s.ptk.lists[x.idx]

/-- Write an expectation list. -/
def setList (s : State) (x : Sensor) (l : List Expectation) : State :=
  { s with ptk := { s.ptk with lists := s.ptk.lists.set x.idx l } }

/-- The condition of a tray (R48). -/
def condition (s : State) (t : Tray) : TrayCondition := s.adm.conditions[t.idx]

/-- Write the condition of a tray. -/
def setCondition (s : State) (t : Tray) (c : TrayCondition) : State :=
  { s with adm := { s.adm with conditions := s.adm.conditions.set t.idx c } }

/-- Drive a pick line. -/
def setPickLine (s : State) (t : Tray) (asserted : Bool) : State :=
  { s with adm := { s.adm with pickLines := s.adm.pickLines.set t.idx asserted } }

/-- Write the verdict count of a tray (R103). -/
def setVerdicts (s : State) (t : Tray) (n : Nat) : State :=
  { s with ptk := { s.ptk with verdicts := s.ptk.verdicts.set t.idx n } }

end State

/-! ## Walking the tables -/

/-- The tags in ascending order. -/
def tags : List Tag := List.finRange 48

/-- The slots in ascending order. -/
def slots : List Slot := List.finRange 16

/-- The tags of the live records that satisfy `p`, ascending (R21). -/
def State.tagsWhere (s : State) (p : Sheet → Bool) : List Tag := tags.filter fun t => (s.sheet t).any p

/-- The number of live records (R168). -/
def State.live (s : State) : Nat := (s.tagsWhere fun _ => true).length

/-- Some live record satisfies `p`. -/
def State.anySheet (s : State) (p : Sheet → Bool) : Bool := tags.any fun t => (s.sheet t).any p

/-- The lowest tag of a live record that satisfies `p`. -/
def State.firstTag (s : State) (p : Sheet → Bool) : Option Tag := tags.find? fun t => (s.sheet t).any p

/-- The tag of the PARKED record (R24). -/
def State.parkedTag (s : State) : Option Tag := s.firstTag fun r => r.state = .parked

/-- The lowest tag of the free-tag pool (R23). -/
def State.freeTag (s : State) : Option Tag := tags.find? fun t => (s.sheet t).isNone

/-- Change every live record. -/
def State.mapSheets (s : State) (f : Sheet → Sheet) : State := { s with sheets := s.sheets.map (Option.map f) }

/-! ## Notices and requests -/

/-- Send a notice to the CPT: placed at the tail, or lost when 32 stand in the queue (R186). -/
def State.notify (s : State) (n : Notice) : State :=
  if s.cpt.notices.length < 32 then { s with cpt := { s.cpt with notices := s.cpt.notices ++ [n] } }
  else { s with cpt := { s.cpt with noticeLost := true } }

/-- Hand a path fault to jam handling (R107, R147). -/
def State.handFault (s : State) (cause : JamCause) (sensor : Sensor) (tag : Option Tag) : State :=
  { s with requests := { s.requests with faults := s.requests.faults ++ [{ cause, sensor, tag }] } }

/-- Send the STU a break request (R12). -/
def State.askBreak (s : State) (slot : Slot) (generation : Nat) (cause : BreakCause) (opening : Option Word) : State :=
  { s with requests := { s.requests with breaks := s.requests.breaks ++ [{ slot, generation, cause, opening }] } }

/-- Send the SHT a condemnation claim (R34). -/
def State.claimCondemn (s : State) (c : CondemnClaim) : State :=
  { s with requests := { s.requests with condemns := s.requests.condemns ++ [c] } }

/-- Send the GSC a reroute request (R120). -/
def State.askReroute (s : State) (r : RerouteRequest) : State :=
  { s with requests := { s.requests with reroutes := s.requests.reroutes ++ [r] } }

/-- Send the ADM a flush request (R46). -/
def State.askFlush (s : State) (slot : Slot) (generation : Nat) : State :=
  { s with requests := { s.requests with flushes := s.requests.flushes ++ [{ slot, generation }] } }

/-- Send the BNM a request about a broken statement (R135). -/
def State.askBin (s : State) (r : BinRequest) : State :=
  { s with requests := { s.requests with bins := s.requests.bins ++ [r] } }

/-! ## Answering a command -/

/-- An answer: the result code and the answer values (R184). -/
abbrev Answer := ResultCode × List Word

/-- Place an answer in the result record, with the cursor at its header; the command buffer is emptied, the overrun mark
and BUSY are cleared (R183, R184). -/
def State.answer (s : State) (a : Answer) : State :=
  { s with cpt :=
    { s.cpt with
      result := header a.1.code (a.2.length + 1) :: a.2
      cursor := 0
      buffer := []
      overrun := false
      busy := false } }

/-- A write to GO of a command with `count` argument words (R183): ignored while BUSY is set, answered BAD_ARGUMENT when
the buffer is overrun or holds another number of words, and otherwise handed to the owning block `take`. BUSY is set and
cleared within the step (log 5). -/
def State.command (s : State) (count : Nat) (take : List Word → State → State × Answer) : State :=
  if s.cpt.busy then s
  else if s.cpt.overrun ∨ s.cpt.buffer.length ≠ count then s.answer (.badArgument, [])
  else
    let (t, a) := take s.cpt.buffer s
    t.answer a

/-- An answer that changes nothing. -/
def State.refuse (s : State) (code : ResultCode) : State × Answer := (s, (code, []))

end Sys2Proof.Machine
end

