-- ==== Sys2Proof/Machine/SheetOps.lean ====
section
/-! DEFINITION. The claims taken by the Sheet Table Unit, each in the states the table of R39 gives it. -/

namespace Sys2Proof.Machine

/-! ## Claims on one record (R22, R39) -/

/-- The pair that a record belongs to (R22). -/
def Sheet.owner (r : Sheet) : Owner := { slot := r.slot, generation := r.generation }

/-- The pair of the statement that a queue entry belongs to (R44). -/
def Entry.owner (e : Entry) : Owner := { slot := e.slot, generation := e.generation }

/-- The record that a claim naming a tag and a pair reaches; none where the tag is FREE or the record belongs to another
pair, and the claim is dropped (R22, R39). -/
def State.claimed (s : State) (t : Tag) (o : Owner) : Option Sheet := (s.sheet t).filter fun r => r.owner = o

/-- A claim on one record (R39): the record it reaches becomes what `f` makes of it; where `f` answers none, the record's
state is outside those listed for the claim, and the claim is dropped. -/
def State.claim (s : State) (t : Tag) (o : Owner) (f : Sheet → Option Sheet) : State :=
  match (s.claimed t o).bind f with
  | none => s
  | some r => s.setSheet t (some r)

/-! ## Names of the path -/

/-- The tray exit sensor of a tray (00_scope.md). -/
def exitOf : Tray → Sensor
  | .t1 => .f1 | .t2 => .f2 | .t3 => .f3

/-- The leg from a tray exit to REG (R175). -/
def regLegOf : Tray → Leg
  | .t1 => .f1Reg | .t2 => .f2Reg | .t3 => .f3Reg

/-- The tray whose exit a sensor is. -/
def trayOf : Sensor → Option Tray
  | .f1 => some .t1 | .f2 => some .t2 | .f3 => some .t3
  | .reg | .xfer | .fuse | .dup1 | .dup2 | .out | .b1 | .b2 | .b3 | .b4 | .bp => none

/-- The sensor at the entry of a bin (00_scope.md). -/
def entryOf : Bin → Sensor
  | .b1 => .b1 | .b2 => .b2 | .b3 => .b3 | .b4 => .b4 | .p => .bp

/-- The bin behind an entry sensor. -/
def binBehind : Sensor → Option Bin
  | .b1 => some .b1 | .b2 => some .b2 | .b3 => some .b3 | .b4 => some .b4 | .bp => some .p
  | .f1 | .f2 | .f3 | .reg | .xfer | .fuse | .dup1 | .dup2 | .out => none

/-- A DUPLEX record whose back pitch is NONE: on its front pass, and back-pending (R56, R91). -/
def Sheet.backPending (r : Sheet) : Bool := r.plex = .duplex && r.back == some .none_

/-- A DUPLEX record whose back pitch is not DONE, which counts toward the duplex depth (R56). -/
def Sheet.backUndone (r : Sheet) : Bool := r.plex = .duplex && r.back != some .done

/-- A record that takes leads and trails of the path: MAIN, LOOP or OUTPUT (R39). -/
def Sheet.moving (r : Sheet) : Bool := r.state = .main || r.state = .loop || r.state = .output

/-- The trail window at a sensor from a lead count: the length, plus or minus the trail tolerance (R27, R106). -/
def trailWindow (s : State) (r : Sheet) (x : Sensor) (c : Count) : TrailPending where
  sensor := x
  opens := minus (plus c r.length) (s.widened (s.limit .trailTolerance))
  closes := plus (plus c r.length) (s.widened (s.limit .trailTolerance))
  widened := s.tsv.backup
  expired := false

/-! ## The claims -/

/-- The state a lead at a sensor moves a record to, and the states it is taken in (R26, R28, R30, R39). -/
def leadState (x : Sensor) (r : Sheet) : Option SheetState :=
  match x with
  | .f1 | .f2 | .f3 => if r.state = .picking ∧ exitOf r.tray = x then some .main else none
  | .dup1 => if r.state = .main then some .loop else none
  | .out => if r.state = .main then some .output else none
  | .reg | .xfer | .fuse | .dup2 | .b1 | .b2 | .b3 | .b4 | .bp => if r.moving then some r.state else none

/-- The lead claim of the PTK: the state, and the captures of R27. -/
def claimLead (s : State) (t : Tag) (o : Owner) (x : Sensor) (c : Count) : State :=
  s.claim t o fun r => (leadState x r).map fun st =>
    { r with
      state := st
      lastSensor := some x
      lastLead := some c
      trail := if r.trail.isSome then r.trail else some (trailWindow s r x c) }

/-- Trail pending after a trail at the sensor it names (R27): it moves to a different last sensor, with its window from
last lead count, or becomes absent. -/
def trailAfter (s : State) (r : Sheet) (x : Sensor) : Option TrailPending :=
  match r.lastSensor, r.lastLead with
  | some l, some c => if l = x then none else some (trailWindow s r l c)
  | _, _ => none

/-- The trail claim of the PTK at the sensor that trail pending names (R27, R39). -/
def claimTrail (s : State) (t : Tag) (o : Owner) (x : Sensor) : State :=
  s.claim t o fun r => if r.moving then some { r with trail := trailAfter s r x } else none

/-- The park claim: LOOP to PARKED, trail pending absent (R28). -/
def claimPark (s : State) (t : Tag) (o : Owner) : State :=
  s.claim t o fun r => if r.state = .loop then some { r with state := .parked, trail := none } else none

/-- The release claim: PARKED to MAIN with the release count; answered whether it was taken (R29). -/
def claimRelease (s : State) (t : Tag) (o : Owner) (c : Count) : State × Bool :=
  (s.claim t o fun r =>
      if r.state = .parked then some { r with state := .main, back := some .called, lastLead := some c } else none,
   (s.claimed t o).any fun r => r.state = .parked)

/-- A pitch claim of the TSQ, taken in any live state (R31). -/
def claimSide (s : State) (t : Tag) (slot : Slot) (generation : Nat) (side : Side) (v : SideState) : State :=
  s.claim t { slot, generation } fun r =>
    match side with
    | .front => some { r with front := v }
    | .back => some { r with back := some v }

/-- The gauge result claim, taken in MAIN (R32, R39). -/
def claimGauge (s : State) (t : Tag) (o : Owner) (g : GaugeResult) : State :=
  s.claim t o fun r => if r.state = .main then some { r with gauge := some g } else none

/-- One record condemned, keeping the first cause (R34). -/
def Sheet.condemn (r : Sheet) (cause : CondemnCause) : Sheet :=
  { r with condemned := some (r.condemned.getD cause) }

/-- A condemnation claim taken: the record of its tag, or every live record of its pair (R34). -/
def takeCondemn (s : State) (c : CondemnClaim) : State :=
  match c.tag with
  | none => s.mapSheets fun r => if r.slot = c.slot ∧ r.generation = c.generation then r.condemn c.cause else r
  | some t => s.claim t { slot := c.slot, generation := c.generation } fun r => some (r.condemn c.cause)

/-- The divert commit of the GSC, taken in OUTPUT and STRANDED (R33, R39). -/
def claimCommit (s : State) (t : Tag) (o : Owner) : State :=
  s.claim t o fun r => if r.state = .output ∨ r.state = .stranded then some { r with divert := true } else none

/-- Retirement: the record FREE, its tag in the pool, the claims on that tag not yet taken discarded, and a gauge burst of
the record abandoned (R23, R32, 2.7). -/
def retire (s : State) (t : Tag) : State :=
  let s := s.setSheet t none
  { s with
    ptk := { s.ptk with burst := s.ptk.burst.filter fun b => b.tag != t }
    requests := { s.requests with condemns := s.requests.condemns.filter fun c => c.tag != some t } }

/-- The delivery retirement of the BNM (R36, R152): taken in OUTPUT, counting down the run-out of a run-out record in
RUNOUT; dropped for a STRANDED record and reported to jam handling, which lists the tag as delivered. -/
def retireDelivered (s : State) (t : Tag) (o : Owner) : State :=
  match s.claimed t o with
  | none => s
  | some r =>
    if r.state = .output then
      let s := if r.runOut ∧ s.tsv.state = .runout then
          { s with jam := { s.jam with runOutCount := s.jam.runOutCount - 1 } } else s
      retire s t
    else if r.state = .stranded then
      { s with jam := { s.jam with
          delivered := if t ∈ s.jam.delivered then s.jam.delivered else s.jam.delivered ++ [t] } }
    else s

/-- The delivery retirement claim sent to the SHT: taken at once, or after the next command (R36, R152; log 41). -/
def sendRetirement (s : State) (t : Tag) (o : Owner) (later : Bool) : State :=
  if later then { s with requests := { s.requests with retires := s.requests.retires ++ [{ tag := t, owner := o }] } }
  else retireDelivered s t o

/-- The retirement claims that were waiting before the step, taken by the SHT after the command (R36, R152; log 41). A
reset leaves none. -/
def takeRetirements (before s : State) : State :=
  let n := before.requests.retires.length
  (s.requests.retires.take n).foldl (fun u q => retireDelivered u q.tag q.owner)
    { s with requests := { s.requests with retires := s.requests.retires.drop n } }

/-- A live record after stranding (R35): every other field stays, run-out becomes no. -/
def Sheet.strand (r : Sheet) : Sheet := { r with state := .stranded, runOut := false }

/-- A sheet wholly past OUT (R151): OUTPUT with trail pending absent or at a bin entry. -/
def Sheet.clearOfOut (r : Sheet) : Bool :=
  r.state = .output && r.trail.all fun w => (binBehind w.sensor).isSome

/-- The run-out selection of R151, one claim over the whole table. -/
def selectRunOut (s : State) : State :=
  s.mapSheets fun r => if r.clearOfOut then { r with runOut := true } else r.strand

/-- The stranding of every live record (R35). -/
def strandAll (s : State) : State := s.mapSheets Sheet.strand

/-- The stranding of the records still marked run-out at a second fault (R154). -/
def strandRunOut (s : State) : State :=
  s.mapSheets fun r => if r.state = .output ∧ r.runOut then r.strand else r

/-- Whether the record of a tag is a run-out record (R108). -/
def State.isRunOut (s : State) (t : Tag) : Bool := (s.sheet t).any fun r => r.runOut

end Sys2Proof.Machine
end

