-- ==== Sys2Proof/Machine/StatementOps.lean ====
section
/-! DEFINITION. The reports and breaks taken by the Statement Table Unit (R8 to R14). -/

namespace Sys2Proof.Machine

/-- BROKEN or ABANDONED (R10). -/
def StatementState.ended : StatementState → Bool
  | .broken | .abandoned => true
  | .opened | .closed => false

/-- The closing request of R10: sent for a BROKEN or ABANDONED record with in flight 0 and a bin. -/
def closeIfClear (s : State) (slot : Slot) : State :=
  match s.statement slot with
  | none => s
  | some r =>
    match r.bin with
    | none => s
    | some b => if r.state.ended ∧ r.inFlight = 0 then s.askBin (.closing b slot r.generation r.ident) else s

/-- The admission report of the ADM (R8), with the bin when newly claimed. -/
def reportAdmission (s : State) (slot : Slot) (generation : Nat) (t : Tag) (claimed : Option Bin) : State :=
  match s.ofPair slot generation with
  | none => s
  | some r =>
    let s := s.setStatement slot (some { r with
      admitted := r.admitted + 1
      inFlight := r.inFlight + 1
      bin := if r.bin.isSome then r.bin else claimed })
    if r.state.ended then
      (s.claimCondemn { tag := some t, slot, generation, cause := .broken }).askReroute
        { tag := some t, slot, generation }
    else s

/-- The withdrawal report of the ADM (R8): answered with the state of the record, or not at all. -/
def reportWithdrawal (s : State) (slot : Slot) (generation : Nat) : State × Option StatementState :=
  match s.ofPair slot generation with
  | none => (s, none)
  | some r =>
    (closeIfClear
      (s.setStatement slot (some { r with admitted := r.admitted - 1, inFlight := r.inFlight - 1 })) slot,
     some r.state)

/-- The loss report of jam handling (R10). -/
def reportLoss (s : State) (slot : Slot) (generation : Nat) : State :=
  match s.ofPair slot generation with
  | none => s
  | some r => closeIfClear (s.setStatement slot (some { r with inFlight := r.inFlight - 1 })) slot

/-- A delivery counts as a good page (R9): the record OPEN or CLOSED, the sheet not condemned, the bin the record's. -/
def goodPage (r : Statement) (b : Bin) (condemned : Bool) : Bool :=
  !r.state.ended && !condemned && r.bin == some b

/-- The record after a delivery report (R9). -/
def Statement.deliver (r : Statement) (b : Bin) (position : Nat) (condemned : Bool) : Statement :=
  if goodPage r b condemned then
    { r with
      inFlight := r.inFlight - 1
      delivered := r.delivered + 1
      lastPos := some position
      firstPos := some (r.firstPos.getD position) }
  else { r with inFlight := r.inFlight - 1 }

/-- A CLOSED record whose good pages have all been delivered (R11). -/
def Statement.complete (r : Statement) : Bool := r.state = .closed && r.lastSeen && r.delivered == r.queued

/-- Remove the entry of a statement from a bin's stacking list (R129). -/
def removeStacked (s : State) (b : Bin) (slot : Slot) (generation : Nat) : State :=
  s.setBin b { s.bin b with
    stacking := (s.bin b).stacking.filter fun o => o != { slot, generation } }

/-- Completion (R11): the notice, the entry out of the stacking list, the record FREE. -/
def completeStatement (s : State) (slot : Slot) (r : Statement) (b : Bin) : State :=
  ((removeStacked
      (s.notify (.stmtComplete slot r.ident b (r.firstPos.getD 0) (r.lastPos.getD 0)))
      b slot r.generation)).setStatement slot none

/-- The requests and the notice of a break taken on record `r` at `slot` (R13, R14). -/
def breakRequests (s : State) (slot : Slot) (r : Statement) (cause : BreakCause) : State :=
  let s := s.claimCondemn { tag := none, slot, generation := r.generation, cause := .broken }
  let s := s.askReroute { tag := none, slot, generation := r.generation }
  let s := s.askFlush slot r.generation
  let s := match r.bin, r.firstPos, r.lastPos with
    | some b, some first, some last =>
        if 0 < r.delivered then s.askBin (.opening b r.ident first last) else s
    | _, _, _ => s
  s.notify (if r.generation < 3 then .stmtBroken slot r.ident cause r.delivered
    else .stmtAbandoned slot r.ident cause r.delivered)

/-- A break of a statement by slot and generation (R12 to R14): dropped where R2 drops it, without effect on a BROKEN or
ABANDONED record. -/
def breakNow (s : State) (slot : Slot) (generation : Nat) (cause : BreakCause) : State :=
  match s.ofPair slot generation with
  | none => s
  | some r =>
    if r.state.ended then s
    else
      let s := s.setStatement slot (some { r with
        state := if r.generation < 3 then .broken else .abandoned
        cause := some cause })
      closeIfClear (breakRequests s slot r cause) slot

/-- A break request taken by the STU (R12): one that names another opening number is dropped (R2). -/
def takeBreak (s : State) (q : BreakRequest) : State :=
  if q.opening.all fun n => n == s.openingOf q.slot then breakNow s q.slot q.generation q.cause else s

/-- A break request for a slot and generation with a cause. -/
def BreakRequest.names (q : BreakRequest) (slot : Slot) (generation : Nat) (cause : BreakCause) : Bool :=
  q.slot = slot && q.generation = generation && q.cause = cause

/-- The waiting break requests of a statement with a cause, taken before a report that they come ahead of (R85, R144;
log 34). -/
def takeBreaksOf (s : State) (slot : Slot) (generation : Nat) (cause : BreakCause) : State :=
  (s.requests.breaks.filter fun q => q.names slot generation cause).foldl takeBreak
    { s with requests := { s.requests with
        breaks := s.requests.breaks.filter fun q => !q.names slot generation cause } }

/-- The delivery report as the STU finds its record (R9, R10, R11): answered whether the page is good, with the statement
id, or not at all where the report is dropped. -/
def countDelivery (s : State) (slot : Slot) (generation : Nat) (b : Bin) (position : Nat) (condemned : Bool) :
    State × Option (Bool × Ident) :=
  match s.ofPair slot generation with
  | none => (s, none)
  | some r =>
    let r' := r.deliver b position condemned
    let good := goodPage r b condemned
    let s := s.setStatement slot (some r')
    if good ∧ r'.complete then (completeStatement s slot r' b, some (good, r.ident))
    else (closeIfClear s slot, some (good, r.ident))

/-- The delivery report of the BNM: the BIN_OPENED break that the BNM sent for the statement before it is taken first
(R144). -/
def reportDelivery (s : State) (slot : Slot) (generation : Nat) (b : Bin) (position : Nat) (condemned : Bool) :
    State × Option (Bool × Ident) :=
  countDelivery (takeBreaksOf s slot generation .binOpened) slot generation b position condemned

end Sys2Proof.Machine
end

