-- ==== Sys2Proof/Machine/BinOps.lean ====
section
/-! DEFINITION. The operations of the Bin Manager: reservations, stacking lists, spoil ranges, deliveries, roles
(chapter 7). -/

namespace Sys2Proof.Machine

/-- The credit of a bin: capacity less fill less reserved (R126). -/
def State.credit (s : State) (b : Bin) : Nat := s.capacity b - (s.bin b).fill - (s.bin b).reserved

/-- Reserved plus 1 (R128). -/
def reserve (s : State) (b : Bin) : State :=
  s.setBin b { s.bin b with reserved := (s.bin b).reserved + 1 }

/-- Reserved less 1 (R128). -/
def release (s : State) (b : Bin) : State :=
  s.setBin b { s.bin b with reserved := (s.bin b).reserved - 1 }

/-- Every reserved count 0 (R128, R145). -/
def clearReserved (s : State) : State :=
  { s with bnm := { s.bnm with records := s.bnm.records.map fun r => { r with reserved := 0 } } }

/-- The range set CLOSED (R135). -/
def SpoilRange.closed (g : SpoilRange) : SpoilRange := { g with isOpen := false }

/-- Every spoil range CLOSED (R145). -/
def closeRanges (s : State) : State :=
  { s with bnm := { s.bnm with records := s.bnm.records.map fun r => { r with spoil := r.spoil.map SpoilRange.closed } } }

/-- The statement of a stacking list entry holds an OPEN range in the bin (R136). -/
def holdsOpenRange (s : State) (r : BinRecord) (o : Owner) : Bool :=
  match s.ofPair o.slot o.generation with
  | none => false
  | some st => r.spoil.any fun g => g.isOpen && g.ident == st.ident

/-- The fence count: the ranges, and the listed statements that hold no OPEN range (R136). -/
def fenceCount (s : State) (b : Bin) : Nat :=
  (s.bin b).spoil.length + ((s.bin b).stacking.filter fun o => !holdsOpenRange s (s.bin b) o).length

/-- An evaluation of the fence count (R136): a READY stacker with ranges and a count of 4 becomes FENCED, with its
notice. -/
def evaluateFence (s : State) (b : Bin) : State :=
  if (s.bin b).state = .ready ∧ (s.bin b).spoil ≠ [] ∧ 4 ≤ fenceCount s b then
    (s.setBin b { s.bin b with state := .fenced }).notify (.bin b .fenced (s.bin b).fill)
  else s

/-- The door line of a bin. -/
def setDoor (s : State) (b : Bin) (isOpen : Bool) : State :=
  { s with lines := { s.lines with doors := s.lines.doors.set b.idx isOpen } }

/-- The BIN_OPENED break requests of the listed statements, in list order (R138, R12). -/
def breakListed (s : State) (b : Bin) : State :=
  (s.bin b).stacking.foldl (fun u o => u.askBreak o.slot o.generation .binOpened (some (u.openingOf o.slot))) s

/-- The opening of a door: the line, DOOR OPEN with its notice for a bin in any state other than OFF and DOOR OPEN, and then
what `after` does (R138, R139). -/
def openWith (after : State → Bin → State) (s : State) (b : Bin) : State :=
  if s.lines.doors[b.idx] then s
  else
    let s := setDoor s b true
    if (s.bin b).state = .off ∨ (s.bin b).state = .doorOpen then s
    else after ((s.setBin b { s.bin b with state := .doorOpen }).notify (.bin b .doorOpen (s.bin b).fill)) b

/-- A stacker's door opens (R138). -/
def openStacker (s : State) (b : Bin) : State := openWith breakListed s b

/-- The append of a claim with effect (R129): at the tail, then the fence evaluation; a DOOR OPEN bin breaks the
statement at once. -/
def appendStacked (s : State) (b : Bin) (slot : Slot) (generation : Nat) : State :=
  let s := evaluateFence
    (s.setBin b { s.bin b with stacking := (s.bin b).stacking ++ [{ slot, generation }] }) b
  if (s.bin b).state = .doorOpen then s.askBreak slot generation .binOpened (some (s.openingOf slot)) else s

/-- A range inserted at its place in ascending order of first position (R134). -/
def insertRange (g : SpoilRange) : List SpoilRange → List SpoilRange
  | [] => [g]
  | h :: t => if g.first < h.first then g :: h :: t else h :: insertRange g t

/-- The OPEN range of a statement id in a bin (R134). -/
def openRange (r : BinRecord) (ident : Ident) : Option SpoilRange :=
  r.spoil.find? fun g => g.isOpen && g.ident == ident

/-- The spoil list without the OPEN range of an id. -/
def withoutOpenRange (r : BinRecord) (ident : Ident) : List SpoilRange :=
  r.spoil.filter fun g => !(g.isOpen && g.ident == ident)

/-- A spoil delivery at a position (R134): the OPEN range of the id grows to it, or a range is opened there and the fence
count evaluated. -/
def placeSpoil (s : State) (b : Bin) (ident : Ident) (position : Nat) : State :=
  let r := s.bin b
  match openRange r ident with
  | some g => s.setBin b { r with spoil := insertRange { g with last := position } (withoutOpenRange r ident) }
  | none =>
    evaluateFence (s.setBin b { r with
      spoil := insertRange { first := position, last := position, ident, isOpen := true } r.spoil }) b

/-- The opening request (R135): the OPEN range of the id is extended over the positions, or a range is opened and the
fence count evaluated. Taken after an empty close of the bin it does the same, with the positions of the stack before the
close: R140 and R144 give the two no order, and the model takes the request as it stands (log 38). -/
def openSpoil (s : State) (b : Bin) (ident : Ident) (first last : Nat) : State :=
  let r := s.bin b
  match openRange r ident with
  | some g =>
    s.setBin b { r with
      spoil := insertRange { g with first := min g.first first, last := max g.last last } (withoutOpenRange r ident) }
  | none =>
    evaluateFence (s.setBin b { r with spoil := insertRange { first, last, ident, isOpen := true } r.spoil }) b

/-- The closing request (R135): the OPEN range of the id becomes CLOSED, and the entry leaves the stacking list. One that
finds no entry of its pair still closes the range: R129 says that such a request changes nothing, R135 sets the range
CLOSED without naming the entry, and the model takes R135 (the model's choice, log 43). -/
def closeSpoil (s : State) (b : Bin) (slot : Slot) (generation : Nat) (ident : Ident) : State :=
  removeStacked
    (s.setBin b { s.bin b with
      spoil := (s.bin b).spoil.map fun g => if g.isOpen ∧ g.ident = ident then g.closed else g })
    b slot generation

/-- A request of the STU taken by the BNM (R135). -/
def takeBin (s : State) : BinRequest → State
  | .opening b ident first last => openSpoil s b ident first last
  | .closing b slot generation ident => closeSpoil s b slot generation ident

/-- A bin in READY or FENCED whose fill has reached its capacity becomes FULL, with its notice (R128, R137). -/
def fillUp (s : State) (b : Bin) : State :=
  let r := s.bin b
  if r.fill = s.capacity b ∧ (r.state = .ready ∨ r.state = .fenced) then
    (s.setBin b { r with state := .full }).notify (.bin b .full r.fill)
  else s

/-- Fill plus 1, reserved less 1 (R131, R133). -/
def countIn (s : State) (b : Bin) : State :=
  s.setBin b { s.bin b with fill := (s.bin b).fill + 1, reserved := (s.bin b).reserved - 1 }

/-- The jog and last statement at a delivery (R132). -/
def moveJog (s : State) (b : Bin) (o : Owner) : State :=
  s.setBin b { s.bin b with
    jogRight := if (s.bin b).last = some o then (s.bin b).jogRight else !(s.bin b).jogRight
    last := some o }

/-- The report of a delivery to the STU and, for an answer of spoil, the spoil range (R131, steps 3 and 4). -/
def reportAndPlace (s : State) (b : Bin) (r : Sheet) (position : Nat) : State :=
  match reportDelivery s r.slot r.generation b position r.condemned.isSome with
  | (s, some (false, ident)) => placeSpoil s b ident position
  | (s, some (true, _)) => s
  | (s, none) => s

/-- A delivery into a stacker (R131), its retirement claim sent last (R36). A stacker in OFF takes no delivery (R127). -/
def deliverStacker (s : State) (b : Bin) (t : Tag) (r : Sheet) (later : Bool) : State :=
  if (s.bin b).state = .off then s
  else
    let s := countIn s b
    let position := (s.bin b).fill
    let s := moveJog s b { slot := r.slot, generation := r.generation }
    let s := reportAndPlace s b r position
    let s := fillUp s b
    sendRetirement s t r.owner later

/-- A delivery into the purge bin (R133). -/
def deliverPurge (s : State) (t : Tag) (r : Sheet) (later : Bool) : State :=
  let s := countIn s .p
  let s := (reportDelivery s r.slot r.generation .p 0 r.condemned.isSome).1
  let s := fillUp s .p
  sendRetirement s t r.owner later

/-- The BNM's action on an accepted trail at a bin entry (R131, R133). -/
def deliver (s : State) (b : Bin) (t : Tag) (later : Bool) : State :=
  match s.sheet t with
  | none => s
  | some r => if b = .p then deliverPurge s t r later else deliverStacker s b t r later

/-- A lead at a bin entry: a DOOR OPEN bin is a jam BIN OPEN (R130). -/
def leadAtBin (s : State) (b : Bin) (t : Tag) : State :=
  if (s.bin b).state = .doorOpen then s.handFault .binOpen (entryOf b) (some t) else s

/-- The role and then the state of a stacker set by BIN ROLE or by the units (R142, R179). -/
def setRole (s : State) (b : Bin) (role : BinRole) : State :=
  let r := s.bin b
  s.setBin b { r with
    role := role
    state := if role = .off then .off
      else if r.role = .off then (if s.lines.doors[b.idx] then .doorOpen else .check)
      else r.state }

/-- The four-bin unit turned on or off: B3 and B4 take their roles (R142, R179, R180). -/
def setFourBins (s : State) (on : Bool) : State :=
  if on then setRole (setRole s .b3 .standard) .b4 .oversize
  else setRole (setRole s .b3 .off) .b4 .off

/-- The enabled values written together, with what a change of the four-bin unit does (R179, R180). -/
def writeUnits (s : State) (u : Units) : State :=
  let before := s.profile.enabled.fourBins
  let s := { s with profile := { s.profile with enabled := u } }
  if u.fourBins = before then s else setFourBins s u.fourBins

end Sys2Proof.Machine
end

