-- ==== Sys2Proof/Machine/SequenceOps.lean ====
section
/-! DEFINITION. The operations of the Transfer Sequencer (chapter 4). -/

namespace Sys2Proof.Machine

/-- The side-ready margin as a deadline takes it now (R72). -/
def State.margin (s : State) : Nat := s.widened (s.limit .sideReadyMargin)

/-- The pitch of a tag: the list holds at most one (R67). -/
def State.pitchOf (s : State) (t : Tag) : Option Pitch := s.tsq.pitches.find? fun p => p.tag = t

/-- Write the pitches. -/
def State.setPitches (s : State) (ps : List Pitch) : State := { s with tsq := { s.tsq with pitches := ps } }

/-- Change the pitch of a tag. -/
def State.updatePitch (s : State) (t : Tag) (f : Pitch → Pitch) : State :=
  s.setPitches (s.tsq.pitches.map fun p => if p.tag = t then f p else p)

/-- Remove the pitch of a tag; the others keep their order (R67). -/
def State.removePitch (s : State) (t : Tag) : State :=
  s.setPitches (s.tsq.pitches.filter fun p => p.tag != t)

/-- Drive the transfer enable line (R78). -/
def State.setTransferEnable (s : State) (asserted : Bool) : State :=
  { s with tsq := { s.tsq with transferEnable := asserted } }

/-- The last registered pitch: the newest with registered yes (R78). -/
def lastRegistered (ps : List Pitch) : Option Pitch := (ps.filter fun p => p.registered).getLast?

/-- The append of a pitch at the tail with the next call number (R68, R69, R70). -/
def appendPitch (s : State) (t : Tag) (slot : Slot) (generation page : Nat) (side : Side) (predicted : Count) : State :=
  { s with tsq := { s.tsq with
      pitches := s.tsq.pitches ++
        [{ call := s.tsq.nextCall, tag := t, slot, generation, page, side, state := .called,
           deadline := minus predicted s.margin, reason := none, registered := false, read := false }]
      nextCall := s.tsq.nextCall + 1 } }

/-- A pitch becomes MISSED: the claim, the PITCH MISSED notice, the condemnation BLANK and the break BLANK, in this order
(R76). -/
def missPitch (s : State) (p : Pitch) (reason : MissReason) : State :=
  let s := s.updatePitch p.tag fun q => { q with state := .missed, reason := some reason }
  let s := claimSide s p.tag p.slot p.generation p.side .missed
  let s := s.notify (.pitchMissed p.call p.tag p.side p.slot p.page reason)
  let s := s.claimCondemn { tag := some p.tag, slot := p.slot, generation := p.generation, cause := .blank }
  s.askBreak p.slot p.generation .blank none

/-- The deadline of the pitch of a tag is taken when it is CALLED, its deadline is reached and expiries are taken
(R73, R81). -/
def expireDeadline (s : State) (t : Tag) : State :=
  match s.pitchOf t with
  | none => s
  | some p =>
    if p.state = .called ∧ !s.tsq.halted ∧ reaches s.now p.deadline then missPitch s p .deadline else s

/-- The deadline of a tag's pitch moved to a new prediction; an expiry then due is taken at once (R72). -/
def moveDeadline (s : State) (t : Tag) (predicted : Count) : State :=
  expireDeadline (s.updatePitch t fun p => { p with deadline := minus predicted s.margin }) t

/-- A CALLED pitch's deadline earlier by `d`; the others as they were (R72). -/
def Pitch.pullIn (d : Nat) (p : Pitch) : Pitch :=
  if p.state = .called then { p with deadline := minus p.deadline d } else p

/-- The deadlines at a backup base takeover: every CALLED pitch earlier by the margin times the multiplier less 1, and
those then reached expire at once (R72). Several reached together expire in list order, oldest pitch first: R72 and R170
give no order, and this one is the model's choice (log 36). At a takeover in RUNOUT the deadlines are moved too, as R72 and
R170 say of every CALLED pitch, though R81 keeps every pitch as it stands until CLEAR JAM: the model's choice (log 46); none
expires there. -/
def pullInDeadlines (s : State) : State :=
  let d := s.limit .sideReadyMargin * (s.limit .backupMultiplier - 1)
  let s := s.setPitches (s.tsq.pitches.map (Pitch.pullIn d))
  (s.tsq.pitches.map fun p => p.tag).foldl expireDeadline s

/-- The REG lead of a tag handed to the TSQ (R77, R78): a READY pitch becomes IMAGING and the line is asserted; a CALLED
pitch is first MISSED with reason DEADLINE; for a MISSED pitch the line is withdrawn. -/
def registerPitch (s : State) (t : Tag) : State :=
  match s.pitchOf t with
  | none => s
  | some p =>
    let s := s.updatePitch t fun q => { q with registered := true }
    match p.state with
    | .ready =>
      ((claimSide (s.updatePitch t fun q => { q with state := .imaging }) t p.slot p.generation p.side
        .imaging)).setTransferEnable true
    | .called => (missPitch s p .deadline).setTransferEnable false
    | .missed => s.setTransferEnable false
    | .imaging => s

/-- The XFER trail of a tag handed to the TSQ (R79): an IMAGING pitch leaves as DONE, a MISSED pitch leaves; the line is
withdrawn when the pitch was the last registered (R78). -/
def finishPitch (s : State) (t : Tag) : State :=
  match s.pitchOf t with
  | none => s
  | some p =>
    let wasLast := (lastRegistered s.tsq.pitches).any fun q => q.tag = t
    let leave := fun (u : State) => if wasLast then (u.removePitch t).setTransferEnable false else u.removePitch t
    match p.state with
    | .imaging => leave (claimSide s t p.slot p.generation p.side .done)
    | .missed => leave s
    | .called | .ready => s

/-- The PITCH WITHDRAWN notice of a pitch (R80). -/
def withdrawnNotice (p : Pitch) (cause : WithdrawCause) : Notice :=
  .pitchWithdrawn p.call p.tag p.side p.slot p.page cause

/-- A misfeed withdrawal (R80). -/
def withdrawPitch (s : State) (t : Tag) : State :=
  match s.pitchOf t with
  | none => s
  | some p => (s.removePitch t).notify (withdrawnNotice p .misfeed)

/-- The declaration told to the TSQ (R81): the line withdrawn, expiries not taken. -/
def haltSequencer (s : State) : State := { s with tsq := { s.tsq with transferEnable := false, halted := true } }

/-- The clearing at CLEAR JAM (R82): every pitch removed, oldest first, each with its notice; expiries taken again; the
next call number kept. -/
def clearSequencer (s : State) : State :=
  let ps := s.tsq.pitches
  let s := { s with tsq := { s.tsq with pitches := [], transferEnable := false, halted := false } }
  ps.foldl (fun u p => u.notify (withdrawnNotice p .clear)) s

/-- An unread call exists (R84). -/
def State.unreadCall (s : State) : Bool := s.tsq.pitches.any fun p => !p.read

end Sys2Proof.Machine
end

