-- ==== Sys2Proof/Machine/GateOps.lean ====
section
/-! DEFINITION. The operations of the Gate Scheduler (chapter 6). -/

namespace Sys2Proof.Machine

/-- The sensor of a gate's lead: FUSE for D, OUT for G1 to G4 (R116). -/
def leadSensor : Gate → Sensor
  | .d => .fuse
  | .g1 | .g2 | .g3 | .g4 => .out

/-- The gate that diverts into a stacker (section 6.1). -/
def gateOf : Bin → Option Gate
  | .b1 => some .g1 | .b2 => some .g2 | .b3 => some .g3 | .b4 => some .g4 | .p => none

/-- The request count of a gate for a lead at count `c`: the offset past it, less the throw lead (R114, R115). -/
def requestCount (s : State) (g : Gate) (c : Count) : Count := minus (plus c (s.offset g)) (s.limit .throwLead)

/-- A request joins behind every request whose count does not lie after its own (R113). -/
def insertRequest (q : GateRequest) : List GateRequest → List GateRequest
  | [] => [q]
  | h :: t => if isLater h.count q.count then q :: h :: t else h :: insertRequest q t

/-- A request that joins a gate's pending list, or a GATE CONFLICT when the list holds 2 (R113, R116). -/
def addRequest (s : State) (g : Gate) (q : GateRequest) : State :=
  let r := s.gate g
  if r.waiting.length < 2 then s.setGate g { r with waiting := insertRequest q r.waiting }
  else s.handFault .gateConflict (leadSensor g) (some q.tag)

/-- The record that a FUSE or OUT lead schedules gates for: live and not STRANDED (R114, R115). -/
def State.schedulable (s : State) (t : Tag) (o : Owner) : Option Sheet :=
  (s.claimed t o).filter fun r => r.state ≠ .stranded

/-- The request for gate D at a FUSE lead (R114): THROW for a sheet on its front pass, PASSAGE for any other. -/
def scheduleD (s : State) (t : Tag) (o : Owner) (c : Count) : State :=
  match s.schedulable t o with
  | none => s
  | some r =>
    addRequest s .d
      { tag := t, owner := o, kind := if r.backPending then .throw else .passage, count := requestCount s .d c }

/-- The gates a sheet with a target meets and what each holds for it (R115): PASSAGE before its own gate, THROW there. -/
def routeGates : Bin → List (Gate × RequestKind)
  | .b1 => [(.g1, .throw)]
  | .b2 => [(.g1, .passage), (.g2, .throw)]
  | .b3 => [(.g1, .passage), (.g2, .passage), (.g3, .throw)]
  | .b4 => [(.g1, .passage), (.g2, .passage), (.g3, .passage), (.g4, .throw)]
  | .p => [(.g1, .passage), (.g2, .passage), (.g3, .passage), (.g4, .passage)]

/-- The requests for the G gates at an OUT lead (R115). A request that finds its gate's list full is left out (R116); the
requests for the gates after it are still added, which is the model's choice (log 37). -/
def scheduleG (s : State) (t : Tag) (o : Owner) (c : Count) : State :=
  match s.schedulable t o with
  | none => s
  | some r =>
    (routeGates r.target).foldl
      (fun u k => addRequest u k.1 { tag := t, owner := o, kind := k.2, count := requestCount u k.1 c }) s

/-- STARTING, RUNNING or DRAINING (R89, R123). -/
def State.drivesRun (s : State) : Bool :=
  s.tsv.state = .starting || s.tsv.state = .running || s.tsv.state = .draining

/-- Whether the GSC takes the requests of a tag now (R123): of every tag while the drives run, of run-out records in
RUNOUT, of none otherwise. -/
def State.gateTakes (s : State) (t : Tag) : Bool :=
  (s.drivesRun && !s.gsc.frozen) || (s.tsv.state = .runout && s.isRunOut t)

/-- The request a gate takes next: the first of those it takes now, when its count is reached (R117, R118, R123). -/
def State.dueRequest (s : State) (g : Gate) : Option GateRequest :=
  match (s.gate g).waiting.find? fun q => s.gateTakes q.tag with
  | none => none
  | some q => if reaches s.now q.count then some q else none

/-- The pending list without a request. -/
def dropRequest (s : State) (g : Gate) (q : GateRequest) : State :=
  s.setGate g { s.gate g with waiting := (s.gate g).waiting.erase q }

/-- A due THROW taken (R117): the gate is thrown for the tag, or passes to it, with its clearance count; G1 to G4 commit
the divert. A FREE record has no effect on the gate, and a record that has taken the tag since is not the request's. -/
def takeThrow (s : State) (g : Gate) (q : GateRequest) : State :=
  let s := dropRequest s g q
  match s.claimed q.tag q.owner with
  | none => s
  | some r =>
    let clearance := plus (plus (plus q.count (s.limit .throwLead)) r.length) (s.widened (s.limit .clearanceMargin))
    let s := (s.setGate g { s.gate g with hold := some { tag := q.tag, clearance } }).setGateLine g true
    if g = .d then s else claimCommit s q.tag q.owner

/-- A due PASSAGE taken (R118): a GATE CONFLICT when the gate is held past the request count. -/
def takePassage (s : State) (g : Gate) (q : GateRequest) : State :=
  let s := dropRequest s g q
  match (s.gate g).hold with
  | none => s
  | some h =>
    if isLater h.clearance q.count then s.handFault .gateConflict (leadSensor g) (some q.tag) else s

/-- Whether the GSC takes the clearance of a gate now (R123): in RUNOUT of G1 to G4 alone. -/
def State.clearanceTaken (s : State) (g : Gate) : Bool :=
  (s.drivesRun && !s.gsc.frozen) || (s.tsv.state = .runout && g != .d)

/-- A clearance whose count is reached (R119): the gate at rest, the line withdrawn. -/
def takeClearance (s : State) (g : Gate) : State :=
  match (s.gate g).hold with
  | none => s
  | some h =>
    if s.clearanceTaken g ∧ reaches s.now h.clearance then
      (s.setGate g { s.gate g with hold := none }).setGateLine g false
    else s

/-- The gates cleared (R125): at rest, no requests, the lines withdrawn, the freeze ended. -/
def clearGates (s : State) : State := { s with gsc := Gates.atReset }

/-- The hold policy is REST (R124; coded 1). -/
def State.restPolicy (s : State) : Bool := s.limit .holdPolicy = 1

/-- The hold policy on gate D's line (R124). -/
def policyD (s : State) : State := if s.restPolicy then s.setGateLine .d false else s

/-- The hold policy on the lines of G1 to G4 (R124). -/
def policyG (s : State) : State :=
  if s.restPolicy then
    (((s.setGateLine .g1 false).setGateLine .g2 false).setGateLine .g3 false).setGateLine .g4 false
  else s

/-- The freeze of the GSC (R123). -/
def freezeGates (s : State) : State := { s with gsc := { s.gsc with frozen := true } }

end Sys2Proof.Machine
end

