-- ==== Sys2Proof/Machine/AdmissionOps.lean ====
section
/-! DEFINITION. The operations of the Admission Controller (chapter 3): hold reasons, the bin claim, slot timing, misfeed,
trays; and the evaluation that ends every step. -/

namespace Sys2Proof.Machine

/-! ## Queues -/

/-- The entries of a feed queue, head first (R44). -/
def State.queue (s : State) : Queue → List Entry
  | .new => s.adm.newQueue
  | .restart => s.adm.restartQueue

/-- Write the entries of a feed queue. -/
def State.setQueue (s : State) (q : Queue) (l : List Entry) : State :=
  match q with
  | .new => { s with adm := { s.adm with newQueue := l } }
  | .restart => { s with adm := { s.adm with restartQueue := l } }

/-- The hold reason shown by a queue (R55). -/
def State.hold (s : State) : Queue → HoldReason
  | .new => s.adm.newHold
  | .restart => s.adm.restartHold

/-- Write the hold reason of a queue. -/
def State.setHold (s : State) (q : Queue) (h : HoldReason) : State :=
  match q with
  | .new => { s with adm := { s.adm with newHold := h } }
  | .restart => { s with adm := { s.adm with restartHold := h } }

/-- The queue holds its picking place (R47). -/
def State.holdsPlace (s : State) (q : Queue) : Bool := s.adm.pick.any fun p => p.source = q

/-- A queue has a free entry: occupancy plus the picking place below 16 (R44). -/
def State.queueHasRoom (s : State) (q : Queue) : Bool :=
  (s.queue q).length + (if s.holdsPlace q then 1 else 0) < 16

/-- The registration slot is free: no pick waits for its launch count (R50). -/
def State.slotFree (s : State) : Bool := s.adm.pick.all fun p => p.issued

/-- A flush taken (R46): every entry of the pair leaves both queues, the others keep their order. -/
def takeFlush (s : State) (o : Owner) : State :=
  let keep := fun (e : Entry) => !(e.slot = o.slot && e.generation = o.generation)
  { s with adm := { s.adm with
      newQueue := s.adm.newQueue.filter keep
      restartQueue := s.adm.restartQueue.filter keep } }

/-! ## Trays -/

/-- A suspect claim taken (R48): an OK tray becomes SUSPECT with a TRAY notice. -/
def takeSuspect (s : State) (t : Tray) : State :=
  if s.condition t = .ok then (s.setCondition t .suspect).notify (.tray t .suspect) else s

/-- A third miss (R48, R64): an OK or SUSPECT tray becomes FAILED with a TRAY notice. -/
def failTray (s : State) (t : Tray) : State :=
  if s.condition t = .failed then s else (s.setCondition t .failed).notify (.tray t .failed)

/-! ## The bin claim (R58) -/

/-- A listed statement is still admitting: OPEN, or CLOSED with pages admitted less than pages queued (R58). -/
def stillAdmitting (s : State) (o : Owner) : Bool :=
  match s.ofPair o.slot o.generation with
  | none => false
  | some r => r.state = .opened || (r.state = .closed && r.admitted < r.queued)

/-- A bin of a role that is READY, with room in its stacking list and no listed statement still admitting (R58). -/
def claimable (s : State) (role : BinRole) (b : Bin) : Bool :=
  (s.bin b).role = role && (s.bin b).state = .ready && (s.bin b).stacking.length < 4
    && (s.bin b).stacking.all fun o => !stillAdmitting s o

/-- A bin qualifies for a STANDARD statement: claimable, with free space for the declared pages or the unknown-length
reserve (R58). -/
def qualifies (s : State) (r : Statement) (b : Bin) : Bool :=
  claimable s .standard b && r.declared.getD (s.limit .unknownLengthReserve) ≤ s.credit b

/-- The search order from the current standard bin: itself, then in number order, from B4 round to B1 (R58). -/
def searchFrom : Bin → List Bin
  | .b1 => [.b1, .b2, .b3, .b4]
  | .b2 => [.b2, .b3, .b4, .b1]
  | .b3 => [.b3, .b4, .b1, .b2]
  | .b4 => [.b4, .b1, .b2, .b3]
  | .p => [.b1, .b2, .b3, .b4]

/-- The bin claim without effect (R58). -/
def claimBin (s : State) (r : Statement) : Option Bin :=
  match r.binClass with
  | .oversize => [Bin.b1, .b2, .b3, .b4].find? (claimable s .oversize)
  | .standard => (searchFrom s.bnm.pointer).find? (qualifies s r)

/-- The statement's bin, or the bin the claim would give (R57). -/
def binFor (s : State) (r : Statement) : Option Bin := if r.bin.isSome then r.bin else claimBin s r

/-- The claim with effect (R58): the pointer moves to a STANDARD claim's bin, and the BNM appends the statement. With
`doorOpens` the bin's door opens after the claim has read the bin and before the append (R129, R144; log 44). -/
def claimWithEffect (s : State) (slot : Slot) (r : Statement) (b : Bin) (doorOpens : Bool) : State :=
  let s := match r.binClass with
    | .standard => { s with bnm := { s.bnm with pointer := b } }
    | .oversize => s
  appendStacked (if doorOpens then openStacker s b else s) b slot r.generation

/-! ## Hold reasons (R55 to R57) -/

/-- The Transfer Sequence room is short for a head of a plex (R56, SEQUENCE). -/
def sequenceShort (s : State) (plex : Plex) : Bool :=
  8 < s.tsq.pitches.length + (s.tagsWhere Sheet.backPending).length + (if plex = .duplex then 2 else 1)

/-- The duplex depth is full for a head of a plex (R56, DEPTH). -/
def depthFull (s : State) (plex : Plex) : Bool := plex = .duplex && 3 ≤ (s.tagsWhere Sheet.backUndone).length

/-- A LOOP record that is about to need the slot: its predicted DUP2 arrival is not later than the present count plus the
loop guard, or its DUP2 lead has been accepted (R56). -/
def nearsPark (s : State) (r : Sheet) : Bool :=
  r.state = .loop &&
    (r.lastSensor == some .dup2 ||
      r.lastLead.any fun c => !isLater (plus c (s.leg .dup1Dup2)) (plus s.now (s.limit .loopGuard)))

/-- The loop is about to need the slot (R56, LOOP GUARD). -/
def loopGuarded (s : State) : Bool := s.anySheet fun r => r.state = .parked || nearsPark s r

/-- The purge bin could not take every live sheet and one more (R57, PURGE). -/
def purgeShort (s : State) : Bool := s.capacity .p - (s.bin .p).fill ≤ s.live

/-- A SIMPLEX head would overtake a DUPLEX sheet of its bin (R57, ORDER). -/
def overtakes (s : State) (plex : Plex) (b : Bin) : Bool :=
  plex = .simplex && s.anySheet fun r => r.backUndone && r.target = b

/-- The tray of a head cannot be picked from (R48, TRAY). -/
def trayHeld (s : State) (t : Tray) : Bool := s.condition t != .ok || !s.lines.trayReady[t.idx]

/-- The bin has no credit (R57, CREDIT). -/
def creditHeld (s : State) (b : Bin) : Bool := s.capacity b ≤ (s.bin b).fill + (s.bin b).reserved

/-- The evaluation of a queue without a head: the checks marked "any" (R55). -/
def evaluateEmpty (s : State) : HoldReason :=
  if s.tsv.state ≠ .running then .transport
  else if s.anySheet fun r => r.state = .picking then .pickBusy
  else if s.freeTag.isNone then .tag
  else if loopGuarded s then .loopGuard
  else if purgeShort s then .purge
  else .empty

/-- The evaluation of a head, in the order of R55. A head whose slot and generation name no present statement has no
plex, class or bin, and holds on BIN (log 15). -/
def evaluateHead (s : State) (e : Entry) : HoldReason :=
  if s.tsv.state ≠ .running then .transport
  else if s.anySheet fun r => r.state = .picking then .pickBusy
  else if s.freeTag.isNone then .tag
  else if trayHeld s e.tray then .tray
  else
    match s.ofPair e.slot e.generation with
    | none => if loopGuarded s then .loopGuard else .bin
    | some st =>
      if sequenceShort s st.plex then .sequence
      else if depthFull s st.plex then .depth
      else if loopGuarded s then .loopGuard
      else
        match binFor s st with
        | none => .bin
        | some b =>
          if creditHeld s b then .credit
          else if overtakes s st.plex b then .order
          else if purgeShort s then .purge
          else .none_

/-- The evaluation of a queue (R55). -/
def evaluate (s : State) (q : Queue) : HoldReason :=
  match (s.queue q).head? with
  | none => evaluateEmpty s
  | some e => evaluateHead s e

/-- A head that holds on CREDIT while its bin's reserved count is 0 can never be admitted (R59). -/
def overflows (s : State) (e : Entry) : Bool :=
  evaluateHead s e = .credit &&
    match s.ofPair e.slot e.generation with
    | none => false
    | some st => (binFor s st).any fun b => (s.bin b).reserved = 0

/-- One evaluation of a queue: the hold reason shown, and the BIN_OVERFLOW break request (R55, R59). -/
def evaluateQueue (s : State) (q : Queue) : State :=
  let u := s.setHold q (evaluate s q)
  match (s.queue q).head? with
  | none => u
  | some e =>
    if overflows s e then u.askBreak e.slot e.generation .binOverflow (some (s.openingOf e.slot)) else u

/-! ## Slot timing (R53, R54) -/

/-- The base next slot count: predicted REG arrival, length and minimum gap of the record (R53). -/
def baseSlotCount (s : State) (g : PreviousGrant) : Count := plus (plus g.predicted g.length) (s.limit .minimumGap)

/-- The next slot count for a claimant with a target bin and plex; no lower bound without a record (R53). -/
def nextSlotCount (s : State) (target : Bin) (plex : Plex) : Option Count :=
  s.adm.previous.map fun g =>
    if g.target = target ∧ g.plex = plex then baseSlotCount s g
    else plus (baseSlotCount s g) (s.limit .routeChangeGap)

/-- The launch count of a tray grant (R54). -/
def launchCount (s : State) (t : Tray) (target : Bin) (plex : Plex) : Count :=
  match nextSlotCount s target plex with
  | none => s.now
  | some c => laterOf (minus (minus c (s.limit .pickDistance)) (s.leg (regLegOf t))) s.now

/-- The predicted REG arrival of a launch count (R54). -/
def predictedReg (s : State) (t : Tray) (launch : Count) : Count :=
  plus (plus launch (s.limit .pickDistance)) (s.leg (regLegOf t))

/-! ## Grants (R60) -/

/-- The sheet record a tray grant creates (R25). -/
def newSheet (s : State) (e : Entry) (st : Statement) (b : Bin) : Sheet where
  state := .picking
  slot := e.slot
  generation := e.generation
  page := e.page
  last := e.last
  plex := st.plex
  tray := e.tray
  length := (s.traySettings e.tray).length
  target := b
  condemned := none
  front := .called
  back := if st.plex = .duplex then some .none_ else none
  lastSensor := none
  lastLead := none
  trail := none
  attempts := e.attempts
  gauge := none
  divert := false
  runOut := false

/-- The steps of a tray grant to the head `e` of a queue, for its statement, with the bin it holds or claims and the free
tag the SHT hands back (R60); `doorOpens` as for the claim. -/
def grantSteps (s : State) (q : Queue) (e : Entry) (st : Statement) (b : Bin) (t : Tag) (starvation : Nat)
    (doorOpens : Bool) : State :=
  let launch := launchCount s e.tray b st.plex
  let predicted := predictedReg s e.tray launch
  let s := s.setQueue q (s.queue q).tail
  let s := if st.bin.isSome then s else claimWithEffect s e.slot st b doorOpens
  let s := reserve s b
  let s := s.setSheet t (some (newSheet s e st b))
  let s := reportAdmission s e.slot e.generation t (if st.bin.isSome then none else some b)
  let s := appendPitch s t e.slot e.generation e.page .front predicted
  { s with adm := { s.adm with
      pick := some { entry := e, source := q, tag := t, launch, issued := false }
      previous := some
        { tag := t, predicted, length := (s.traySettings e.tray).length, target := b, plex := st.plex }
      starvation := starvation } }

/-- The grant of the slot to the head of a queue (R60). -/
def grantHead (s : State) (q : Queue) (starvation : Nat) (doorOpens : Bool) : State :=
  match (s.queue q).head? with
  | none => s
  | some e =>
    match s.ofPair e.slot e.generation, s.freeTag with
    | some st, some t =>
      match binFor s st with
      | none => s
      | some b => grantSteps s q e st b t starvation doorOpens
    | _, _ => s

/-- The release count of the parked record (R62); no lower bound without a previous-grant record. -/
def releaseDue (s : State) (r : Sheet) : Bool :=
  match nextSlotCount s r.target .duplex with
  | none => true
  | some c => reaches s.now (minus c (s.leg .releaseReg))

/-- The PARKED record eligible for release now (R62). -/
def releaseClaimant (s : State) : Option (Tag × Sheet) :=
  if s.tsv.state = .running ∨ s.tsv.state = .draining then
    match s.parkedTag with
    | none => none
    | some t =>
      match s.sheet t with
      | none => none
      | some r => if releaseDue s r then some (t, r) else none
  else none

/-- The queue a grant decision over evaluated heads awards the slot to, with the starvation count after it (R51, R52):
the new head when the guard is due, else the restart head, else the new head. -/
def chooseHead (s : State) : Option (Queue × Nat) :=
  let newOk := s.adm.newHold = .none_
  let restartOk := s.adm.restartHold = .none_
  if newOk ∧ s.adm.starvation = 4 then some (.new, 0)
  else if restartOk then some (.restart, if newOk then s.adm.starvation + 1 else 0)
  else if newOk then some (.new, 0)
  else none

/-- The end of a pick at the tray exit lead (R54, R61): the pick line withdrawn, the picking place ended, the prediction
moved in the previous-grant record and at the TSQ. -/
def pickDone (s : State) (t : Tag) (tray : Tray) (c : Count) : State :=
  let predicted := plus c (s.leg (regLegOf tray))
  let s := s.setPickLine tray false
  let s := { s with adm := { s.adm with
      pick := if s.adm.pick.any fun p => p.tag = t then none else s.adm.pick
      previous := s.adm.previous.map fun g => if g.tag = t then { g with predicted := predicted } else g } }
  moveDeadline s t predicted

/-! ## Misfeed (R63, R64) -/

/-- The page of a withdrawn record put back at the head of its source queue, or gone with its place (R47, R63, R64). -/
def requeue (s : State) (p : Pick) (r : Sheet) (answer : Option StatementState) : State :=
  let s := { s with adm := { s.adm with pick := none } }
  let third := r.attempts + 1 = 3
  let s := if third then failTray s r.tray else s
  match answer with
  | none => s
  | some st =>
    if st.ended then s
    else s.setQueue p.source ({ p.entry with attempts := if third then 0 else r.attempts + 1 } :: s.queue p.source)

/-- A misfeed reported by the PTK (R63): the pick line is withdrawn (R61); a PICKING record is withdrawn with its pitch,
its reservation and its counts, and its page is put back. The break of a side already MISSED reaches the STU before the
withdrawal report (R85). A record in another state is left (R37). -/
def misfeed (s : State) (t : Tag) : State :=
  match s.adm.pick with
  | none => s
  | some p =>
    if p.tag ≠ t then s
    else
      let s := s.setPickLine p.entry.tray false
      match s.claimed t p.entry.owner with
      | none => s
      | some r =>
        if r.state ≠ .picking then s
        else
          let s := retire s t
          let s := withdrawPitch s t
          let s := release s r.target
          let s := if r.front = .missed then takeBreaksOf s r.slot r.generation .blank else s
          let (s, answer) := reportWithdrawal s r.slot r.generation
          requeue s p r answer

/-! ## The end of a step -/

/-- What an evaluation of a queue depends on besides the path count and the profile (R55): its head, the transport state,
the states and pitches of the sheet records, the tray conditions and lines, the bin records, and the states and counts of
the listed statements. -/
structure EvaluationView where
  head       : Option Entry
  transport  : TransportState
  records    : List (Option (SheetState × SideState × Option SideState × Bin))
  pitches    : Nat
  conditions : Vector TrayCondition 3
  trayReady  : Vector Bool 3
  bins       : Vector BinRecord 5
  capacities : Vector Nat 5
  listed     : List (Option (StatementState × Nat × Nat × Nat × Nat))
deriving DecidableEq, Repr

/-- The view of a queue. -/
def evaluationView (s : State) (q : Queue) : EvaluationView where
  head := (s.queue q).head?
  transport := s.tsv.state
  records := tags.map fun t => (s.sheet t).map fun r => (r.state, r.front, r.back, r.target)
  pitches := s.tsq.pitches.length
  conditions := s.adm.conditions
  trayReady := s.lines.trayReady
  bins := s.bnm.records
  capacities := s.profile.capacities
  listed := Bin.all.flatMap fun b => (s.bin b).stacking.map fun o =>
    (s.statement o.slot).map fun r => (r.state, r.queued, r.admitted, r.delivered, r.inFlight)

/-- The evaluation of a queue when something it depends on has changed (R55): it writes the hold reasons and the break
requests. -/
def evaluateChanged (before : State) (s : State) (q : Queue) : State :=
  let u := if evaluationView before q = evaluationView s q then s else evaluateQueue s q
  { s with
    adm := { s.adm with newHold := u.adm.newHold, restartHold := u.adm.restartHold }
    requests := { s.requests with breaks := u.requests.breaks } }

/-- The suspect claims that were waiting before the step are taken, after the command and the evaluations that follow from
it (R49, log 22). A reset leaves none. -/
def takeSuspects (before s : State) : State :=
  let due := s.adm.suspects.take before.adm.suspects.length
  due.foldl takeSuspect
    { s with adm := { s.adm with suspects := s.adm.suspects.drop before.adm.suspects.length } }

/-- Both queues evaluated where something they depend on has changed since `before`, the new queue first (R55, log 33). -/
def evaluateAfter (before s : State) : State := evaluateChanged before (evaluateChanged before s .new) .restart

/-- The end of every step: the SHT takes the retirement claims that were waiting (R36, R152, log 41); the ADM evaluates the
queues whose conditions the step has changed; it then takes the suspect claims that were waiting, and evaluates the queues
that these have changed (R49, R55, log 33). -/
def finish (before s : State) : Result :=
  let u := evaluateAfter before (takeRetirements before s)
  .next (if before.adm.suspects = [] then u else evaluateAfter u (takeSuspects before u))

end Sys2Proof.Machine
end

