-- ==== Sys2Proof/Machine/TrackOps.lean ====
section
/-! DEFINITION. The operations of the Path Tracker (chapter 5): expectation lists, leads, trails, expiries, debounce,
widening, the jam snapshot; and the reroute, which moves a bin entry (R120). -/

namespace Sys2Proof.Machine

/-! ## Levels and tracking -/

/-- The level of a sensor's line under its polarity, true for COVERED (R88). -/
def State.lineCovered (s : State) (x : Sensor) : Bool :=
  match s.profile.polarity[x.idx] with
  | .high => s.lines.sensors[x.idx]
  | .low => !s.lines.sensors[x.idx]

/-- The debounced level of a sensor, true for COVERED (R88). -/
def State.covered (s : State) (x : Sensor) : Bool := s.ptk.debounced[x.idx]

/-- The debounce in progress at a sensor: the count of its first change (R88). -/
def State.debouncing (s : State) (x : Sensor) : Option Count := s.ptk.debounce[x.idx]

/-- Write a debounced level and end the debounce. -/
def setLevel (s : State) (x : Sensor) (level : Bool) : State :=
  { s with ptk := { s.ptk with
      debounced := s.ptk.debounced.set x.idx level
      debounce := s.ptk.debounce.set x.idx none } }

/-- Start or discard a debounce. -/
def setDebounce (s : State) (x : Sensor) (c : Option Count) : State :=
  { s with ptk := { s.ptk with debounce := s.ptk.debounce.set x.idx c } }

/-- Some drive run line is asserted (R88). -/
def State.runs (s : State) : Bool := s.tsv.mainRun || s.tsv.outputRun

/-- The PTK tracks every record: STARTING, RUNNING or DRAINING, and not frozen (R89, R107). -/
def State.tracking (s : State) : Bool := s.drivesRun && !s.ptk.frozen

/-- The PTK tracks the record of a tag now (R89, R108). -/
def State.tracks (s : State) (t : Tag) : Bool :=
  s.tracking || (s.tsv.state = .runout && s.isRunOut t)

/-- The debounces that are still in progress when both run lines become withdrawn end with their edges accepted (R88).
The transport is then STOPPED or JAMMED, where an edge changes the level alone (R89, log 20). -/
def settleDebounces (s : State) : State :=
  { s with ptk := { s.ptk with
      debounced := Vector.ofFn fun i =>
        if s.ptk.debounce[i].isSome then !s.ptk.debounced[i] else s.ptk.debounced[i]
      debounce := Vector.replicate 14 none } }

/-! ## Expectation lists (R90) -/

/-- An entry takes its place by its open count, behind one of equal open count (R90). -/
def insertByOpen (e : Expectation) : List Expectation → List Expectation
  | [] => [e]
  | h :: t => if isLater h.opens e.opens then e :: h :: t else h :: insertByOpen e t

/-- An entry inserted into a sensor's list, or a jam TRACK FULL when the list holds 4 (R90). -/
def expect (s : State) (x : Sensor) (e : Expectation) : State :=
  if (s.list x).length < 4 then s.setList x (insertByOpen e (s.list x))
  else s.handFault .trackFull x (some e.tag)

/-- An entry around an expected count, with its tolerance as it is set now (R91, R106). -/
def entryAt (s : State) (t : Tag) (o : Owner) (center : Count) (tolerance : Nat) : Expectation where
  tag := t
  owner := o
  opens := minus center (s.widened tolerance)
  closes := plus center (s.widened tolerance)
  widened := s.tsv.backup

/-- The lists without an entry. -/
def dropEntry (s : State) (x : Sensor) (e : Expectation) : State := s.setList x ((s.list x).erase e)

/-- The leg from OUT to a bin entry (R175). -/
def outLegOf : Bin → Leg
  | .b1 => .outB1 | .b2 => .outB2 | .b3 => .outB3 | .b4 => .outB4 | .p => .outBp

/-- The next sensor of a sheet's route and the leg to it (R91); none at DUP2, where the park watch begins, and at the
bins. -/
def nextHop (r : Sheet) : Sensor → Option (Sensor × Leg)
  | .f1 => some (.reg, .f1Reg)
  | .f2 => some (.reg, .f2Reg)
  | .f3 => some (.reg, .f3Reg)
  | .reg => some (.xfer, .regXfer)
  | .xfer => some (.fuse, .xferFuse)
  | .fuse => if r.backPending then some (.dup1, .fuseDup1) else some (.out, .fuseOut)
  | .dup1 => some (.dup2, .dup1Dup2)
  | .out => some (entryOf r.target, outLegOf r.target)
  | .dup2 | .b1 | .b2 | .b3 | .b4 | .bp => none

/-- The next entry of the route after a lead at count `c`, or the park watch at DUP2 (R91, R94, R98). -/
def nextEntry (s : State) (t : Tag) (o : Owner) (x : Sensor) (c : Count) : State :=
  match s.claimed t o with
  | none => s
  | some r =>
    match nextHop r x with
    | some (y, l) => expect s y (entryAt s t o (plus c (s.leg l)) (s.limit .leadTolerance))
    | none =>
      if x = .dup2 then
        { s with ptk := { s.ptk with park := some { tag := t, owner := o, count := plus c (s.leg .park) } } }
      else s

/-! ## Leads (R93, R94) -/

/-- The previous accepted lead of a record was at a tray exit: its REG lead is the first pass (R94). -/
def firstPass (before : Option Sheet) : Bool :=
  match before with
  | none => false
  | some r => (r.lastSensor.bind trayOf).isSome

/-- The gauge burst of a first-pass REG lead, while the gauge unit is enabled (R101). -/
def startBurst (s : State) (t : Tag) (before : Option Sheet) (c : Count) : State :=
  match before with
  | none => s
  | some r =>
    if firstPass before ∧ s.profile.enabled.gauge then
      { s with ptk := { s.ptk with
          burst := some { tag := t, owner := r.owner, tray := r.tray, regLead := c, readings := [] } } }
    else s

/-- The hand-offs of an accepted lead (R94, effect 3). `before` is the record before the claim. -/
def handLead (s : State) (t : Tag) (o : Owner) (x : Sensor) (before : Option Sheet) (c : Count) : State :=
  match x with
  | .f1 => pickDone s t .t1 c
  | .f2 => pickDone s t .t2 c
  | .f3 => pickDone s t .t3 c
  | .reg => startBurst (registerPitch s t) t before c
  | .fuse => scheduleD s t o c
  | .out => scheduleG s t o c
  | .b1 => leadAtBin s .b1 t
  | .b2 => leadAtBin s .b2 t
  | .b3 => leadAtBin s .b3 t
  | .b4 => leadAtBin s .b4 t
  | .bp => leadAtBin s .p t
  | .xfer | .dup1 | .dup2 => s

/-- The lead accepted for an entry: the claim, the next entry, the hand-offs, in this order (R94). -/
def acceptLead (s : State) (x : Sensor) (e : Expectation) (c : Count) : State :=
  let before := s.claimed e.tag e.owner
  let s := dropEntry s x e
  let s := claimLead s e.tag e.owner x c
  let s := nextEntry s e.tag e.owner x c
  handLead s e.tag e.owner x before c

/-- The entries of a list that the PTK takes now, first entry first (R93, R108). -/
def State.watched (s : State) (x : Sensor) : List Expectation := (s.list x).filter fun e => s.tracks e.tag

/-- An entry whose window has closed with no lead (R92, R95): a misfeed at a tray exit, a jam LATE elsewhere. -/
def expireEntry (s : State) (x : Sensor) (e : Expectation) : State :=
  let s := dropEntry s x e
  match trayOf x with
  | some _ => misfeed s e.tag
  | none => s.handFault .late x (some e.tag)

/-- The expiries that lie before a lead's captured count have been taken when the lead is judged (R93, log 18). -/
def expireOverdue (s : State) (x : Sensor) (c : Count) : State :=
  ((s.watched x).filter fun e => isLater c e.closes).foldl (fun u e => expireEntry u x e) s

/-- A lead judged against the first entry that the PTK takes now (R93, R108). -/
def lead (s : State) (x : Sensor) (c : Count) : State :=
  let s := expireOverdue s x c
  match (s.watched x).head? with
  | none => s.handFault .unexpected x none
  | some e =>
    if x = .dup2 ∧ s.parkedTag.isSome then s.handFault .loopOverrun .dup2 (some e.tag)
    else if liesBefore c e.opens then s.handFault .early x (some e.tag)
    else acceptLead s x e c

/-! ## Trails (R96, R97, R100) -/

/-- The cause of a trail window that closes empty: OVERLAP at a tray exit, STALL elsewhere (R97). -/
def stallCause (x : Sensor) : JamCause := if (trayOf x).isSome then .overlap else .stall

/-- The expiry of a record's trail window: the jam, and the mark that it has been taken; trail pending stays (R97). -/
def expireTrail (s : State) (t : Tag) (r : Sheet) (w : TrailPending) : State :=
  (s.setSheet t (some { r with trail := some { w with expired := true } })).handFault (stallCause w.sensor) w.sensor
    (some t)

/-- The trail accepted at the sensor that trail pending names, handed to the TSQ at XFER and to the BNM at a bin (R96).
Throughout this file `later` is whether the retirement claim of a delivery waits until the end of the next step (log 41). -/
def acceptTrail (s : State) (t : Tag) (o : Owner) (x : Sensor) (later : Bool) : State :=
  let s := claimTrail s t o x
  match binBehind x with
  | some b => deliver s b t later
  | none => if x = .xfer then finishPitch s t else s

/-- A trail judged against the window that a record's trail pending holds (R96, case 2; logs 18 and 19). -/
def judgeTrail (s : State) (t : Tag) (x : Sensor) (c : Count) (later : Bool) : State :=
  match s.sheet t with
  | none => s
  | some r =>
    match r.trail with
    | none => s
    | some w =>
      if liesBefore c w.opens then s.handFault .short x (some t)
      else if reaches w.closes c then acceptTrail s t r.owner x later
      else if w.expired then s
      else expireTrail s t r w

/-- The expiry of the release window: the jam STALL, and the mark that it has been taken; the window stays (R100). -/
def expireRelease (s : State) (w : ReleaseWindow) : State :=
  ({ s with ptk := { s.ptk with release := some { w with expired := true } } }).handFault .stall .dup2 (some w.tag)

/-- A DUP2 trail judged against the release window (R100); accepted, it clears the window, and the ADM withdraws the
release line (R62). -/
def judgeRelease (s : State) (w : ReleaseWindow) (c : Count) : State :=
  if liesBefore c w.opens then s.handFault .short .dup2 (some w.tag)
  else if reaches w.closes c then
    { s with
      ptk := { s.ptk with release := none }
      adm := { s.adm with releaseLine := false } }
  else if w.expired then s
  else expireRelease s w

/-- A record whose trail pending names a sensor. -/
def Sheet.awaitsTrail (r : Sheet) (x : Sensor) : Bool := r.trail.any fun w => w.sensor = x

/-- A record with last sensor S whose trail pending names another sensor (R96, case 4). -/
def Sheet.leftBehind (r : Sheet) (x : Sensor) : Bool := r.lastSensor == some x && r.trail.any fun w => w.sensor != x

/-- Cases 2 to 5 of R96 (log 24: the lowest tag where several records match). -/
def matchTrail (s : State) (x : Sensor) (c : Count) (later : Bool) : State :=
  match s.firstTag fun r => r.awaitsTrail x with
  | some t => judgeTrail s t x c later
  | none =>
    if x = .dup2 ∧ s.parkedTag.isSome then s.handFault .short .dup2 s.parkedTag
    else
      match s.firstTag fun r => r.leftBehind x with
      | some t => s.handFault .short x (some t)
      | none => s

/-- A trail judged (R96; in RUNOUT by case 2 for run-out records alone, R108). -/
def trail (s : State) (x : Sensor) (c : Count) (later : Bool) : State :=
  if s.tracking then
    match x, s.ptk.release with
    | .dup2, some w => judgeRelease s w c
    | _, _ => matchTrail s x c later
  else
    match s.firstTag fun r => r.runOut && r.awaitsTrail x with
    | some t => judgeTrail s t x c later
    | none => s

/-! ## Edges (R88, R89) -/

/-- An accepted edge with its captured count: the debounced level changes, and while the PTK takes arrivals the edge is
a lead or a trail (R88, R89). -/
def acceptEdge (s : State) (x : Sensor) (c : Count) (later : Bool) : State :=
  let level := s.lineCovered x
  let s := setLevel s x level
  if s.tracking ∨ s.tsv.state = .runout then
    if level then lead s x c else trail s x c later
  else s

/-! ## Widening (R105) -/

/-- The distance by which a window of a tolerance is widened at a takeover (R105). -/
def widenBy (s : State) (tolerance : Nat) : Nat := tolerance * (s.limit .backupMultiplier - 1)

/-- An entry widened once (R105). -/
def Expectation.widen (d : Nat) (e : Expectation) : Expectation :=
  if e.widened then e else { e with opens := minus e.opens d, closes := plus e.closes d, widened := true }

/-- A trail pending window widened once (R105). -/
def TrailPending.widen (d : Nat) (w : TrailPending) : TrailPending :=
  if w.widened then w else { w with opens := minus w.opens d, closes := plus w.closes d, widened := true }

/-- The release window widened once (R105). -/
def ReleaseWindow.widen (d : Nat) (w : ReleaseWindow) : ReleaseWindow :=
  if w.widened then w else { w with opens := minus w.opens d, closes := plus w.closes d, widened := true }

/-- The tolerance of a sensor's entries: the pick tolerance at a tray exit, the lead tolerance elsewhere (R105). -/
def entryTolerance (s : State) (x : Sensor) : Nat :=
  if (trayOf x).isSome then s.limit .pickTolerance else s.limit .leadTolerance

/-- Every window the PTK holds widened at a backup base takeover; the windows of the records are written by trail claims
(R39, R105). At a takeover in RUNOUT the frozen list entries and the release window are widened too, as R105 and R170 say
of every window, though R107 keeps them as they stand: the model's choice (log 45). -/
def widenAll (s : State) : State :=
  let dTrail := widenBy s (s.limit .trailTolerance)
  let lists := Vector.ofFn fun i : Fin 14 =>
    s.ptk.lists[i].map (Expectation.widen (widenBy s (entryTolerance s (Sensor.all[i.val]?.getD .f1))))
  let s := s.mapSheets fun r =>
    if r.moving then { r with trail := r.trail.map (TrailPending.widen dTrail) } else r
  { s with ptk := { s.ptk with lists := lists, release := s.ptk.release.map (ReleaseWindow.widen dTrail) } }

/-! ## The jam snapshot and the freeze (R107, R109) -/

/-- A latch request taken (R109): a fresh picture when unlocked, the second-fault flag alone when locked. -/
def latch (s : State) (cause : JamCause) (sensor : Sensor) (tag : Option Tag) (second : Bool) : State :=
  if s.ptk.snapshot.locked then
    { s with ptk := { s.ptk with snapshot := { s.ptk.snapshot with second := true } } }
  else
    { s with ptk := { s.ptk with snapshot :=
      { levels := s.ptk.debounced
        count := s.now
        cause := some cause
        sensor := sensor
        tag := tag
        second := second
        locked := true } } }

/-- The freeze of the PTK (R107). -/
def freezeTracker (s : State) : State := { s with ptk := { s.ptk with burst := none, park := none, frozen := true } }

/-- The PTK at CLEAR JAM (R111). -/
def clearTracker (s : State) : State :=
  { s with ptk := { s.ptk with
      lists := Vector.replicate 14 []
      release := none
      park := none
      burst := none
      frozen := false } }

/-! ## Reroute (R97, R120) -/

/-- The entry of a tag in a sensor's list. -/
def State.entryOfTag (s : State) (x : Sensor) (t : Tag) : Option Expectation :=
  (s.list x).find? fun e => e.tag = t

/-- The PTK's move of a record's bin entry to BP (R97). While the PTK is frozen it moves the entry of a stranded record too,
as R97 and R120 say, though R107 keeps every entry as it stands and R156 names no move for it: the model's choice
(log 42). -/
def moveToPurge (s : State) (t : Tag) (lastLead : Count) : State :=
  match [Sensor.b1, .b2, .b3, .b4].find? fun x => (s.entryOfTag x t).isSome with
  | none => s
  | some x =>
    match s.entryOfTag x t with
    | none => s
    | some e =>
      let wide := e.widened || s.tsv.backup
      let tol := if wide then s.limit .leadTolerance * s.limit .backupMultiplier else s.limit .leadTolerance
      let center := plus lastLead (s.leg .outBp)
      expect (dropEntry s x e) .bp
        { e with opens := minus center tol, closes := plus center tol, widened := wide }

/-- The gates of the cascade beyond a gate. -/
def gatesBeyond : Gate → List Gate
  | .g1 => [.g2, .g3, .g4]
  | .g2 => [.g3, .g4]
  | .g3 => [.g4]
  | .d | .g4 => []

/-- A pending THROW of a tag becomes a PASSAGE at the same count (R120). -/
def GateRequest.toPassage (t : Tag) (q : GateRequest) : GateRequest :=
  if q.tag = t ∧ q.kind = .throw then { q with kind := .passage } else q

/-- The gate requests of a reroute from gate `g` (R120, step 3). A PASSAGE that finds its gate's list full is left out
(R116); those for the gates after it are still added, which is the model's choice (log 37). -/
def rerouteGates (s : State) (g : Gate) (t : Tag) (o : Owner) (lastLead : Count) : State :=
  if (s.gate g).waiting.any fun q => q.tag = t ∧ q.kind = .throw then
    let s := s.setGate g { s.gate g with waiting := (s.gate g).waiting.map (GateRequest.toPassage t) }
    (gatesBeyond g).foldl
      (fun u h => addRequest u h { tag := t, owner := o, kind := .passage, count := requestCount u h lastLead }) s
  else s

/-- The reroute of one record (R120): nothing for target P, committed for a divert committed (R121), otherwise the four
steps. -/
def rerouteOne (s : State) (t : Tag) : State :=
  match s.sheet t with
  | none => s
  | some r =>
    match gateOf r.target with
    | none => s
    | some g =>
      if r.divert then s
      else
        let lastLead := r.lastLead.getD s.now
        let s := s.setSheet t (some { r with target := .p })
        let s := reserve (release s r.target) .p
        let s := rerouteGates s g t r.owner lastLead
        moveToPurge s t lastLead

/-- A reroute request taken (R120): the record of its tag, or every live record of its pair in ascending tag order. -/
def takeReroute (s : State) (q : RerouteRequest) : State :=
  match q.tag with
  | some t =>
    if (s.claimed t { slot := q.slot, generation := q.generation }).isSome then rerouteOne s t else s
  | none => (s.tagsWhere fun r => r.slot = q.slot ∧ r.generation = q.generation).foldl rerouteOne s

end Sys2Proof.Machine
end

