-- ==== Sys2Proof/Machine/Admission.lean ====
section
/-! DEFINITION. The commands, grants and picks of the Admission Controller (chapter 3). -/

namespace Sys2Proof.Machine

/-! ## TRAY RESUME (R49) and QUERY QUEUE (R65) -/

/-- The head of a queue evaluated, when it names a tray (R49). -/
def evaluateNaming (s : State) (tray : Tray) (q : Queue) : State :=
  if (s.queue q).head?.any fun e => e.tray = tray then evaluateQueue s q else s

/-- A tray resumed (R49): the condition OK, the verdict count 0. The heads that name a tray already OK are evaluated
here, the new queue first; a changed condition is evaluated at the end of the step, before a waiting suspect claim is
taken. -/
def resumeTray (s : State) (tray : Tray) : State :=
  let u := (s.setCondition tray .ok).setVerdicts tray 0
  if s.condition tray = .ok then evaluateNaming (evaluateNaming u tray .new) tray .restart else u

/-- TRAY RESUME: a tray (R49). -/
def takeTrayResume (ws : List Word) (s : State) : State × Answer :=
  match ws with
  | [t] =>
    match argTray t with
    | none => s.refuse .badArgument
    | some tray => (resumeTray s tray, (.ok, []))
  | _ => s.refuse .badArgument

/-- GO 08h (R49). -/
def execTrayResume (s : State) : Result := finish s (s.command 1 takeTrayResume)

/-- The words of a feed queue entry (R44). -/
def entryWords (e : Entry) : List Word :=
  [slotCode e.slot, word e.generation, word e.page, yesNo e.last, trayCode e.tray, word e.attempts]

/-- The condition and the tray-ready level of the trays (R65). -/
def trayWords (s : State) : List Word :=
  Tray.all.flatMap fun t => [(s.condition t).code, lineLevel s.lines.trayReady[t.idx]]

/-- The words of QUERY QUEUE (R65). The predicted REG arrival and the base next slot count stand or are absent together, as
values of the previous-grant record, and take ONE presence word with four value words: R65 and R185 do not say whether
each has its own, and this is the model's choice (DESIGN CHOICE, log 30). -/
def queueWords (s : State) (q : Queue) : List Word :=
  [word (s.queue q).length, yesNo (s.holdsPlace q), (s.hold q).code]
    ++ optWords 6 ((s.queue q).head?.map entryWords)
    ++ [if s.slotFree then 0 else 1]
    ++ optWords 2 ((s.adm.pick.filter fun p => !p.issued).map fun p => dword p.launch)
    ++ optWords 4 (s.adm.previous.map fun g => dword g.predicted ++ dword (baseSlotCount s g))
    ++ [word s.adm.starvation]
    ++ optWords 1 (s.parkedTag.map fun t => [tagCode t])
    ++ trayWords s

/-- QUERY QUEUE: a queue (R65). -/
def takeQueryQueue (ws : List Word) (s : State) : State × Answer :=
  match ws with
  | [w] =>
    match argQueue w with
    | none => s.refuse .badArgument
    | some q => (s, (.ok, queueWords s q))
  | _ => s.refuse .badArgument

/-- GO 09h (R65). -/
def execQueryQueue (s : State) : Result := finish s (s.command 1 takeQueryQueue)

/-! ## Trays (R48) -/

/-- A change of a tray-ready line (R48). -/
def execTrayReadyChange (tray : Tray) (s : State) : Result :=
  finish s { s with lines := { s.lines with
    trayReady := s.lines.trayReady.set tray.idx (!s.lines.trayReady[tray.idx]) } }

/-! ## Grant decisions (R50, R51) -/

/-- Both queues evaluated for a grant decision, the new queue first (R55). -/
def evaluateBoth (s : State) : State := evaluateQueue (evaluateQueue s .new) .restart

/-- The tray grant of a decision (R51, rows 2 to 4): none while the parked sheet claims the slot (row 1). -/
def decideTray (s : State) (doorOpens : Bool) : State :=
  if (releaseClaimant s).isSome then s
  else
    match chooseHead s with
    | none => s
    | some (q, starvation) => grantHead s q starvation doorOpens

/-- The grant decision over the queue heads, in RUNNING with the slot free (R50, R51, R60). The heads are evaluated before
the model can know that one is eligible, so a TRAY_GRANT that finds none still writes the hold reasons and sends the
BIN_OVERFLOW requests of that evaluation, though R50 calls it no decision. The model's choice, and an exception to log 2
(log 33). With `doorOpens` the door of a bin that the grant claims opens between the claim and the append (log 44). -/
def trayGrant (doorOpens : Bool) (s : State) : State :=
  if s.tsv.state = .running ∧ s.slotFree then decideTray (evaluateBoth s) doorOpens else s

/-- The grant decision over the queue heads (R51, R60). -/
def execTrayGrant (s : State) : Result := finish s (trayGrant false s)

/-- The bin that a head's grant newly claims (R58): of a statement with no bin, where a tag is free. -/
def headClaim (s : State) (q : Queue) : Option Bin := do
  let e ← (s.queue q).head?
  let st ← s.ofPair e.slot e.generation
  let _ ← s.freeTag
  if st.bin.isSome then none else claimBin s st

/-- The bin that the grant decision over the queue heads newly claims (R51, R58). -/
def grantClaim (s : State) : Option Bin :=
  if s.tsv.state = .running ∧ s.slotFree ∧ (releaseClaimant (evaluateBoth s)).isNone then
    (chooseHead (evaluateBoth s)).bind fun h => headClaim (evaluateBoth s) h.1
  else none

/-- The release window of a release at count `c` (R100). -/
def releaseWindowAt (s : State) (t : Tag) (r : Sheet) (c : Count) : ReleaseWindow :=
  let center := minus (plus c r.length) (s.leg .park)
  { tag := t
    opens := minus center (s.widened (s.limit .trailTolerance))
    closes := plus center (s.widened (s.limit .trailTolerance))
    widened := s.tsv.backup
    expired := false }

/-- The steps of a release after its claim was taken (R62, steps 3 to 5; R70, R100). -/
def finishRelease (s : State) (t : Tag) (r : Sheet) (c : Count) : State :=
  let predicted := plus c (s.leg .releaseReg)
  let s := appendPitch s t r.slot r.generation r.page .back predicted
  let s := expect s .reg (entryAt s t r.owner predicted (s.limit .leadTolerance))
  let s := { s with ptk := { s.ptk with release := some (releaseWindowAt s t r c) } }
  { s with adm := { s.adm with
      previous := some { tag := t, predicted, length := r.length, target := r.target, plex := .duplex } } }

/-- The release of the parked sheet (R62); a dropped claim withdraws the line. -/
def releaseSheet (s : State) (t : Tag) (r : Sheet) : State :=
  let s := { s with adm := { s.adm with releaseLine := true } }
  match claimRelease s t r.owner s.now with
  | (s, true) => finishRelease s t r s.now
  | (s, false) => { s with adm := { s.adm with releaseLine := false } }

/-- The release grant, with the slot free and the parked sheet eligible (R51, R62). -/
def releaseGrant (s : State) : State :=
  if s.slotFree then
    match releaseClaimant s with
    | none => s
    | some (t, r) => releaseSheet (evaluateBoth s) t r
  else s

/-- The grant of its release to the parked sheet (R62). -/
def execReleaseGrant (s : State) : Result := finish s (releaseGrant s)

/-! ## Picks (R61) -/

/-- The launch of a pick: the pick line asserted, the slot free, the pick window opened (R61, R92). -/
def launchPick (s : State) (p : Pick) : State :=
  let s := s.setPickLine p.entry.tray true
  let s := { s with adm := { s.adm with pick := some { p with issued := true } } }
  expect s (exitOf p.entry.tray)
    (entryAt s p.tag p.entry.owner (plus p.launch (s.limit .pickDistance)) (s.limit .pickTolerance))

/-- The launch of a pending pick in RUNNING or DRAINING, its launch count reached (R61). -/
def pickLaunch (s : State) : State :=
  match s.adm.pick with
  | none => s
  | some p =>
    if !p.issued ∧ (s.tsv.state = .running ∨ s.tsv.state = .draining) ∧ reaches s.now p.launch then launchPick s p
    else s

/-- The launch count of the pending pick is reached (R61). -/
def execPickLaunch (s : State) : Result := finish s (pickLaunch s)

/-! ## Flush (R46) -/

/-- The oldest flush request taken (R46; log 12). -/
def flushOldest (s : State) : State :=
  match s.requests.flushes with
  | [] => s
  | o :: rest => takeFlush { s with requests := { s.requests with flushes := rest } } o

/-- The ADM takes the oldest flush request (R46). -/
def execFlush (s : State) : Result := finish s (flushOldest s)

end Sys2Proof.Machine
end

