-- ==== Sys2Proof/Machine/Tracking.lean ====
section
/-! DEFINITION. The commands, edges and expiries of the Path Tracker (chapter 5). -/

namespace Sys2Proof.Machine

/-! ## CALIBRATE ZERO (R104) and READ SNAPSHOT (R110) -/

/-- The transport is STOPPED and no sheet record is live (R104, R176). -/
def State.quiet (s : State) : Bool := s.tsv.state = .stopped && s.live = 0

/-- CALIBRATE ZERO with its four readings (R104). -/
def takeCalibrate (r1 r2 r3 r4 : BitVec 10) (_ : List Word) (s : State) : State × Answer :=
  if !s.quiet then s.refuse .state
  else if !s.profile.enabled.gauge then s.refuse .state
  else if s.covered .reg then s.refuse .covered
  else
    let mean := (r1.toNat + r2.toNat + r3.toNat + r4.toNat) / 4
    ({ s with ptk := { s.ptk with zeroOffset := mean }, lines := { s.lines with gauge := r4 } },
     (.ok, [word r1.toNat, word r2.toNat, word r3.toNat, word r4.toNat, word mean]))

/-- GO 0Ch (R104). -/
def execCalibrateZero (r1 r2 r3 r4 : BitVec 10) (s : State) : Result :=
  finish s (s.command 0 (takeCalibrate r1 r2 r3 r4))

/-- READ SNAPSHOT: the seven words with locked as it was, and the snapshot unlocked (R110, R189). -/
def takeReadSnapshot (_ : List Word) (s : State) : State × Answer :=
  ({ s with ptk := { s.ptk with snapshot := { s.ptk.snapshot with locked := false } } },
   (.ok, s.ptk.snapshot.words))

/-- GO 0Dh (R110). -/
def execReadSnapshot (s : State) : Result := finish s (s.command 0 takeReadSnapshot)

/-! ## Edges (R88) -/

/-- A debounce whose distance has been run, or which both run lines ended, accepts its edge with the captured count (R88);
`later` as in TrackOps (log 41). -/
def completeDebounce (s : State) (x : Sensor) (later : Bool) : State :=
  match s.debouncing x with
  | none => s
  | some c =>
    if !s.runs ∨ reaches s.now (plus c (s.limit .debounceDistance)) then acceptEdge s x c later else s

/-- The other level on a sensor line. -/
def toggleSensor (s : State) (x : Sensor) : State :=
  { s with lines := { s.lines with sensors := s.lines.sensors.set x.idx (!s.lines.sensors[x.idx]) } }

/-- A sensor's line changes (R88): accepted at once while both run lines are withdrawn; otherwise a debounce starts, or
the return to the old level discards one. A debounce whose distance has been run when the line changes has held its level
to the end: its edge is accepted first, with its retirement claim taken at once, and the change is one of its own (the
model's reading, log 20). -/
def changeLine (s : State) (x : Sensor) : State :=
  let s := toggleSensor (completeDebounce s x false) x
  if s.lineCovered x = s.covered x then setDebounce s x none
  else if !s.runs then acceptEdge s x s.now false
  else setDebounce s x (some s.now)

/-- A change of a sensor line (R88). -/
def execSensorLineChange (sensor : Sensor) (s : State) : Result := finish s (changeLine s sensor)

/-- The end of a debounce, its edge accepted (R88). -/
def execDebounceComplete (edge : Edge) (s : State) : Result :=
  finish s (completeDebounce s edge.sensor edge.retireLater)

/-! ## Expiries (R88, R92, R95, R97, R100) -/

/-- The first entry of a sensor's list that the PTK takes now and whose close is reached; none while an edge of the
sensor is under debounce (R88). -/
def State.expiredEntry (s : State) (x : Sensor) : Option Expectation :=
  if (s.debouncing x).isSome then none else (s.watched x).find? fun e => reaches s.now e.closes

/-- The expiry of an entry of a sensor, if one is due. -/
def expireAt (s : State) (x : Sensor) : State :=
  match s.expiredEntry x with
  | none => s
  | some e => expireEntry s x e

/-- The pick window at the exit of a tray closes (R92). -/
def execPickWindowExpiry (tray : Tray) (s : State) : Result := finish s (expireAt s (exitOf tray))

/-- A lead window of a sensor past the tray exits closes (R95). -/
def execLeadWindowExpiry (sensor : Sensor) (s : State) : Result :=
  finish s (if (trayOf sensor).isSome then s else expireAt s sensor)

/-- The trail window of a record closes, if it is watched and its close is reached (R97, R88, R108). -/
def expireTrailOf (s : State) (t : Tag) : State :=
  match s.sheet t with
  | none => s
  | some r =>
    match r.trail with
    | none => s
    | some w =>
      if s.tracks t ∧ !w.expired ∧ (s.debouncing w.sensor).isNone ∧ reaches s.now w.closes then expireTrail s t r w
      else s

/-- The trail window of a sheet closes (R97). -/
def execTrailWindowExpiry (tag : Tag) (s : State) : Result := finish s (expireTrailOf s tag)

/-- The release window closes, if it is watched and its close is reached (R100). -/
def expireReleaseWindow (s : State) : State :=
  match s.ptk.release with
  | none => s
  | some w =>
    if s.tracking ∧ !w.expired ∧ (s.debouncing .dup2).isNone ∧ reaches s.now w.closes then expireRelease s w else s

/-- The release window closes (R100). -/
def execReleaseWindowExpiry (s : State) : Result := finish s (expireReleaseWindow s)

/-! ## Park (R98) -/

/-- The park claim of a due park watch, when no record is PARKED (R28, R98). -/
def parkDue (s : State) : State :=
  match s.ptk.park with
  | none => s
  | some w =>
    if s.tracking ∧ s.parkedTag.isNone ∧ reaches s.now w.count then
      claimPark { s with ptk := { s.ptk with park := none } } w.tag w.owner
    else s

/-- The park count is reached (R98). -/
def execPark (s : State) : Result := finish s (parkDue s)

/-! ## The gauge (R101 to R103) -/

/-- The verdict of four readings under a zero offset and a band (R102); below the band covers negative results. -/
def verdictOf (readings : List Nat) (zeroOffset : Nat) (band : TraySettings) : Verdict :=
  let mean := readings.sum / 4
  if band.bandHigh + zeroOffset < mean then .double
  else if mean < band.bandLow + zeroOffset then .thin
  else .normal

/-- The condemnation claim and the break request of a verdict other than NORMAL, with the pair of the burst (R102, actions
2 and 3). -/
def spoilByGauge (s : State) (t : Tag) (o : Owner) : State :=
  (s.claimCondemn { tag := some t, slot := o.slot, generation := o.generation, cause := .gauge }).askBreak
    o.slot o.generation .gauge none

/-- The suspect claim sent to the ADM, taken at once or after the next command (R49, R103; log 22). -/
def sendSuspect (s : State) (tray : Tray) (later : Bool) : State :=
  if later then { s with adm := { s.adm with suspects := s.adm.suspects ++ [tray] } } else takeSuspect s tray

/-- The verdict count of a tray after a verdict, and the suspect claim of a count of 2 (R103). -/
def countVerdict (s : State) (tray : Tray) (v : Verdict) (later : Bool) : State :=
  if v = .normal then s.setVerdicts tray 0
  else
    let n := min (s.ptk.verdicts[tray.idx] + 1) 2
    let s := s.setVerdicts tray n
    if n = 2 then sendSuspect s tray later else s

/-- The end of a burst with its verdict (R102). -/
def endBurst (s : State) (b : Burst) (readings : List Nat) (later : Bool) : State :=
  let v := verdictOf readings s.ptk.zeroOffset (s.traySettings b.tray)
  let s := { s with ptk := { s.ptk with burst := none } }
  let s := claimGauge s b.tag b.owner { readings := readings, verdict := v }
  let s := if v = .normal then s else spoilByGauge s b.tag b.owner
  countVerdict s b.tray v later

/-- One reading of the gauge lines (R101). -/
def takeReading (s : State) (b : Burst) (reading : BitVec 10) (later : Bool) : State :=
  let s := { s with lines := { s.lines with gauge := reading } }
  let readings := b.readings ++ [reading.toNat]
  if readings.length < 4 then { s with ptk := { s.ptk with burst := some { b with readings := readings } } }
  else endBurst s b readings later

/-- The count at which the next reading of a burst falls due: 100, 200, 300 and 400 past its REG lead (R101). -/
def Burst.due (b : Burst) : Count := plus b.regLead (100 * (b.readings.length + 1))

/-- A gauge sample taken when its count is reached (R101). -/
def gaugeSample (s : State) (reading : BitVec 10) (later : Bool) : State :=
  match s.ptk.burst with
  | none => s
  | some b => if reaches s.now b.due then takeReading s b reading later else s

/-- A gauge sample falls due (R101). -/
def execGaugeReading (reading : BitVec 10) (suspectLater : Bool) (s : State) : Result :=
  finish s (gaugeSample s reading suspectLater)

end Sys2Proof.Machine
end

