-- ==== Sys2Proof/Machine/TransportOps.lean ====
section
/-! DEFINITION. The operations of the Transport Supervisor (chapter 9): states and notices, run lines, drains, the start,
the measured rate, the backup base takeover. -/

namespace Sys2Proof.Machine

/-- The transport enters a state, or keeps it, with a TRANSPORT notice, whose cause the record takes (R162, R171). -/
def enter (s : State) (st : TransportState) (cause : TransportCause) (reason : StartReason) : State :=
  ({ s with tsv := { s.tsv with state := st, cause := some cause } }).notify (.transport st cause reason)

/-- Both run lines withdrawn: the open span is discarded, the silence watch stops, and the debounces end (R88, R163,
R169). -/
def withdrawBoth (s : State) : State :=
  settleDebounces { s with tsv :=
    { s.tsv with mainRun := false, outputRun := false, span := none, silenceWatch := false } }

/-- A drain begun from RUNNING with its cause (R167); both run lines stay asserted. -/
def beginDrain (s : State) (cause : TransportCause) : State := enter s .draining cause .none_

/-- STARTING ended in STOPPED: both run lines withdrawn, the start count absent, the notice (R165). -/
def endStart (s : State) (cause : TransportCause) (reason : StartReason) : State :=
  let s := withdrawBoth s
  enter { s with tsv := { s.tsv with startCount := none } } .stopped cause reason

/-- An event that begins a drain in RUNNING and ends the start in STARTING (STOP and the supply warning, R165, R167). -/
def stopEvent (s : State) (cause : TransportCause) : State :=
  match s.tsv.state with
  | .running => beginDrain s cause
  | .starting => endStart s cause .none_
  | .stopped | .draining | .runout | .jammed => s

/-- An accepted START (R164). -/
def acceptStart (s : State) : State :=
  enter { s with tsv := { s.tsv with
      backup := false
      startCount := some s.now
      mainRun := true
      outputRun := true
      span := none
      silenceWatch := false } } .starting .start .none_

/-- The path count plus `n`. -/
def advance (s : State) (n : Nat) : State := { s with tsv := { s.tsv with pathCount := plus s.tsv.pathCount n } }

/-- The rate of a span in whole counts per second: 500 counts divided by the time it took in nanoseconds, rounded down
(R163, log 9). -/
def spanRate (time : Nat) : Nat := Config.spanCounts * 1000000000 / time

/-- A rate lies in the start band (R163). -/
def inStartBand (rate : Nat) : Bool := Config.startBandLow ≤ rate && rate ≤ Config.startBandHigh

/-- The rate written to measured rate; a quotient outside 1 to 65535 writes a free value of that range (log 10). -/
def storedRate (time : Nat) : Nat :=
  if 1 ≤ spanRate time ∧ spanRate time ≤ 65535 then spanRate time else (Config.rateOutOfRange time).val + 1

/-- STARTING to RUNNING at a span in the band (R165). -/
def startComplete (s : State) : State :=
  enter { s with tsv := { s.tsv with encoderLost := false, pulseSince := false, startCount := none } }
    .running .startComplete .none_

/-- The end of a measurement span of real time `time`: the measured rate is written, the next span begins, and in STARTING
a rate in the band takes the transport to RUNNING (R163, R165). -/
def endSpan (s : State) (time : Nat) : State :=
  let s := { s with tsv := { s.tsv with rate := some (storedRate time), span := some { counts := 0, time := 0 } } }
  if s.tsv.state = .starting ∧ inStartBand (spanRate time) then startComplete s else s

/-- A pulse counted into the open span (R163): the first pulse after the lines were asserted begins the first span. -/
def measure (s : State) (elapsed : Nat) : State :=
  match s.tsv.span with
  | none => { s with tsv := { s.tsv with span := some { counts := 1, time := 0 } } }
  | some p =>
    if p.counts + 1 < Config.spanCounts then
      { s with tsv := { s.tsv with span := some { counts := p.counts + 1, time := p.time + elapsed } } }
    else endSpan s (p.time + elapsed)

/-- A pulse proves the encoder after a loss (R163). -/
def notePulse (s : State) : State :=
  if s.tsv.encoderLost then { s with tsv := { s.tsv with pulseSince := true } } else s

/-- An encoder pulse (R163, R169). -/
def pulse (s : State) (elapsed : Nat) : State :=
  let s := notePulse s
  if s.runs ∧ !s.tsv.backup then
    let s := advance s 1
    measure { s with tsv := { s.tsv with silenceWatch := true } } elapsed
  else s

/-- The rate a takeover works with: the measured rate, or a free value when none has been measured (log 21). -/
def State.takeoverRate (s : State) : Nat := s.tsv.rate.getD ((Config.rateUnmeasured s.now).val + 1)

/-- The catch-up counts of a takeover: the counts that the rate gives for the silence limit, rounded down (R170). -/
def State.catchUp (s : State) : Nat := s.takeoverRate * Config.silenceLimitMs / 1000

/-- ENCODER LOST set, pulse since loss no (R165, R170). -/
def loseEncoder (s : State) : State := { s with tsv := { s.tsv with encoderLost := true, pulseSince := false } }

/-- A window or a deadline that the catch-up counts of a takeover may pass (R170, step 3). -/
inductive Expiry
  | lead (sensor : Sensor) (entry : Expectation)
  | trail (tag : Tag)
  | release
  | deadline (tag : Tag)
deriving DecidableEq, Repr

/-- The expiry of a window or a deadline, if it is due (R73, R92, R95, R97, R100). -/
def takeExpiry (s : State) : Expiry → State
  | .lead x e =>
    if e ∈ s.watched x ∧ (s.debouncing x).isNone ∧ reaches s.now e.closes then expireEntry s x e else s
  | .trail t => expireTrailOf s t
  | .release => expireReleaseWindow s
  | .deadline t => expireDeadline s t

/-- An expiry takes its place by its count, behind one of equal count. -/
def insertExpiry (k : Count × Expiry) : List (Count × Expiry) → List (Count × Expiry)
  | [] => [k]
  | h :: t => if isLater h.1 k.1 then k :: h :: t else h :: insertExpiry k t

/-- Every window and every deadline with the count at which it expires: the lead windows by sensor, the trail windows by
tag, the release window, the deadlines in list order. -/
def openExpiries (s : State) : List (Count × Expiry) :=
  (Sensor.all.flatMap fun x => (s.list x).map fun e => (e.closes, .lead x e))
    ++ (tags.flatMap fun t => ((s.sheet t).bind fun r => r.trail).toList.map fun w => (w.closes, .trail t))
    ++ (s.ptk.release.toList.map fun w => (w.closes, .release))
    ++ s.tsq.pitches.map fun p => (p.deadline, .deadline p.tag)

/-- The windows and deadlines that the path count has passed expire, in the order of their counts (R170, step 3); those
of one count in the order of `openExpiries`, which is the model's choice (log 21). What falls due at a count and has a row
of its own, as a park or a gate request, is taken when it is commanded, after the takeover, even where its count lies
before that of a window that expires here: the model's choice too (logs 3 and 21). -/
def takeExpiries (s : State) : State :=
  ((openExpiries s).foldl (fun l k => insertExpiry k l) []).foldl (fun u k => takeExpiry u k.2) s

/-- The backup base takeover, steps 1 and 2 (R170): the windows wider, the deadlines earlier. -/
def beginBackup (s : State) : State :=
  let s := loseEncoder s
  let s := { s with tsv := { s.tsv with backup := true, span := none, silenceWatch := false } }
  pullInDeadlines (widenAll s)

/-- The backup base takeover, steps 1 to 3 (R170): what the catch-up counts pass expires before the notice of step 5. -/
def takeOver (s : State) : State :=
  let s := beginBackup s
  takeExpiries (advance s s.catchUp)

/-- Encoder silence taken (R169): a failed start, a takeover and a drain, or a takeover in the state kept. -/
def takeSilence (s : State) : State :=
  match s.tsv.state with
  | .starting => endStart (loseEncoder s) .startFailed .encoder
  | .running => beginDrain (takeOver s) .encoderLost
  | .draining => enter (takeOver s) .draining .encoderLost .none_
  | .runout => enter (takeOver s) .runout .encoderLost .none_
  | .stopped | .jammed => s

/-- The end of a drain (R168): the lines withdrawn, STOPPED with the gates cleared, the notice. -/
def completeDrain (s : State) : State := enter (clearGates (withdrawBoth s)) .stopped .drainComplete .none_

end Sys2Proof.Machine
end

