-- ==== Sys2Proof/Machine/BinSteps.lean ====
section
/-! DEFINITION. The commands, doors and requests of the Bin Manager (chapter 7). -/

namespace Sys2Proof.Machine

/-! ## BIN ACCEPT (R141) -/

/-- The record of an accepted BIN ACCEPT with count `n` and capacity `cap` (R141). -/
def BinRecord.accept (r : BinRecord) (n cap : Nat) : BinRecord :=
  { r with
    fill := n
    spoil := []
    last := none
    state := if n = cap then .full else .ready }

/-- An accepted BIN ACCEPT with its notice (R141). -/
def acceptBin (s : State) (b : Bin) (n : Nat) : State :=
  (s.setBin b ((s.bin b).accept n (s.capacity b))).notify
    (.bin b (if n = s.capacity b then .full else .ready) n)

/-- BIN ACCEPT: a bin, a count (R141). -/
def takeBinAccept (ws : List Word) (s : State) : State × Answer :=
  match ws with
  | [bw, nw] =>
    match argBin bw with
    | none => s.refuse .badArgument
    | some b =>
      if s.capacity b < nw.toNat then s.refuse .badArgument
      else if (s.bin b).state ≠ .check then s.refuse .state
      else if (s.bin b).reserved ≠ 0 then s.refuse .wait
      else if b = .p ∧ s.capacity b - nw.toNat < s.live then s.refuse .limit
      else
        let t := acceptBin s b nw.toNat
        (t, (.ok, [(t.bin b).state.code]))
  | _ => s.refuse .badArgument

/-- GO 0Eh (R141). -/
def execBinAccept (s : State) : Result := finish s (s.command 2 takeBinAccept)

/-! ## BIN ROLE (R142) -/

/-- B3 and B4, which the four-bin unit brings (R142). -/
def ofFourBins : Bin → Bool
  | .b3 | .b4 => true
  | .b1 | .b2 | .p => false

/-- BIN ROLE: a stacker, a role (R142, R176). -/
def takeBinRole (ws : List Word) (s : State) : State × Answer :=
  match ws with
  | [bw, rw] =>
    if !s.quiet then s.refuse .state
    else
      match argBin bw, argRole rw with
      | some b, some role =>
        if b = .p then s.refuse .badArgument
        else if ofFourBins b ∧ !s.profile.enabled.fourBins then s.refuse .state
        else if role = .off ∧ (s.bin b).stacking ≠ [] then s.refuse .state
        else (setRole s b role, (.ok, []))
      | _, _ => s.refuse .badArgument
  | _ => s.refuse .badArgument

/-- GO 0Fh (R142). -/
def execBinRole (s : State) : Result := finish s (s.command 2 takeBinRole)

/-! ## QUERY BIN (R143) -/

/-- The words of a spoil range; the status is OPEN 0, CLOSED 1 (R134, R185). -/
def spoilWords (g : SpoilRange) : List Word :=
  [word g.first, word g.last] ++ dword g.ident ++ [if g.isOpen then 0 else 1]

/-- The words of an owner. -/
def ownerWords (o : Owner) : List Word := [slotCode o.slot, word o.generation]

/-- The stacker fields of QUERY BIN, each an optional value in every record (R143, R185). -/
def stackerWords (s : State) (b : Bin) : List Word :=
  let r := s.bin b
  let here := fun (ws : List Word) => if b = .p then none else some ws
  optWords 9 (here (listWords 4 2 (r.stacking.map ownerWords)))
    ++ optWords 21 (here (listWords 4 5 (r.spoil.map spoilWords)))
    ++ optWords 1 (here [if r.jogRight then 1 else 0])
    ++ optWords 2 (if b = .p then none else r.last.map ownerWords)
    ++ optWords 1 (here [word (fenceCount s b)])

/-- The words of QUERY BIN (R143). -/
def binWords (s : State) (b : Bin) : List Word :=
  let r := s.bin b
  [r.role.code, r.state.code, word (s.capacity b), word r.fill, word r.reserved, word (s.credit b)]
    ++ stackerWords s b
    ++ [if s.lines.doors[b.idx] then 0 else 1, if s.lines.empties[b.idx] then 0 else 1, yesNo (s.bnm.pointer = b)]

/-- The empty line of a bin read. -/
def readEmpty (s : State) (b : Bin) (active : Bool) : State :=
  { s with lines := { s.lines with empties := s.lines.empties.set b.idx active } }

/-- QUERY BIN: a bin, with the present level of its empty line (R143; log 6). -/
def takeQueryBin (emptyActive : Bool) (ws : List Word) (s : State) : State × Answer :=
  match ws with
  | [w] =>
    match argBin w with
    | none => s.refuse .badArgument
    | some b =>
      let s := readEmpty s b emptyActive
      (s, (.ok, binWords s b))
  | _ => s.refuse .badArgument

/-- GO 10h (R143). -/
def execQueryBin (emptyActive : Bool) (s : State) : Result := finish s (s.command 1 (takeQueryBin emptyActive))

/-! ## Doors (R138 to R140) -/

/-- What follows an opening (R138, R139): a stacker breaks its statements, P begins a drain in RUNNING. -/
def afterOpening (s : State) (b : Bin) : State :=
  if b = .p then (if s.tsv.state = .running then beginDrain s .purgeDoor else s) else breakListed s b

/-- A bin's door opens (R138, R139). -/
def openDoor (s : State) (b : Bin) : State := openWith afterOpening s b

/-- The opening of a door that may fall within a grant decision: where it does and the decision claims the bin, the grant is
made with the opening between its claim and its append, so that the statement is listed and broken at once (R129, R144);
otherwise the door opens by itself (the model's choice, log 44). -/
def meetDoor (s : State) (o : Opening) : State :=
  if o.meetsClaim ∧ !s.lines.doors[o.bin.idx] ∧ grantClaim s = some o.bin then trayGrant true s else openDoor s o.bin

/-- A bin door opens (R138, R139). -/
def execBinDoorOpened (opening : Opening) (s : State) : Result := finish s (meetDoor s opening)

/-- The record of a bin after an empty close (R140). -/
def BinRecord.empty (r : BinRecord) : BinRecord :=
  { r with state := .ready, fill := 0, spoil := [], jogRight := false, last := none }

/-- A bin's door closes with its empty line read (R140). -/
def closeDoor (s : State) (b : Bin) (emptyActive : Bool) : State :=
  if s.lines.doors[b.idx] then
    let s := readEmpty (setDoor s b false) b emptyActive
    if (s.bin b).state ≠ .doorOpen then s
    else if emptyActive then (s.setBin b (s.bin b).empty).notify (.bin b .doorClosed 0)
    else (s.setBin b { s.bin b with state := .check }).notify (.bin b .check (s.bin b).fill)
  else s

/-- A bin door closes, with the level of the empty line (R140). -/
def execBinDoorClosed (bin : Bin) (emptyActive : Bool) (s : State) : Result := finish s (closeDoor s bin emptyActive)

/-! ## Requests of the STU (R135) -/

/-- The oldest request taken by the BNM, when it is an opening request (R135; log 12). -/
def takeOpening (s : State) : State :=
  match s.requests.bins with
  | .opening b ident first last :: rest =>
    openSpoil { s with requests := { s.requests with bins := rest } } b ident first last
  | _ => s

/-- The BNM takes an opening request (R135). -/
def execSpoilRangeOpening (s : State) : Result := finish s (takeOpening s)

/-- The oldest request taken by the BNM, when it is a closing request (R135; log 12). -/
def takeClosing (s : State) : State :=
  match s.requests.bins with
  | .closing b slot generation ident :: rest =>
    closeSpoil { s with requests := { s.requests with bins := rest } } b slot generation ident
  | _ => s

/-- The BNM takes a closing request (R135). -/
def execClosingRequest (s : State) : Result := finish s (takeClosing s)

end Sys2Proof.Machine
end

