-- ==== Sys2Proof/Machine/GateSteps.lean ====
section
/-! DEFINITION. The steps of the Gate Scheduler (chapter 6). -/

namespace Sys2Proof.Machine

/-- The due request of a gate, when it is a THROW (R117). -/
def throwDue (s : State) (g : Gate) : State :=
  match s.dueRequest g with
  | none => s
  | some q => if q.kind = .throw then takeThrow s g q else s

/-- The first request of a gate, a THROW, is due (R117). -/
def execGateThrow (gate : Gate) (s : State) : Result := finish s (throwDue s gate)

/-- The due request of a gate, when it is a PASSAGE (R118). -/
def passageDue (s : State) (g : Gate) : State :=
  match s.dueRequest g with
  | none => s
  | some q => if q.kind = .passage then takePassage s g q else s

/-- The first request of a gate, a PASSAGE, is due (R118). -/
def execGatePassage (gate : Gate) (s : State) : Result := finish s (passageDue s gate)

/-- The clearance count of a held gate is reached (R119). -/
def execGateClearance (gate : Gate) (s : State) : Result := finish s (takeClearance s gate)

/-- The oldest reroute request taken (R120; log 12). -/
def rerouteOldest (s : State) : State :=
  match s.requests.reroutes with
  | [] => s
  | q :: rest => takeReroute { s with requests := { s.requests with reroutes := rest } } q

/-- The GSC takes the oldest reroute request (R120). -/
def execReroute (s : State) : Result := finish s (rerouteOldest s)

end Sys2Proof.Machine
end

