-- ==== Sys2Proof/Machine/JamOps.lean ====
section
/-! DEFINITION. Jam handling (chapter 8): declaration, run-out, second and further faults, CLEAR JAM. -/

namespace Sys2Proof.Machine

/-- The drive section of a sensor (R89, R146). -/
def sectionOf : Sensor → Section
  | .f1 | .f2 | .f3 | .reg | .xfer | .fuse | .dup1 | .dup2 => .main
  | .out | .b1 | .b2 | .b3 | .b4 | .bp => .output

/-- The JAM notice of a fault (R148, R154, R155). -/
def jamNotice (s : State) (f : PathFault) (second : Bool) : Notice :=
  .jam f.cause f.sensor f.tag (sectionOf f.sensor) s.now second

/-- The record and the report of a declaration (R148). -/
def recordJam (s : State) (f : PathFault) : State :=
  let s := { s with jam :=
    { cause := some f.cause
      sensor := f.sensor
      tag := f.tag
      section_ := sectionOf f.sensor
      count := s.now
      runOutCount := 0
      further := 0
      delivered := [] } }
  let s := latch s f.cause f.sensor f.tag false
  s.notify (jamNotice s f false)

/-- The ADM at a declaration (R149): the pick line of an open pick and the release line withdrawn. -/
def haltAdmission (s : State) : State :=
  { s with adm := { s.adm with pickLines := Vector.replicate 3 false, releaseLine := false } }

/-- The main section stopped and the blocks told (R149): the main run line withdrawn, the start limit abandoned. -/
def stopMain (s : State) : State :=
  let s := { s with tsv := { s.tsv with mainRun := false, startCount := none } }
  haltAdmission (policyD (freezeGates (freezeTracker (haltSequencer s))))

/-- The end of run-out (R153): the output run line withdrawn, JAMMED, the hold policy on G1 to G4. -/
def endRunOut (s : State) : State := policyG (enter (withdrawBoth s) .jammed .runoutComplete .none_)

/-- A declaration in the main section (R150): the run-out selection, RUNOUT, and its end at once with nothing to run
out. -/
def runOut (s : State) : State :=
  let s := selectRunOut s
  let n := (s.tagsWhere fun r => r.runOut).length
  let s := { s with jam := { s.jam with runOutCount := n } }
  let s := enter s .runout .jam .none_
  if n = 0 then endRunOut s else s

/-- A declaration in the output section (R150): the output run line withdrawn, every live record stranded, JAMMED. -/
def stopOutput (s : State) : State := policyG (enter (strandAll (withdrawBoth s)) .jammed .jam .none_)

/-- A fault declared (R148 to R151). -/
def declareJam (s : State) (f : PathFault) : State :=
  let s := stopMain (recordJam s f)
  match sectionOf f.sensor with
  | .main => runOut s
  | .output => stopOutput s

/-- Further faults plus 1, stopping at 255 (R146). -/
def countFurther (s : State) : State := { s with jam := { s.jam with further := min (s.jam.further + 1) 255 } }

/-- The count, the latch and the notice of a fault that is not the declaration (R154, R155). -/
def reportFurther (s : State) (f : PathFault) : State :=
  let s := latch (countFurther s) f.cause f.sensor f.tag true
  s.notify (jamNotice s f true)

/-- A second fault in RUNOUT (R154). -/
def secondFault (s : State) (f : PathFault) : State :=
  let s := withdrawBoth (reportFurther s f)
  let s := strandRunOut s
  let s := { s with jam := { s.jam with runOutCount := 0 } }
  policyG (enter s .jammed .secondFault .none_)

/-- A fault taken by jam handling, by the transport state (R147). -/
def takeFault (s : State) (f : PathFault) : State :=
  match s.tsv.state with
  | .stopped | .starting | .running | .draining => declareJam s f
  | .runout => secondFault s f
  | .jammed => reportFurther s f

/-! ## CLEAR JAM (R157 to R160) -/

/-- Every request that waits at the SHT, the ADM and the BNM taken, oldest first, and every reroute request dropped
(R158; log 14). -/
def settleRequests (s : State) : State :=
  let s := s.requests.condemns.foldl takeCondemn { s with requests := { s.requests with condemns := [], reroutes := [] } }
  let s := s.requests.flushes.foldl takeFlush { s with requests := { s.requests with flushes := [] } }
  s.requests.bins.foldl takeBin { s with requests := { s.requests with bins := [] } }

/-- A lost sheet (R158): the loss report, the reservation, the JAM break with its requests, the retirement. -/
def resolveLost (s : State) (t : Tag) (r : Sheet) : State :=
  let s := reportLoss s r.slot r.generation
  let s := release s r.target
  let s := breakNow s r.slot r.generation .jam
  retire (settleRequests s) t

/-- A STRANDED record resolved at CLEAR JAM (R158). -/
def resolve (s : State) (t : Tag) : State :=
  match s.sheet t with
  | none => s
  | some r =>
    if r.state = .stranded then
      if t ∈ s.jam.delivered then retire s t else resolveLost s t r
    else s

/-- The ADM at CLEAR JAM (R159). -/
def clearPick (s : State) : State := { s with adm := { s.adm with pick := none, previous := none } }

/-- An accepted CLEAR JAM (R158 to R160). -/
def clearPath (s : State) : State :=
  let s := tags.foldl resolve s
  let s := clearPick (clearGates (clearTracker (clearSequencer s)))
  let s := { s with
    jam := { s.jam with runOutCount := 0, delivered := [] }
    requests := { s.requests with reroutes := [] } }
  enter s .stopped .clearJam .none_

/-- Some debounced level is COVERED (R111). -/
def State.anyCovered (s : State) : Bool := s.ptk.debounced.toList.any fun b => b

end Sys2Proof.Machine
end

