-- ==== Sys2Proof/Machine/JamSteps.lean ====
section
/-! DEFINITION. The commands and steps of jam handling (chapter 8). -/

namespace Sys2Proof.Machine

/-- CLEAR JAM (R157). -/
def takeClearJam (_ : List Word) (s : State) : State × Answer :=
  if s.tsv.state ≠ .jammed then s.refuse .state
  else if s.anyCovered then s.refuse .covered
  else (clearPath s, (.ok, []))

/-- GO 11h (R157). -/
def execClearJam (s : State) : Result := finish s (s.command 0 takeClearJam)

/-- The fault at a place among those waiting, taken by jam handling (R147; log 11). -/
def takeFaultAt (s : State) (place : Nat) : State :=
  match s.requests.faults[place]? with
  | none => s
  | some f => takeFault { s with requests := { s.requests with faults := s.requests.faults.eraseIdx place } } f

/-- Jam handling takes a fault handed to it (R147). -/
def execJam (place : Nat) (s : State) : Result := finish s (takeFaultAt s place)

/-- The end of run-out when the run-out count is 0 in RUNOUT (R153). -/
def runoutDone (s : State) : State :=
  if s.tsv.state = .runout ∧ s.jam.runOutCount = 0 then endRunOut s else s

/-- The run-out count is 0 in RUNOUT (R153). -/
def execRunoutComplete (s : State) : Result := finish s (runoutDone s)

end Sys2Proof.Machine
end

