-- ==== Sys2Proof/Machine/Flags.lean ====
section
/-! DEFINITION. What the window and the lines show, computed from State: STATUS, the attention line, the jog lines, the
snapshot port (R126, R182, R189, R190). -/

namespace Sys2Proof.Machine

/-- The attention line (R190). -/
def State.attention (s : State) : Bool :=
  !s.cpt.notices.isEmpty || s.unreadCall || s.ptk.snapshot.locked || s.cpt.noticeLost

/-- The weight of a set bit. -/
def bitValue (b : Bool) (n : Nat) : Nat := if b then 2 ^ n else 0

/-- The STATUS word (R190). -/
def State.status (s : State) : Word :=
  word (bitValue s.cpt.busy 0 + bitValue s.cpt.noticeLost 1 + bitValue (!s.cpt.notices.isEmpty) 2
    + bitValue s.unreadCall 3 + bitValue s.ptk.snapshot.locked 4 + bitValue s.attention 5
    + s.cpt.notices.length * 256)

/-- The jog line of a stacker: asserted for RIGHT, withdrawn while the bin is OFF (R126). -/
def State.jogLine (s : State) (b : Bin) : Bool := b != .p && (s.bin b).state != .off && (s.bin b).jogRight

/-- The snapshot word that the port shows (R189). -/
def State.snapshotData (s : State) : Word := s.ptk.snapshot.words.getD s.cpt.select 0

/-- What a read returns of the registers whose read changes nothing (R182): STATUS, the write-only registers, the
snapshot port and the unused offsets; `none` for RESULT, NOTICE, NOTICE DATA, CALL and CALL DATA, whose reads are
commands of their own. -/
def State.plainRead (s : State) (offset : BitVec 5) : Option Word :=
  match offset.toNat / 2 with
  | 0 => some s.status
  | 3 | 4 | 5 | 6 | 7 => none
  | 8 => some (word s.cpt.select)
  | 9 => some s.snapshotData
  | _ => some 0

end Sys2Proof.Machine
end

