-- ==== Sys2Proof/Machine/PortSteps.lean ====
section
/-! DEFINITION. The Command Port: the register accesses, CLEAR NOTICE LOST and the two resets (chapter 11). -/

namespace Sys2Proof.Machine

/-! ## Commands (R183, R184) -/

/-- A write to GO of a code that names no command: BAD_COMMAND, ignored while BUSY is set (R183). -/
def execBadCommand (_ : Word) (s : State) : Result :=
  finish s (if s.cpt.busy then s else s.answer (.badCommand, []))

/-- An argument word appended to the command buffer, or the overrun mark (R183). -/
def pushWord (s : State) (w : Word) : State :=
  if s.cpt.buffer.length < 8 then { s with cpt := { s.cpt with buffer := s.cpt.buffer ++ [w] } }
  else { s with cpt := { s.cpt with overrun := true } }

/-- A write to COMMAND DATA, ignored while BUSY is set (R183). -/
def execCommandData (w : Word) (s : State) : Result := finish s (if s.cpt.busy then s else pushWord s w)

/-- A write that the window ignores (R182, R183). -/
def execIgnoredRegisterWrite (_ : BitVec 5) (_ : Word) (s : State) : Result := finish s s

/-- The word a read returns. -/
def returns (s : State) (w : Word) : State := { s with cpt := { s.cpt with readData := w } }

/-- A read of RESULT: the word at the cursor, which moves on; 0000h past the end and while BUSY is set (R184). -/
def readResult (s : State) : State :=
  if s.cpt.busy then returns s 0
  else
    match s.cpt.result[s.cpt.cursor]? with
    | none => returns s 0
    | some w => returns { s with cpt := { s.cpt with cursor := s.cpt.cursor + 1 } } w

/-- A read of RESULT (R184). -/
def execResult (s : State) : Result := finish s (readResult s)

/-! ## Notices (R186, R187) -/

/-- A read of NOTICE: the oldest notice taken into the buffer and its header returned, or 0000h (R187). -/
def readNotice (s : State) : State :=
  match s.cpt.notices with
  | [] => returns { s with cpt := { s.cpt with noticeBuffer := [] } } 0
  | n :: rest => returns { s with cpt := { s.cpt with notices := rest, noticeBuffer := n.words } } n.header

/-- A read of NOTICE (R187). -/
def execNotice (s : State) : Result := finish s (readNotice s)

/-- A read of NOTICE DATA: the next word of the buffered notice, or 0000h past its end (R187). -/
def readNoticeData (s : State) : State :=
  match s.cpt.noticeBuffer with
  | [] => returns s 0
  | w :: rest => returns { s with cpt := { s.cpt with noticeBuffer := rest } } w

/-- A read of NOTICE DATA (R187). -/
def execNoticeData (s : State) : Result := finish s (readNoticeData s)

/-- CLEAR NOTICE LOST (R186). -/
def takeClearNoticeLost (_ : List Word) (s : State) : State × Answer :=
  ({ s with cpt := { s.cpt with noticeLost := false } }, (.ok, []))

/-- GO 1Dh (R186). -/
def execClearNoticeLost (s : State) : Result := finish s (s.command 0 takeClearNoticeLost)

/-! ## Side calls (R83, R188) -/

/-- The statement id of a call view, read from the statement record (R83; log 26). -/
def identOf (s : State) (slot : Slot) : Ident := ((s.statement slot).map fun r => r.ident).getD 0

/-- The words of a call view after its header (R188). -/
def callWords (s : State) (p : Pitch) : List Word :=
  [p.call, tagCode p.tag, p.side.code, p.state.code] ++ dword p.deadline ++ [slotCode p.slot]
    ++ dword (identOf s p.slot) ++ [word p.generation, word p.page]

/-- A read of CALL: the oldest unread pitch marked read and its view taken, or 0000h (R83, R188). -/
def readCall (s : State) : State :=
  match s.tsq.pitches.find? fun p => !p.read with
  | none => returns { s with cpt := { s.cpt with callBuffer := [] } } 0
  | some p =>
    let t := s.updatePitch p.tag fun q => { q with read := true }
    returns { t with cpt := { t.cpt with callBuffer := callWords s p } } (header 1 12)

/-- A read of CALL (R188). -/
def execCall (s : State) : Result := finish s (readCall s)

/-- A read of CALL DATA: the next word of the buffered view, or 0000h past its end (R188). -/
def readCallData (s : State) : State :=
  match s.cpt.callBuffer with
  | [] => returns s 0
  | w :: rest => returns { s with cpt := { s.cpt with callBuffer := rest } } w

/-- A read of CALL DATA (R188). -/
def execCallData (s : State) : Result := finish s (readCallData s)

/-- A write to SNAPSHOT SELECT: a value above 6 sets the index to 0 (R189). -/
def execSnapshotSelect (w : Word) (s : State) : Result :=
  finish s { s with cpt := { s.cpt with select := if w.toNat ≤ 6 then w.toNat else 0 } }

/-! ## Resets (R191) -/

/-- Cold reset with the strap levels it latches (R178, R191); the queue of waiting commands is the model's own. -/
def execColdReset (straps : Units) (s : State) : Result :=
  finish s (State.afterColdReset s.pending { s.lines with straps := straps })

/-- The port's own part of a warm reset (R191). -/
def warmPort (s : State) : State :=
  ({ s with cpt := { s.cpt with
      notices := []
      noticeBuffer := []
      callBuffer := []
      noticeLost := false
      select := 0 } }).notify (.reset .warm)

/-- The Path Tracker after warm reset: the zero offset and the verdict counts kept (R112). -/
def warmTracker (s : State) : State :=
  { s with ptk :=
    { Tracker.atReset (Vector.ofFn fun i => s.lineCovered (Sensor.all[i.val]?.getD .f1)) with
      zeroOffset := s.ptk.zeroOffset
      verdicts := s.ptk.verdicts } }

/-- The Admission Controller after warm reset: the queues and the tray conditions kept (R66). -/
def warmAdmission (s : State) : State :=
  { s with adm := { Admission.atReset with
      newQueue := s.adm.newQueue
      restartQueue := s.adm.restartQueue
      conditions := s.adm.conditions } }

/-- The transport after warm reset: the path count kept (R174). -/
def warmTransport (s : State) : State :=
  { s with tsv := { Transport.atReset with pathCount := s.tsv.pathCount } }

/-- The flush requests and the requests of the BNM taken, oldest first (R20; log 13). -/
def drainRequests (s : State) : State :=
  let s := s.requests.flushes.foldl takeFlush { s with requests := { s.requests with flushes := [] } }
  s.requests.bins.foldl takeBin { s with requests := { s.requests with bins := [] } }

/-- The claims of paper in motion discarded (R43; log 13). -/
def discardClaims (s : State) : State :=
  { s with requests := { s.requests with faults := [], condemns := [], reroutes := [], retires := [] } }

/-- What describes paper in motion cleared in every block, the reservations set to 0 (R191). -/
def clearMotion (s : State) : State :=
  let s := { s with sheets := Vector.replicate 48 none, tsq := Sequencer.atReset, jam := JamRecord.atReset }
  warmTransport (warmAdmission (clearGates (warmTracker (clearReserved (discardClaims (drainRequests s))))))

/-- The warm-reset break of a slot with sheets in flight, then in flight 0 and the closing request (R20). -/
def resetBreak (s : State) (slot : Slot) : State :=
  match s.statement slot with
  | none => s
  | some r =>
    if r.inFlight = 0 then s
    else
      let s := breakNow s slot r.generation .reset
      match s.statement slot with
      | none => s
      | some r =>
        discardClaims (drainRequests
          (closeIfClear (s.setStatement slot (some { r with inFlight := 0 })) slot))

/-- A warm reset: the port's part first, every block's, the RESET breaks in ascending slot order, then the units (R191,
R180, R145). A break request that waits stays one, as BREAK is a step of its own; a range that no break of the reset closes
is set CLOSED, and its statement is left as it is (R20, R145; the model's choice, log 13). -/
def warmReset (s : State) : State :=
  let s := closeRanges (slots.foldl resetBreak (clearMotion (warmPort s)))
  writeUnits s s.profile.fitted

/-- WARM RESET (R191). -/
def takeWarmReset (_ : List Word) (s : State) : State × Answer := (warmReset s, (.ok, []))

/-- GO 1Eh (R191). -/
def execWarmReset (s : State) : Result := finish s (s.command 0 takeWarmReset)

end Sys2Proof.Machine
end

