-- ==== Sys2Proof/Machine/ProfileSteps.lean ====
section
/-! DEFINITION. The profile store: its relations and the configuration commands (chapter 10). -/

namespace Sys2Proof.Machine

/-! ## The relations of R177 -/

namespace Profile

/-- A leg of a profile. -/
def leg (p : Profile) (l : Leg) : Nat := p.legs[l.idx]

/-- A limit of a profile. -/
def limit (p : Profile) (l : Limit) : Nat := p.limits[l.idx]

/-- A gate offset of a profile. -/
def offset (p : Profile) (g : Gate) : Nat := p.offsets[g.idx]

/-- A limit times the backup-base tolerance multiplier (R177). -/
def timesM (p : Profile) (l : Limit) : Nat := p.limit l * p.limit .backupMultiplier

/-- The pairs of consecutive legs of a route (R177). -/
def legPairs : List (Leg × Leg) :=
  [(.f1Reg, .regXfer), (.f2Reg, .regXfer), (.f3Reg, .regXfer), (.releaseReg, .regXfer), (.regXfer, .xferFuse),
   (.xferFuse, .fuseOut), (.xferFuse, .fuseDup1), (.fuseDup1, .dup1Dup2), (.fuseOut, .outB1), (.fuseOut, .outB2),
   (.fuseOut, .outB3), (.fuseOut, .outB4), (.fuseOut, .outBp)]

/-- The relations in which a length appears (R177, the first three). -/
def lengthOk (p : Profile) (length : Nat) : Bool :=
  (legPairs.all fun k => length < p.leg k.1 + p.leg k.2)
    && p.leg .park + p.leg .releaseReg + p.timesM .leadTolerance + p.timesM .trailTolerance < length
    && 2 * p.timesM .leadTolerance < length + p.limit .minimumGap

/-- The relations among gaps, legs and margins (R177, the fourth and the fifth). -/
def marginsOk (p : Profile) : Bool :=
  p.timesM .pickTolerance < p.limit .minimumGap
    && [Leg.f1Reg, .f2Reg, .f3Reg].all fun l => p.timesM .sideReadyMargin < p.leg l

/-- A gate's offset less the throw lead is less than a leg less the lead tolerance times m (R177). -/
def gateBefore (p : Profile) (g : Gate) (l : Leg) : Bool :=
  p.offset g + p.timesM .leadTolerance < p.leg l + p.limit .throwLead

/-- The relations of the gates (R177, the last four). -/
def gatesOk (p : Profile) : Bool :=
  (Gate.all.all fun g => p.limit .throwLead < p.offset g)
    && p.gateBefore .d .fuseOut && p.gateBefore .d .fuseDup1
    && p.gateBefore .g1 .outB1 && p.gateBefore .g2 .outB2 && p.gateBefore .g3 .outB3 && p.gateBefore .g4 .outB4
    && p.offset .g1 < p.offset .g2 && p.offset .g2 < p.offset .g3 && p.offset .g3 < p.offset .g4
    && p.gateBefore .g4 .outBp

/-- Every relation of R177 holds, for every tray where a length appears. -/
def relationsHold (p : Profile) : Bool :=
  (Tray.all.all fun t => p.lengthOk p.trays[t.idx].length) && p.marginsOk && p.gatesOk

end Profile

/-! ## Writing a setting (R176) -/

/-- The profile store written when its relations hold, LIMIT otherwise (R177). -/
def writeProfile (s : State) (p : Profile) : State × Answer :=
  if p.relationsHold then ({ s with profile := p }, (.ok, [])) else s.refuse .limit

/-- SET LEG: a leg or PARK, a distance (R176). -/
def takeSetLeg (ws : List Word) (s : State) : State × Answer :=
  match ws with
  | [lw, dw] =>
    if !s.quiet then s.refuse .state
    else
      match argLeg lw with
      | none => s.refuse .badArgument
      | some l =>
        match argIn dw l.range.1 l.range.2 with
        | none => s.refuse .badArgument
        | some d => writeProfile s { s.profile with legs := s.profile.legs.set l.idx d }
  | _ => s.refuse .badArgument

/-- GO 15h (R176). -/
def execSetLeg (s : State) : Result := finish s (s.command 2 takeSetLeg)

/-- SET TRAY: a tray, a length, a band low and high (R175, R176). -/
def takeSetTray (ws : List Word) (s : State) : State × Answer :=
  match ws with
  | [tw, nw, lw, hw] =>
    if !s.quiet then s.refuse .state
    else
      match argTray tw, argIn nw 400 4000, argIn lw 0 1023, argIn hw 0 1023 with
      | some t, some n, some lo, some hi =>
        if hi < lo then s.refuse .badArgument
        else writeProfile s { s.profile with
          trays := s.profile.trays.set t.idx { length := n, bandLow := lo, bandHigh := hi } }
      | _, _, _, _ => s.refuse .badArgument
  | _ => s.refuse .badArgument

/-- GO 16h (R176). -/
def execSetTray (s : State) : Result := finish s (s.command 4 takeSetTray)

/-- A polarity written: the line's present level under it is the debounced level at once (R176). -/
def writePolarity (s : State) (x : Sensor) (p : Polarity) : State :=
  let s := { s with profile := { s.profile with polarity := s.profile.polarity.set x.idx p } }
  setLevel s x (s.lineCovered x)

/-- SET SENSOR: a sensor, a polarity (R176). -/
def takeSetSensor (ws : List Word) (s : State) : State × Answer :=
  match ws with
  | [xw, pw] =>
    if !s.quiet then s.refuse .state
    else
      match argSensor xw, argPolarity pw with
      | some x, some p => (writePolarity s x p, (.ok, []))
      | _, _ => s.refuse .badArgument
  | _ => s.refuse .badArgument

/-- GO 17h (R176). -/
def execSetSensor (s : State) : Result := finish s (s.command 2 takeSetSensor)

/-- SET GATE: a gate, an offset (R175, R176). -/
def takeSetGate (ws : List Word) (s : State) : State × Answer :=
  match ws with
  | [gw, ow] =>
    if !s.quiet then s.refuse .state
    else
      match argGate gw, argIn ow 50 20000 with
      | some g, some o => writeProfile s { s.profile with offsets := s.profile.offsets.set g.idx o }
      | _, _ => s.refuse .badArgument
  | _ => s.refuse .badArgument

/-- GO 18h (R176). -/
def execSetGate (s : State) : Result := finish s (s.command 2 takeSetGate)

/-- SET LIMITS: a limit, a value (R176). -/
def takeSetLimits (ws : List Word) (s : State) : State × Answer :=
  match ws with
  | [lw, vw] =>
    if !s.quiet then s.refuse .state
    else
      match argLimit lw with
      | none => s.refuse .badArgument
      | some l =>
        match argIn vw l.range.1 l.range.2 with
        | none => s.refuse .badArgument
        | some v => writeProfile s { s.profile with limits := s.profile.limits.set l.idx v }
  | _ => s.refuse .badArgument

/-- GO 19h (R176). -/
def execSetLimits (s : State) : Result := finish s (s.command 2 takeSetLimits)

/-- A capacity written: a bin whose fill it equals becomes FULL (R128, R176). -/
def writeCapacity (s : State) (b : Bin) (n : Nat) : State :=
  fillUp { s with profile := { s.profile with capacities := s.profile.capacities.set b.idx n } } b

/-- SET CAPACITY: a bin, a capacity (R175, R176, R128). -/
def takeSetCapacity (ws : List Word) (s : State) : State × Answer :=
  match ws with
  | [bw, nw] =>
    if !s.quiet then s.refuse .state
    else
      match argBin bw, argIn nw 100 4000 with
      | some b, some n =>
        if n < (s.bin b).fill then s.refuse .limit else (writeCapacity s b n, (.ok, []))
      | _, _ => s.refuse .badArgument
  | _ => s.refuse .badArgument

/-- GO 1Ah (R176). -/
def execSetCapacity (s : State) : Result := finish s (s.command 2 takeSetCapacity)

/-! ## SET UNITS (R179) -/

/-- No unit is enabled whose fitted value is not fitted (R179, check 1). -/
def unitsFit (fitted u : Units) : Bool :=
  (!u.duplex || fitted.duplex) && (!u.fourBins || fitted.fourBins) && (!u.gauge || fitted.gauge)

/-- Some record that is not FREE has plex DUPLEX (R7). -/
def State.holdsDuplex (s : State) : Bool := slots.any fun t => (s.statement t).any fun r => r.plex = .duplex

/-- The own checks of SET UNITS and its write (R179). -/
def setUnits (s : State) (u : Units) : State × Answer :=
  if !unitsFit s.profile.fitted u then s.refuse .badArgument
  else if s.profile.enabled.duplex ∧ !u.duplex ∧ s.holdsDuplex then s.refuse .state
  else if s.profile.enabled.fourBins ∧ !u.fourBins ∧ ((s.bin .b3).stacking ≠ [] ∨ (s.bin .b4).stacking ≠ []) then
    s.refuse .state
  else (writeUnits s u, (.ok, []))

/-- SET UNITS: an enable value for duplex, four bins and gauge (R176, R179), taken as yes/no values (log 16). -/
def takeSetUnits (ws : List Word) (s : State) : State × Answer :=
  match ws with
  | [dw, fw, gw] =>
    if !s.quiet then s.refuse .state
    else
      match argBool dw, argBool fw, argBool gw with
      | some d, some f, some g => setUnits s { duplex := d, fourBins := f, gauge := g }
      | _, _, _ => s.refuse .badArgument
  | _ => s.refuse .badArgument

/-- GO 1Bh (R179). -/
def execSetUnits (s : State) : Result := finish s (s.command 3 takeSetUnits)

/-! ## QUERY PROFILE (R181) -/

/-- The words of the UNITS group: fitted and enabled of each unit as yes/no values, then the strap levels, HIGH 0 and
LOW 1 (R181; the coding is the model's choice, log 16, and so is the order, log 30). -/
def unitWords (s : State) : List Word :=
  [yesNo s.profile.fitted.duplex, yesNo s.profile.enabled.duplex, yesNo s.profile.fitted.fourBins,
   yesNo s.profile.enabled.fourBins, yesNo s.profile.fitted.gauge, yesNo s.profile.enabled.gauge,
   if s.lines.straps.duplex then 0 else 1, if s.lines.straps.fourBins then 0 else 1,
   if s.lines.straps.gauge then 0 else 1]

/-- The words of a group: LEGS, TRAYS, SENSORS, GATES, LIMITS, CAPACITIES or UNITS, coded 0 to 6 (R181). The TRAYS group
is answered tray by tray, each with its length, band low and band high; R181 gives no order (the model's choice, log
30). -/
def groupWords (s : State) (group : Word) : Option (List Word) :=
  if group = 0 then some (s.profile.legs.toList.map word)
  else if group = 1 then
    some (s.profile.trays.toList.flatMap fun t => [word t.length, word t.bandLow, word t.bandHigh])
  else if group = 2 then some (s.profile.polarity.toList.map Polarity.code)
  else if group = 3 then some (s.profile.offsets.toList.map word)
  else if group = 4 then some (s.profile.limits.toList.map word)
  else if group = 5 then some (s.profile.capacities.toList.map word)
  else if group = 6 then some (unitWords s)
  else none

/-- QUERY PROFILE: a group, with the present levels of the strap lines (R181; log 6). -/
def takeQueryProfile (straps : Units) (ws : List Word) (s : State) : State × Answer :=
  match ws with
  | [g] =>
    let t := { s with lines := { s.lines with straps := straps } }
    match groupWords t g with
    | none => s.refuse .badArgument
    | some values => (t, (.ok, values))
  | _ => s.refuse .badArgument

/-- GO 1Ch (R181). -/
def execQueryProfile (straps : Units) (s : State) : Result := finish s (s.command 1 (takeQueryProfile straps))

end Sys2Proof.Machine
end

