-- ==== Sys2Proof/Machine/Sequence.lean ====
section
/-! DEFINITION. The answers to side calls and the deadlines of the Transfer Sequencer (chapter 4). -/

namespace Sys2Proof.Machine

/-- The pitch that an answer names: its call number, tag and side (R74, check 2). -/
def State.calledPitch (s : State) (call : Word) (t : Tag) (side : Side) : Option Pitch :=
  s.tsq.pitches.find? fun p => p.call = call && p.tag = t && p.side = side

/-- A pitch that missed its deadline (R74, check 3). -/
def Pitch.late (p : Pitch) : Bool := p.state = .missed && p.reason == some .deadline

/-- A CALLED pitch made READY, with the claim (R74). -/
def readyPitch (s : State) (p : Pitch) : State :=
  claimSide (s.updatePitch p.tag fun q => { q with state := .ready }) p.tag p.slot p.generation p.side .ready

/-- SIDE READY: call number, tag, side (R74). -/
def takeSideReady (ws : List Word) (s : State) : State × Answer :=
  match ws with
  | [call, t, sd] =>
    match argTag t, argSide sd with
    | some tag, some side =>
      match s.calledPitch call tag side with
      | none => s.refuse .unknown
      | some p =>
        if p.late then s.refuse .late
        else if p.state ≠ .called then s.refuse .unknown
        else (readyPitch s p, (.ok, []))
    | _, _ => s.refuse .badArgument
  | _ => s.refuse .badArgument

/-- GO 0Ah (R74). -/
def execSideReady (s : State) : Result := finish s (s.command 3 takeSideReady)

/-- SIDE FAIL: call number, tag, side (R75). -/
def takeSideFail (ws : List Word) (s : State) : State × Answer :=
  match ws with
  | [call, t, sd] =>
    match argTag t, argSide sd with
    | some tag, some side =>
      match s.calledPitch call tag side with
      | none => s.refuse .unknown
      | some p =>
        match p.state with
        | .called | .ready => (missPitch s p .fail, (.ok, []))
        | .missed => if p.late then s.refuse .late else s.refuse .unknown
        | .imaging => s.refuse .state
    | _, _ => s.refuse .badArgument
  | _ => s.refuse .badArgument

/-- GO 0Bh (R75). -/
def execSideFail (s : State) : Result := finish s (s.command 3 takeSideFail)

/-- The deadline of the called pitch of a tag is reached (R73). -/
def execDeadlineExpiry (tag : Tag) (s : State) : Result := finish s (expireDeadline s tag)

end Sys2Proof.Machine
end

