-- ==== Sys2Proof/Machine/Sheets.lean ====
section
/-! DEFINITION. The queries and the condemnation of the Sheet Table Unit (chapter 2). -/

namespace Sys2Proof.Machine

/-- The words of a sheet record (R40, R21, R185); the back pitch is an optional value in every record. -/
def sheetWords : Option Sheet → List Word
  | none => [0]
  | some r =>
    [r.state.code, slotCode r.slot, word r.generation, word r.page, yesNo r.last, r.plex.code, trayCode r.tray,
     word r.length, binCode r.target]
      ++ optWords 1 (r.condemned.map fun c => [c.code])
      ++ [r.front.frontCode]
      ++ optWords 1 (r.back.map fun p => [p.backCode])
      ++ optWords 1 (r.lastSensor.map fun x => [sensorCode x])
      ++ optWords 2 (r.lastLead.map dword)
      ++ optWords 5 (r.trail.map fun w => sensorCode w.sensor :: dword w.opens ++ dword w.closes)
      ++ [word r.attempts]
      ++ optWords 5 (r.gauge.map fun g =>
          (List.range 4).map (fun i => word (g.readings.getD i 0)) ++ [g.verdict.code])
      ++ [yesNo r.divert, yesNo r.runOut]

/-- QUERY SHEET: a tag (R40). -/
def takeQuerySheet (ws : List Word) (s : State) : State × Answer :=
  match ws with
  | [t] =>
    match argTag t with
    | none => s.refuse .badArgument
    | some tag => (s, (.ok, sheetWords (s.sheet tag)))
  | _ => s.refuse .badArgument

/-- GO 06h (R40). -/
def execQuerySheet (s : State) : Result := finish s (s.command 1 takeQuerySheet)

/-- The code of the state of a record, FREE as 0 (R185). -/
def sheetStateCode (r : Option Sheet) : Nat := (r.map fun r => r.state.code.toNat).getD 0

/-- A record matches a state mask and a slot filter (R41). -/
def sheetMatches (mask : Word) (slot : Option Slot) (r : Option Sheet) : Bool :=
  mask.getLsbD (sheetStateCode r) && slot.all fun x => r.any fun r => r.slot = x

/-- The optional slot filter of FIND SHEETS: `none` where its words are refused (R41, R185). -/
def argFilter (present value : Word) : Option (Option Slot) :=
  match argBool present with
  | none => none
  | some false => some none
  | some true => (argSlot value).map some

/-- FIND SHEETS: a state mask, an optional slot (R41; log 17). -/
def takeFindSheets (ws : List Word) (s : State) : State × Answer :=
  match ws with
  | [mask, present, value] =>
    match argFilter present value with
    | none => s.refuse .badArgument
    | some slot =>
      if mask = 0 ∨ 0x7F < mask.toNat then s.refuse .badArgument
      else
        let found := tags.filter fun t => sheetMatches mask slot (s.sheet t)
        (s, (.ok, word found.length :: optWords 1 (found.head?.map fun t => [tagCode t])))
  | _ => s.refuse .badArgument

/-- GO 07h (R41). -/
def execFindSheets (s : State) : Result := finish s (s.command 3 takeFindSheets)

/-- The condemnation claim at a place among those waiting, taken by the SHT (R34; log 11). -/
def takeCondemnAt (s : State) (place : Nat) : State :=
  match s.requests.condemns[place]? with
  | none => s
  | some c => takeCondemn { s with requests := { s.requests with condemns := s.requests.condemns.eraseIdx place } } c

/-- The SHT takes a condemnation claim (R34). -/
def execCondemn (place : Nat) (s : State) : Result := finish s (takeCondemnAt s place)

end Sys2Proof.Machine
end

