-- ==== Sys2Proof/Machine/Statements.lean ====
section
/-! DEFINITION. The commands and the break of the Statement Table Unit (chapter 1). -/

namespace Sys2Proof.Machine

/-! ## OPEN STATEMENT (R3, R4) -/

/-- The bin class at OPEN STATEMENT (R4). -/
def classAtOpen (s : State) (declared : Nat) (oversize : Bool) : BinClass :=
  if oversize ∨ s.limit .oversizeThreshold < declared then .oversize else .standard

/-- The record of an accepted OPEN STATEMENT (R3). -/
def newStatement (s : State) (ident account : Ident) (plex : Plex) (declared : Nat) (oversize : Bool) : Statement where
  state := .opened
  ident := ident
  account := account
  plex := plex
  binClass := classAtOpen s declared oversize
  declared := if declared = 0 then none else some declared
  generation := 0
  nextPage := 1
  queued := 0
  admitted := 0
  delivered := 0
  inFlight := 0
  bin := none
  firstPos := none
  lastPos := none
  cause := none
  lastSeen := false

/-- The slot of the record that holds an id (R2, R18). -/
def State.slotOfIdent (s : State) (ident : Ident) : Option Slot :=
  slots.find? fun t => (s.statement t).any fun r => r.ident = ident

/-- The lowest FREE slot (R2). -/
def State.freeSlot (s : State) : Option Slot := slots.find? fun t => (s.statement t).isNone

/-- The slot taken by an accepted OPEN STATEMENT, with its opening number plus 1 (R2, R3). A break request without an
opening number that waits for the slot was raised for a statement before this one, and is dropped (R2, log 35). -/
def openSlot (s : State) (slot : Slot) (r : Statement) : State :=
  let s := s.setStatement slot (some r)
  { s with
    stu := { s.stu with openings := s.stu.openings.set slot (s.openingOf slot + 1) }
    requests := { s.requests with
      breaks := s.requests.breaks.filter fun q => !(q.slot = slot && q.opening.isNone) } }

/-- OPEN STATEMENT: id, account, plex, declared pages, oversize request (R3). -/
def takeOpen (ws : List Word) (s : State) : State × Answer :=
  match ws with
  | [id0, id1, acc0, acc1, p, d, o] =>
    match argPlex p, argIn d 0 4095, argBool o with
    | some plex, some declared, some oversize =>
      if plex = .duplex ∧ !s.profile.enabled.duplex then s.refuse .badArgument
      else if (s.slotOfIdent (ofDword id0 id1)).isSome then s.refuse .duplicate
      else
        match s.freeSlot with
        | none => s.refuse .limit
        | some slot =>
          (openSlot s slot (newStatement s (ofDword id0 id1) (ofDword acc0 acc1) plex declared oversize),
           (.ok, [slotCode slot]))
    | _, _, _ => s.refuse .badArgument
  | _ => s.refuse .badArgument

/-- GO 01h (R3). -/
def execOpenStatement (s : State) : Result := finish s (s.command 7 takeOpen)

/-! ## PAGE (R5, R6) -/

/-- The record of a slot, when it holds the id given (R2). -/
def State.named (s : State) (slot : Slot) (ident : Ident) : Option Statement :=
  (s.statement slot).filter fun r => r.ident = ident

/-- The queue a page of a generation goes to (R44). -/
def queueOf (generation : Nat) : Queue := if generation = 0 then .new else .restart

/-- The entry of a page closes its statement (R6). -/
def closesStatement (r : Statement) (page : Nat) (last : Bool) : Bool :=
  last || r.declared == some (r.queued + 1) || page = 4095

/-- An accepted PAGE (R6). -/
def acceptPage (s : State) (slot : Slot) (r : Statement) (page : Nat) (last : Bool) (tray : Tray) : State :=
  let closing := closesStatement r page last
  let q := queueOf r.generation
  let s := s.setQueue q
    (s.queue q ++ [{ slot, generation := r.generation, page, last := closing, tray, attempts := 0 }])
  s.setStatement slot (some { r with
    queued := r.queued + 1
    nextPage := page + 1
    lastSeen := r.lastSeen || closing
    state := if closing then .closed else r.state })

/-- The last flag contradicts the declared pages (R5, check 6). -/
def lastMismatch (r : Statement) (page : Nat) (last : Bool) : Bool :=
  last && r.declared.any fun d => d != page

/-- PAGE: slot, id, page index, last flag, tray (R5). -/
def takePage (ws : List Word) (s : State) : State × Answer :=
  match ws with
  | [sl, id0, id1, pg, l, tr] =>
    match argSlot sl, argIn pg 1 4095, argBool l, argTray tr with
    | some slot, some page, some last, some tray =>
      match s.named slot (ofDword id0 id1) with
      | none => s.refuse .noEntry
      | some r =>
        if r.state.ended then s.refuse .stale
        else if r.state = .closed then s.refuse .state
        else if page ≠ r.nextPage then s.refuse .order
        else if lastMismatch r page last then s.refuse .badArgument
        else if !s.queueHasRoom (queueOf r.generation) then s.refuse .queueFull
        else (acceptPage s slot r page last tray, (.ok, [slotCode slot, word (page + 1)]))
    | _, _, _, _ => s.refuse .badArgument
  | _ => s.refuse .badArgument

/-- GO 02h (R5, R6). -/
def execPage (s : State) : Result := finish s (s.command 6 takePage)

/-! ## RESTART STATEMENT and DISCARD STATEMENT (R16, R17) -/

/-- A condemnation claim for a pair. -/
def CondemnClaim.names (c : CondemnClaim) (o : Owner) : Bool := c.slot = o.slot && c.generation = o.generation

/-- A reroute request for a pair. -/
def RerouteRequest.names (q : RerouteRequest) (o : Owner) : Bool := q.slot = o.slot && q.generation = o.generation

/-- The closing request of a pair. -/
def BinRequest.closes (o : Owner) : BinRequest → Bool
  | .opening _ _ _ _ => false
  | .closing _ slot generation _ => slot = o.slot && generation = o.generation

/-- The requests of the BNM up to the last closing request of a pair: they are taken oldest first (log 12). -/
def upToClosing (o : Owner) : List BinRequest → List BinRequest
  | [] => []
  | q :: rest => if (q :: rest).any (BinRequest.closes o) then q :: upToClosing o rest else []

/-- The requests that the STU sent at the break of a generation and that still wait, taken by their owners: the
condemnations and reroutes, the flush, and the BNM's up to the closing request. They come ahead of the RESTART or DISCARD
that ends the generation: its statement has left its stacking list by then (R10, R17, R129; log 35). -/
def settleStatement (s : State) (o : Owner) : State :=
  let s := (s.requests.condemns.filter fun c => c.names o).foldl takeCondemn
    { s with requests := { s.requests with condemns := s.requests.condemns.filter fun c => !c.names o } }
  let s := (s.requests.reroutes.filter fun q => q.names o).foldl takeReroute
    { s with requests := { s.requests with reroutes := s.requests.reroutes.filter fun q => !q.names o } }
  let s := (s.requests.flushes.filter fun q => q = o).foldl takeFlush
    { s with requests := { s.requests with flushes := s.requests.flushes.filter fun q => q ≠ o } }
  let due := upToClosing o s.requests.bins
  due.foldl takeBin { s with requests := { s.requests with bins := s.requests.bins.drop due.length } }

/-- The record of an accepted RESTART STATEMENT (R16, R4). -/
def Statement.restart (r : Statement) : Statement :=
  { r with
    state := .opened
    binClass := if r.cause = some .binOverflow then .oversize else r.binClass
    generation := r.generation + 1
    nextPage := 1
    queued := 0
    admitted := 0
    delivered := 0
    bin := none
    firstPos := none
    lastPos := none
    cause := none
    lastSeen := false }

/-- RESTART STATEMENT: slot, id (R16). -/
def takeRestart (ws : List Word) (s : State) : State × Answer :=
  match ws with
  | [sl, id0, id1] =>
    match argSlot sl with
    | none => s.refuse .badArgument
    | some slot =>
      match s.named slot (ofDword id0 id1) with
      | none => s.refuse .noEntry
      | some r =>
        if r.state ≠ .broken then s.refuse .state
        else if r.inFlight ≠ 0 then s.refuse .wait
        else
          ((settleStatement s { slot, generation := r.generation }).setStatement slot (some r.restart),
           (.ok, [word (r.generation + 1)]))
  | _ => s.refuse .badArgument

/-- GO 03h (R16). -/
def execRestartStatement (s : State) : Result := finish s (s.command 3 takeRestart)

/-- DISCARD STATEMENT: slot, id (R17). -/
def takeDiscard (ws : List Word) (s : State) : State × Answer :=
  match ws with
  | [sl, id0, id1] =>
    match argSlot sl with
    | none => s.refuse .badArgument
    | some slot =>
      match s.named slot (ofDword id0 id1) with
      | none => s.refuse .noEntry
      | some r =>
        if !r.state.ended then s.refuse .state
        else if r.inFlight ≠ 0 then s.refuse .wait
        else ((settleStatement s { slot, generation := r.generation }).setStatement slot none, (.ok, []))
  | _ => s.refuse .badArgument

/-- GO 04h (R17). -/
def execDiscardStatement (s : State) : Result := finish s (s.command 3 takeDiscard)

/-! ## QUERY STATEMENT (R18) -/

/-- The words of a statement record: its slot, then the fields of R1 (R18, R185). -/
def statementWords (slot : Slot) : Option Statement → List Word
  | none => [slotCode slot, 0]
  | some r =>
    [slotCode slot, r.state.code] ++ dword r.ident ++ dword r.account ++ [r.plex.code, r.binClass.code]
      ++ optWords 1 (r.declared.map fun n => [word n])
      ++ [word r.generation, word r.nextPage, word r.queued, word r.admitted, word r.delivered, word r.inFlight]
      ++ optWords 1 (r.bin.map fun b => [binCode b])
      ++ optWords 1 (r.firstPos.map fun n => [word n])
      ++ optWords 1 (r.lastPos.map fun n => [word n])
      ++ optWords 1 (r.cause.map fun c => [c.code])
      ++ [yesNo r.lastSeen]

/-- The answer of a query for a slot (R18). -/
def answerStatement (s : State) (slot : Slot) : State × Answer := (s, (.ok, statementWords slot (s.statement slot)))

/-- QUERY STATEMENT: selector slot 0 or id 1, then two value words (R18; log 28). -/
def takeQueryStatement (ws : List Word) (s : State) : State × Answer :=
  match ws with
  | [sel, lo, hi] =>
    if sel = 0 then
      match argSlot lo with
      | some slot => if hi = 0 then answerStatement s slot else s.refuse .badArgument
      | none => s.refuse .badArgument
    else if sel = 1 then
      match s.slotOfIdent (ofDword lo hi) with
      | some slot => answerStatement s slot
      | none => s.refuse .noEntry
    else s.refuse .badArgument
  | _ => s.refuse .badArgument

/-- GO 05h (R18). -/
def execQueryStatement (s : State) : Result := finish s (s.command 3 takeQueryStatement)

/-! ## BREAK (R12 to R14) -/

/-- The break request at a place among those waiting, taken by the STU (R12; log 11). -/
def takeBreakAt (s : State) (place : Nat) : State :=
  match s.requests.breaks[place]? with
  | none => s
  | some q => takeBreak { s with requests := { s.requests with breaks := s.requests.breaks.eraseIdx place } } q

/-- The STU takes a break request (R12). -/
def execBreakStatement (place : Nat) (s : State) : Result := finish s (takeBreakAt s place)

end Sys2Proof.Machine
end

