-- ==== Sys2Proof/Machine/TransportSteps.lean ====
section
/-! DEFINITION. The commands and events of the Transport Supervisor (chapter 9). -/

namespace Sys2Proof.Machine

/-- START (R164). -/
def takeStart (_ : List Word) (s : State) : State × Answer :=
  if s.tsv.state ≠ .stopped then s.refuse .state
  else if s.lines.supplyWarning then s.refuse .wait
  else if s.tsv.encoderLost ∧ !s.tsv.pulseSince then s.refuse .state
  else (acceptStart s, (.ok, []))

/-- GO 12h (R164). -/
def execStart (s : State) : Result := finish s (s.command 0 takeStart)

/-- STOP (R166). -/
def takeStop (_ : List Word) (s : State) : State × Answer :=
  match s.tsv.state with
  | .runout | .jammed => s.refuse .state
  | .stopped | .starting | .running | .draining => (stopEvent s .stop, (.ok, []))

/-- GO 13h (R166). -/
def execStop (s : State) : Result := finish s (s.command 0 takeStop)

/-- The words of a gate in QUERY TRANSPORT: its position, its holder, the number of its pending requests (R173). -/
def gateWords (s : State) (g : Gate) : List Word :=
  [if (s.gate g).hold.isSome then 1 else 0]
    ++ optWords 1 ((s.gate g).hold.map fun h => [tagCode h.tag])
    ++ [word (s.gate g).waiting.length]

/-- The words of the jam record in QUERY TRANSPORT (R173). -/
def jamWords (j : JamRecord) : List Word :=
  optWords 1 (j.cause.map fun c => [c.code]) ++ [sensorCode j.sensor]
    ++ optWords 1 (j.tag.map fun t => [tagCode t]) ++ [j.section_.code] ++ dword j.count
    ++ [word j.runOutCount, word j.further]

/-- The words of QUERY TRANSPORT (R173); ENCODER LOST is set 0, clear 1 (R162, R185; log 16). -/
def transportWords (s : State) : List Word :=
  [s.tsv.state.code] ++ optWords 1 (s.tsv.cause.map fun c => [c.code])
    ++ [lineLevel s.tsv.mainRun, lineLevel s.tsv.outputRun]
    ++ dword s.now ++ optWords 1 (s.tsv.rate.map fun n => [word n])
    ++ [if s.tsv.encoderLost then 0 else 1, yesNo s.tsv.pulseSince, yesNo s.tsv.backup,
        lineLevel s.lines.supplyWarning]
    ++ optWords 2 (s.tsv.startCount.map dword)
    ++ [word s.live]
    ++ jamWords s.jam
    ++ Gate.all.flatMap (gateWords s)

/-- QUERY TRANSPORT (R173). -/
def takeQueryTransport (_ : List Word) (s : State) : State × Answer := (s, (.ok, transportWords s))

/-- GO 14h (R173). -/
def execQueryTransport (s : State) : Result := finish s (s.command 0 takeQueryTransport)

/-- An encoder pulse, with the real time in nanoseconds since the pulse before it (R163). -/
def execEncoderPulse (elapsed : Nat) (s : State) : Result := finish s (pulse s elapsed)

/-- The encoder silence limit expires while it is watched (R169). -/
def silence (s : State) : State :=
  if s.tsv.silenceWatch ∧ s.runs ∧ !s.tsv.backup then takeSilence s else s

/-- The encoder silence limit expires (R169). -/
def execEncoderSilence (s : State) : Result := finish s (silence s)

/-- An interval of the backup time base elapses (R170, step 4). -/
def backupTick (s : State) : State := if s.tsv.backup ∧ s.runs then advance s 1 else s

/-- An interval of the backup time base (R170). -/
def execBackupBaseTick (s : State) : Result := finish s (backupTick s)

/-- The start limit expires (R165). -/
def startLimit (s : State) : State :=
  if s.tsv.state = .starting then endStart s .startFailed .timeout else s

/-- 2 s in STARTING (R165). -/
def execStartLimitExpiry (s : State) : Result := finish s (startLimit s)

/-- The supply warning line with its SUPPLY notice (R171). -/
def setSupply (s : State) (asserted : Bool) : State :=
  ({ s with lines := { s.lines with supplyWarning := asserted } }).notify (.supply asserted s.tsv.state)

/-- The supply warning line is asserted (R171): the notice, then the end of a start or a drain. -/
def assertSupply (s : State) : State :=
  if s.lines.supplyWarning then s else stopEvent (setSupply s true) .supply

/-- The supply warning line is asserted (R171). -/
def execSupplyWarningAsserted (s : State) : Result := finish s (assertSupply s)

/-- The supply warning line clears (R171). -/
def clearSupply (s : State) : State := if s.lines.supplyWarning then setSupply s false else s

/-- The supply warning line clears (R171). -/
def execSupplyWarningCleared (s : State) : Result := finish s (clearSupply s)

/-- The end of a drain when no record is live in DRAINING (R168). -/
def drainDone (s : State) : State := if s.tsv.state = .draining ∧ s.live = 0 then completeDrain s else s

/-- No record is live in DRAINING (R168). -/
def execDrainComplete (s : State) : Result := finish s (drainDone s)

end Sys2Proof.Machine
end

