-- ==== Sys2Proof/Machine/Dispatch.lean ====
section
/-! DEFINITION. The meaning of every command, one arm per constructor. -/

namespace Sys2Proof.Machine

def exec (i : Instr) (s : State) : Host.Outcome State Fault Refusal :=
  match i with
  | .openStatement => Sys2Proof.Machine.execOpenStatement s
  | .page => Sys2Proof.Machine.execPage s
  | .restartStatement => Sys2Proof.Machine.execRestartStatement s
  | .discardStatement => Sys2Proof.Machine.execDiscardStatement s
  | .queryStatement => Sys2Proof.Machine.execQueryStatement s
  | .querySheet => Sys2Proof.Machine.execQuerySheet s
  | .findSheets => Sys2Proof.Machine.execFindSheets s
  | .trayResume => Sys2Proof.Machine.execTrayResume s
  | .queryQueue => Sys2Proof.Machine.execQueryQueue s
  | .sideReady => Sys2Proof.Machine.execSideReady s
  | .sideFail => Sys2Proof.Machine.execSideFail s
  | .calibrateZero r1 r2 r3 r4 => Sys2Proof.Machine.execCalibrateZero r1 r2 r3 r4 s
  | .readSnapshot => Sys2Proof.Machine.execReadSnapshot s
  | .binAccept => Sys2Proof.Machine.execBinAccept s
  | .binRole => Sys2Proof.Machine.execBinRole s
  | .queryBin e => Sys2Proof.Machine.execQueryBin e s
  | .clearJam => Sys2Proof.Machine.execClearJam s
  | .start => Sys2Proof.Machine.execStart s
  | .stop => Sys2Proof.Machine.execStop s
  | .queryTransport => Sys2Proof.Machine.execQueryTransport s
  | .setLeg => Sys2Proof.Machine.execSetLeg s
  | .setTray => Sys2Proof.Machine.execSetTray s
  | .setSensor => Sys2Proof.Machine.execSetSensor s
  | .setGate => Sys2Proof.Machine.execSetGate s
  | .setLimits => Sys2Proof.Machine.execSetLimits s
  | .setCapacity => Sys2Proof.Machine.execSetCapacity s
  | .setUnits => Sys2Proof.Machine.execSetUnits s
  | .queryProfile u => Sys2Proof.Machine.execQueryProfile u s
  | .clearNoticeLost => Sys2Proof.Machine.execClearNoticeLost s
  | .warmReset => Sys2Proof.Machine.execWarmReset s
  | .badCommand c => Sys2Proof.Machine.execBadCommand c s
  | .commandData w => Sys2Proof.Machine.execCommandData w s
  | .result => Sys2Proof.Machine.execResult s
  | .notice => Sys2Proof.Machine.execNotice s
  | .noticeData => Sys2Proof.Machine.execNoticeData s
  | .call => Sys2Proof.Machine.execCall s
  | .callData => Sys2Proof.Machine.execCallData s
  | .snapshotSelect w => Sys2Proof.Machine.execSnapshotSelect w s
  | .ignoredRegisterWrite o w => Sys2Proof.Machine.execIgnoredRegisterWrite o w s
  | .coldReset u => Sys2Proof.Machine.execColdReset u s
  | .sensorLineChange x => Sys2Proof.Machine.execSensorLineChange x s
  | .debounceComplete x => Sys2Proof.Machine.execDebounceComplete x s
  | .encoderPulse n => Sys2Proof.Machine.execEncoderPulse n s
  | .encoderSilence => Sys2Proof.Machine.execEncoderSilence s
  | .backupBaseTick => Sys2Proof.Machine.execBackupBaseTick s
  | .startLimitExpiry => Sys2Proof.Machine.execStartLimitExpiry s
  | .supplyWarningAsserted => Sys2Proof.Machine.execSupplyWarningAsserted s
  | .supplyWarningCleared => Sys2Proof.Machine.execSupplyWarningCleared s
  | .drainComplete => Sys2Proof.Machine.execDrainComplete s
  | .trayReadyChange t => Sys2Proof.Machine.execTrayReadyChange t s
  | .binDoorOpened b => Sys2Proof.Machine.execBinDoorOpened b s
  | .binDoorClosed b e => Sys2Proof.Machine.execBinDoorClosed b e s
  | .trayGrant => Sys2Proof.Machine.execTrayGrant s
  | .releaseGrant => Sys2Proof.Machine.execReleaseGrant s
  | .pickLaunch => Sys2Proof.Machine.execPickLaunch s
  | .pickWindowExpiry t => Sys2Proof.Machine.execPickWindowExpiry t s
  | .leadWindowExpiry x => Sys2Proof.Machine.execLeadWindowExpiry x s
  | .trailWindowExpiry t => Sys2Proof.Machine.execTrailWindowExpiry t s
  | .releaseWindowExpiry => Sys2Proof.Machine.execReleaseWindowExpiry s
  | .park => Sys2Proof.Machine.execPark s
  | .gaugeReading r l => Sys2Proof.Machine.execGaugeReading r l s
  | .deadlineExpiry t => Sys2Proof.Machine.execDeadlineExpiry t s
  | .gateThrow g => Sys2Proof.Machine.execGateThrow g s
  | .gatePassage g => Sys2Proof.Machine.execGatePassage g s
  | .gateClearance g => Sys2Proof.Machine.execGateClearance g s
  | .jam n => Sys2Proof.Machine.execJam n s
  | .runoutComplete => Sys2Proof.Machine.execRunoutComplete s
  | .breakStatement n => Sys2Proof.Machine.execBreakStatement n s
  | .condemn n => Sys2Proof.Machine.execCondemn n s
  | .reroute => Sys2Proof.Machine.execReroute s
  | .flush => Sys2Proof.Machine.execFlush s
  | .spoilRangeOpening => Sys2Proof.Machine.execSpoilRangeOpening s
  | .closingRequest => Sys2Proof.Machine.execClosingRequest s

end Sys2Proof.Machine
end

