-- ==== Sys2Proof/Safety.lean ====
section
/-! DEFINITION. What the statements about the part speak of: what a command answers, the end of every step, and the
invariants of a run. -/

namespace Sys2Proof.Machine

/-- The break requests with cause BIN_OVERFLOW that an evaluation of a queue sends: one for a head that holds on CREDIT
while its bin's reserved count is 0 (R59). -/
def overflowRequests (s : State) (q : Queue) : List BreakRequest :=
  match (s.queue q).head? with
  | none => []
  | some e => if overflows s e then
      [{ slot := e.slot, generation := e.generation, cause := .binOverflow, opening := some (s.openingOf e.slot) }] else []

/-- The hold reason of a queue after an evaluation of `u`, made where something it depends on has changed since `before`
(R55, log 33). -/
def holdAfter (before u : State) (q : Queue) : HoldReason :=
  if evaluationView before q = evaluationView u q then u.hold q else evaluate u q

/-- The break requests of such an evaluation (R59). -/
def requestsAfter (before u : State) (q : Queue) : List BreakRequest :=
  if evaluationView before q = evaluationView u q then [] else overflowRequests u q

/-- `t` is `u` after the evaluation by the ADM in a step begun in `before` (R49, R55, log 33): all of `u` stays but
the hold reasons and, where suspect claims were waiting, the conditions of their trays with the TRAY notices; break
requests with cause BIN_OVERFLOW may be sent (R59). A queue is evaluated in `u` where something its evaluation depends on
has changed since `before`, and again in `t` where a suspect claim has changed it. -/
structure Evaluated (before u t : State) : Prop where
  same : t = { u with
    adm := { u.adm with
      newHold := t.adm.newHold
      restartHold := t.adm.restartHold
      conditions := t.adm.conditions
      suspects := u.adm.suspects.drop before.adm.suspects.length }
    cpt := { u.cpt with notices := t.cpt.notices, noticeLost := t.cpt.noticeLost }
    requests := { u.requests with breaks := t.requests.breaks } }
  holds : ∀ q, t.hold q = if evaluationView u q = evaluationView t q then holdAfter before u q else evaluate t q
  breaks : t.requests.breaks = u.requests.breaks
    ++ (requestsAfter before u .new ++ requestsAfter before u .restart)
    ++ (requestsAfter u t .new ++ requestsAfter u t .restart)
  conditions : ∀ y, t.condition y =
    if u.condition y = .ok ∧ y ∈ u.adm.suspects.take before.adm.suspects.length then .suspect else u.condition y
  notices : ∃ l, t.cpt.notices = u.cpt.notices ++ l ∧ ∀ n ∈ l, ∃ y, n = .tray y .suspect
  quiet : before.adm.suspects = [] →
    t.adm.conditions = u.adm.conditions ∧ t.cpt.notices = u.cpt.notices ∧ t.cpt.noticeLost = u.cpt.noticeLost

/-- `t` is `u` after the end of a step begun in `before`: the SHT has taken the retirement claims that were waiting before
the step (R36, R152; log 41), and the ADM has made its evaluation (R55, log 33). -/
def AfterStep (before u t : State) : Prop := Evaluated before (takeRetirements before u) t

/-- The command answers a next state, which is its own effect `u` after the end of the step. -/
def Runs (c : Instr) (s u : State) : Prop := ∃ t, exec c s = .next t ∧ AfterStep s u t

/-- The port holds the argument words `ws`, and takes a write to GO (R183). -/
def PortHolds (s : State) (ws : List Word) : Prop :=
  s.cpt.busy = false ∧ s.cpt.overrun = false ∧ s.cpt.buffer = ws

/-- The command is answered with a code and values, and leaves `u` besides (R184). -/
def Answers (c : Instr) (s u : State) (code : ResultCode) (values : List Word) : Prop :=
  Runs c s (u.answer (code, values))

/-- The number of argument words of each command of the index (R183); none for what no write to GO sends. -/
def argWords : Instr → Option Nat
  | .calibrateZero .. | .readSnapshot | .clearJam | .start | .stop | .queryTransport | .clearNoticeLost
  | .warmReset => some 0
  | .querySheet | .trayResume | .queryQueue | .queryBin _ | .queryProfile _ => some 1
  | .binAccept | .binRole | .setLeg | .setSensor | .setGate | .setLimits | .setCapacity => some 2
  | .restartStatement | .discardStatement | .queryStatement | .findSheets | .sideReady | .sideFail
  | .setUnits => some 3
  | .setTray => some 4
  | .page => some 6
  | .openStatement => some 7
  | .badCommand _ | .commandData _ | .result | .notice | .noticeData | .call | .callData | .snapshotSelect _
  | .ignoredRegisterWrite .. | .coldReset _ | .sensorLineChange _ | .debounceComplete _ | .encoderPulse _
  | .encoderSilence | .backupBaseTick | .startLimitExpiry | .supplyWarningAsserted | .supplyWarningCleared
  | .drainComplete | .trayReadyChange _ | .binDoorOpened _ | .binDoorClosed .. | .trayGrant | .releaseGrant
  | .pickLaunch | .pickWindowExpiry _ | .leadWindowExpiry _ | .trailWindowExpiry _ | .releaseWindowExpiry | .park
  | .gaugeReading .. | .deadlineExpiry _ | .gateThrow _ | .gatePassage _ | .gateClearance _ | .reroute | .condemn _
  | .flush | .breakStatement _ | .spoilRangeOpening | .closingRequest | .jam _ | .runoutComplete => none

/-- The values of every block after cold reset with latched straps `u` (R19, R42, R66, R86, R112, R125, R145, R161, R174,
R180, R191). -/
structure ColdValues (u : Units) (s : State) : Prop where
  statements : ∀ slot, s.statement slot = none ∧ s.openingOf slot = 0
  sheets : ∀ t, s.sheet t = none
  queues : s.adm.newQueue = [] ∧ s.adm.restartQueue = []
  holds : s.adm.newHold = .transport ∧ s.adm.restartHold = .transport
  slot : s.adm.pick = none ∧ s.adm.previous = none ∧ s.adm.starvation = 0
  trays : ∀ t, s.condition t = .ok
  feedLines : s.adm.pickLines = Vector.replicate 3 false ∧ s.adm.releaseLine = false
  sequence : s.tsq.pitches = [] ∧ s.tsq.nextCall = 0 ∧ s.tsq.transferEnable = false ∧ s.tsq.halted = false
  lists : ∀ x, s.list x = []
  windows : s.ptk.release = none ∧ s.ptk.park = none ∧ s.ptk.burst = none ∧ s.ptk.frozen = false
  levels : ∀ x, s.covered x = s.lineCovered x ∧ s.debouncing x = none
  gauge : s.ptk.zeroOffset = 0 ∧ s.ptk.verdicts = Vector.replicate 3 0
  snapshot : s.ptk.snapshot.cause = none ∧ s.ptk.snapshot.tag = none ∧ s.ptk.snapshot.sensor = .f1 ∧
    s.ptk.snapshot.levels = Vector.replicate 14 false ∧ s.ptk.snapshot.count = 0 ∧
    s.ptk.snapshot.second = false ∧ s.ptk.snapshot.locked = false
  gates : ∀ g, s.gate g = { hold := none, waiting := [] }
  gateLines : s.gsc.lines = Vector.replicate 5 false ∧ s.gsc.frozen = false
  roles : (s.bin .b1).role = .standard ∧ (s.bin .b2).role = .standard ∧
    (s.bin .b3).role = (if u.fourBins then .standard else .off) ∧
    (s.bin .b4).role = (if u.fourBins then .oversize else .off) ∧ (s.bin .p).role = .purge
  bins : ∀ b, (s.bin b).fill = 0 ∧ (s.bin b).reserved = 0 ∧ (s.bin b).stacking = [] ∧ (s.bin b).spoil = [] ∧
    (s.bin b).jogRight = false ∧ (s.bin b).last = none
  binStates : ∀ b, (s.bin b).state =
    if (s.bin b).role = .off then .off else if s.lines.doors[b.idx] then .doorOpen else .check
  pointer : s.bnm.pointer = .b1
  jam : s.jam.cause = none ∧ s.jam.tag = none ∧ s.jam.sensor = .f1 ∧ s.jam.section_ = .main ∧ s.jam.count = 0 ∧
    s.jam.runOutCount = 0 ∧ s.jam.further = 0 ∧ s.jam.delivered = []
  transport : s.tsv.state = .stopped ∧ s.tsv.cause = none ∧ s.tsv.mainRun = false ∧ s.tsv.outputRun = false ∧
    s.tsv.startCount = none ∧ s.tsv.pathCount = 0 ∧ s.tsv.rate = none ∧ s.tsv.encoderLost = false ∧
    s.tsv.pulseSince = false ∧ s.tsv.backup = false
  units : s.profile.fitted = u ∧ s.profile.enabled = u
  settings : (∀ l, s.leg l = l.default) ∧ (∀ l, s.limit l = l.default) ∧ (∀ g, s.offset g = g.defaultOffset) ∧
    (∀ b, s.capacity b = b.defaultCapacity) ∧
    (∀ t, s.traySettings t = { length := 1118, bandLow := 180, bandHigh := 260 }) ∧
    s.profile.polarity = Vector.replicate 14 .high
  port : s.cpt.buffer = [] ∧ s.cpt.overrun = false ∧ s.cpt.busy = false ∧ s.cpt.result = [] ∧
    s.cpt.notices = [.reset .cold] ∧ s.cpt.noticeBuffer = [] ∧ s.cpt.callBuffer = [] ∧ s.cpt.noticeLost = false ∧
    s.cpt.select = 0

/-! ## Edges -/

/-- The debounce at a sensor, begun at count `c`, has run its distance while the PTK takes arrivals: of every record, or
in RUNOUT of the run-out records; the line's level is COVERED where `level` is true (R88, R89, R108). -/
structure EdgeAccepted (s : State) (x : Sensor) (c : Count) (level : Bool) : Prop where
  begun : s.debouncing x = some c
  run : reaches s.now (plus c (s.limit .debounceDistance)) = true
  taken : s.tracking = true ∨ s.tsv.state = .runout
  level : s.lineCovered x = level

/-- The lead at a sensor with captured count `c` lies in the window of the first entry that the PTK takes now, no window
of those entries has closed before it, and it is no loop overrun (R93, R108). -/
structure LeadTaken (s : State) (x : Sensor) (c : Count) (e : Expectation) (rest : List Expectation) : Prop where
  edge : EdgeAccepted s x c true
  entries : s.watched x = e :: rest
  inTime : ∀ f ∈ e :: rest, isLater c f.closes = false
  notEarly : liesBefore c e.opens = false
  loopFree : x = .dup2 → s.parkedTag = none

/-- A record whose trail at a sensor the PTK takes now: of every record, or in RUNOUT of the run-out records (R96, R108). -/
def takesTrail (s : State) (x : Sensor) (q : Sheet) : Bool := (s.tracking || q.runOut) && q.awaitsTrail x

/-- The trail at a sensor with captured count `c` lies in the window that the trail pending of record `r` names, and no
release window takes it first (R96, case 2; R108). -/
structure TrailTaken (s : State) (x : Sensor) (c : Count) (tag : Tag) (r : Sheet) (w : TrailPending) : Prop where
  edge : EdgeAccepted s x c false
  release : s.tracking = true → x = .dup2 → s.ptk.release = none
  found : s.firstTag (takesTrail s x) = some tag
  record : s.sheet tag = some r
  window : r.trail = some w
  opened : liesBefore c w.opens = false
  inTime : reaches w.closes c = true

/-- A break request of a pair with a cause waits, and names no other opening number than the slot's (R2, R12). -/
def breakWaits (s : State) (slot : Slot) (generation : Nat) (cause : BreakCause) : Bool :=
  s.requests.breaks.any fun q => q.names slot generation cause && q.opening.all fun n => n == s.openingOf slot

/-- A record after a break of a generation with a cause: an OPEN or CLOSED record of the generation becomes BROKEN, or
ABANDONED at generation 3 (R12 to R14). -/
def Statement.broken (generation : Nat) (cause : BreakCause) (r : Statement) : Statement :=
  if r.generation = generation ∧ r.state.ended = false then
    { r with state := if r.generation < 3 then .broken else .abandoned, cause := some cause } else r

/-! ## Invariants -/

/-- The levels of the run lines by transport state (R162); in RUNOUT the output run line is asserted, or withdrawn where
the jam was declared in STOPPED. -/
def RunLinesFollow (s : State) : Prop :=
  match s.tsv.state with
  | .stopped | .jammed => s.tsv.mainRun = false ∧ s.tsv.outputRun = false
  | .starting | .running | .draining => s.tsv.mainRun = true ∧ s.tsv.outputRun = true
  | .runout => s.tsv.mainRun = false

/-- The start count is present in STARTING alone (R162). -/
def StartCountFollows (s : State) : Prop := s.tsv.startCount.isSome ↔ s.tsv.state = .starting

/-- Every statement has a generation of 0 to 3; a BROKEN one has 0 to 2 and an ABANDONED one 3; the two carry a break
cause, and an OPEN or CLOSED one carries none (R1, R13, R14). -/
def GenerationsLegal (s : State) : Prop :=
  ∀ slot r, s.statement slot = some r →
    r.generation ≤ 3 ∧ (r.state = .broken → r.generation ≤ 2) ∧ (r.state = .abandoned → r.generation = 3)
      ∧ (r.state.ended ↔ r.cause.isSome)

/-- At most one sheet record is PARKED, and at most one is PICKING (R24). -/
def OneParkedOnePicking (s : State) : Prop :=
  (∀ t u r q, s.sheet t = some r → s.sheet u = some q → r.state = .parked → q.state = .parked → t = u) ∧
  (∀ t u r q, s.sheet t = some r → s.sheet u = some q → r.state = .picking → q.state = .picking → t = u)

/-- The bounds of the port (R183, R186, R189), the feed queues with their picking place (R44, R47), the expectation lists
(R90), the pending lists (R113), the stacking lists (R129), the verdict counts (R103), the further faults (R146) and the
starvation count (R52). -/
structure Bounded (s : State) : Prop where
  buffer : s.cpt.buffer.length ≤ 8
  notices : s.cpt.notices.length ≤ 32
  select : s.cpt.select ≤ 6
  queues : ∀ q, (s.queue q).length + (if s.holdsPlace q then 1 else 0) ≤ 16
  lists : ∀ x, (s.list x).length ≤ 4
  waiting : ∀ g, (s.gate g).waiting.length ≤ 2
  stacking : ∀ b, (s.bin b).stacking.length ≤ 4
  verdicts : ∀ t : Tray, s.ptk.verdicts[t.idx] ≤ 2
  further : s.jam.further ≤ 255
  starvation : s.adm.starvation ≤ 4

/-- The Transfer Sequence has room for the back pitches still to come: its pitches and the back-pending records are at most
8 together (R56, R67). -/
def SequenceFits (s : State) : Prop := s.tsq.pitches.length + (s.tagsWhere Sheet.backPending).length ≤ 8

/-- Every PARKED record is back-pending (R28, R56). -/
def ParkedAwaitBack (s : State) : Prop := ∀ t r, s.sheet t = some r → r.state = .parked → r.backPending = true

end Sys2Proof.Machine
end

