-- ==== Sys2Proof/Certificates/Slice0/Obligations.lean ====
section
/-! DEFINITION. The statements about the part. -/

open Sys2Proof Sys2Proof.Machine

/-! ## The queue of commands and the resets -/

/-- A step takes the command at the front of the queue and runs it on the state with the queue's rest; with no command
waiting the part idles (the model's choice, log 4). -/
def Obligations.StepTakesTheFrontCommand : Prop :=
  ∀ s : State, (∀ c rest, s.pending = c :: rest → step s = exec c { s with pending := rest }) ∧
    (s.pending = [] → step s = .next s)

/-- Every command answers a next state, in every state, and leaves the commands that wait behind it. -/
def Obligations.EveryCommandAnswersANextState : Prop :=
  ∀ (c : Instr) (s : State), ∃ t, exec c s = .next t ∧ t.pending = s.pending

/-- The part right after power-on, with the line levels that the model gives the board (the model's choice, log 7), and
the part after COLD RESET in every state, hold the cold reset values in every block; COLD RESET latches the straps, each
unit fitted where its strap is at HIGH (for DUPLEX FITTED the model's choice, log 39), the other input lines stay as the
board drives them, and no request waits (log 13, DEDUCED: the manual speaks of the claims at the SHT alone). -/
def Obligations.ColdResetSetsEveryBlock : Prop :=
  (ColdValues State.reset.lines.straps State.reset ∧ State.reset.pending = []) ∧
  (∀ (u : Units) (s : State), ∃ t, exec (.coldReset u) s = .next t ∧ ColdValues u t ∧
    t.lines = { s.lines with straps := u } ∧ t.requests = Requests.empty)

/-- WARM RESET clears what describes paper in motion and keeps what describes paper already stacked. Every sheet record is
FREE. The statements with sheets in flight are broken with cause RESET, whatever break request waits for them, with their
notice behind RESET(warm), and have in flight 0; every other one is kept as it is, also where a break request waits for it
(R20). The break requests go on waiting, and no other request does (log 13, DEDUCED). The feed queues keep every entry but
those that a waiting flush names and those of a statement so broken; the stacking lists lose the statements that had sheets
in flight and those that a waiting closing request names; the range that a RESET break opens lies in its bin, and no range
stays OPEN. A range that no break closes, of a statement with no sheet in flight, is set CLOSED, which is the model's
choice (R145; log 13). The reservations are 0; the sequence, the lists and the gates are empty, nothing is halted or
frozen; the transport is STOPPED with its path count; the units revert, with the roles and states of B3 and B4. -/
def Obligations.WarmResetClearsPaperInMotion : Prop :=
  ∀ s : State, PortHolds s [] →
    ∃ t, exec .warmReset s = .next t ∧
    (∀ tag, t.sheet tag = none) ∧
    (∀ slot, t.statement slot = (s.statement slot).map fun r =>
      if r.inFlight = 0 then r
      else if r.state.ended then { r with inFlight := 0 }
      else { r with
        state := if r.generation < 3 then .broken else .abandoned, cause := some .reset, inFlight := 0 }) ∧
    (∀ slot r, s.statement slot = some r → r.inFlight ≠ 0 → r.state.ended = false →
      (if r.generation < 3 then Notice.stmtBroken slot r.ident .reset r.delivered
        else .stmtAbandoned slot r.ident .reset r.delivered) ∈ t.cpt.notices) ∧
    (∀ slot, t.openingOf slot = s.openingOf slot) ∧
    (∀ q, t.queue q = (s.queue q).filter fun e =>
      decide (({ slot := e.slot, generation := e.generation } : Owner) ∉ s.requests.flushes) &&
        (s.statement e.slot).all fun r => r.generation != e.generation || r.state.ended || r.inFlight == 0) ∧
    (∀ b, (t.bin b).stacking.Sublist (s.bin b).stacking ∧
      ∀ o, o ∈ (t.bin b).stacking ↔ o ∈ (s.bin b).stacking ∧
        (∀ ident, BinRequest.closing b o.slot o.generation ident ∉ s.requests.bins) ∧
        (∀ r, s.statement o.slot = some r → r.generation = o.generation → r.bin = some b → r.inFlight = 0)) ∧
    (∀ b, ∀ g ∈ (t.bin b).spoil, g.isOpen = false) ∧
    (s.requests.bins = [] → ∀ b,
      ((∀ slot r, s.statement slot = some r → r.bin = some b → r.inFlight = 0) →
        (t.bin b).spoil = (s.bin b).spoil.map SpoilRange.closed) ∧
      (∀ slot r first last, s.statement slot = some r → r.inFlight ≠ 0 → r.state.ended = false → r.bin = some b →
        0 < r.delivered → r.firstPos = some first → r.lastPos = some last → openRange (s.bin b) r.ident = none →
        { first, last, ident := r.ident, isOpen := false } ∈ (t.bin b).spoil)) ∧
    t.requests = { Requests.empty with breaks := s.requests.breaks } ∧
    (∀ b, (t.bin b).reserved = 0 ∧ (t.bin b).fill = (s.bin b).fill ∧ (t.bin b).jogRight = (s.bin b).jogRight ∧
      (t.bin b).last = (s.bin b).last) ∧ t.bnm.pointer = s.bnm.pointer ∧
    (∀ b, (t.bin b).role =
      if (b = .b3 ∨ b = .b4) ∧ s.profile.fitted.fourBins ≠ s.profile.enabled.fourBins then
        (if s.profile.fitted.fourBins then (if b = .b3 then .standard else .oversize) else .off)
      else (s.bin b).role) ∧
    (∀ b, (b = .b3 ∨ b = .b4) → s.profile.fitted.fourBins ≠ s.profile.enabled.fourBins →
      (s.profile.fitted.fourBins = false → (t.bin b).state = .off) ∧
      (s.profile.fitted.fourBins = true → (s.bin b).role = .off →
        (t.bin b).state = if s.lines.doors[b.idx] then .doorOpen else .check)) ∧
    (∀ b, ((b ≠ .b3 ∧ b ≠ .b4) ∨ s.profile.fitted.fourBins = s.profile.enabled.fourBins) →
      ((s.bin b).state ≠ .ready → (t.bin b).state = (s.bin b).state) ∧
      ((s.bin b).state = .ready → (t.bin b).state = .ready ∨ (t.bin b).state = .fenced)) ∧
    (∀ tray, t.condition tray = s.condition tray) ∧
    t.adm.pick = none ∧ t.adm.previous = none ∧ t.adm.starvation = 0 ∧ t.adm.releaseLine = false ∧
    t.adm.pickLines = Vector.replicate 3 false ∧ t.adm.newHold = .transport ∧ t.adm.restartHold = .transport ∧
    t.adm.suspects = [] ∧
    t.tsq.pitches = [] ∧ t.tsq.nextCall = 0 ∧ t.tsq.transferEnable = false ∧ t.tsq.halted = false ∧
    (∀ x, t.list x = [] ∧ t.covered x = t.lineCovered x ∧ t.debouncing x = none) ∧ t.ptk.release = none ∧
    t.ptk.park = none ∧ t.ptk.burst = none ∧ t.ptk.frozen = false ∧ t.ptk.snapshot.cause = none ∧
    t.ptk.snapshot.locked = false ∧ t.ptk.zeroOffset = s.ptk.zeroOffset ∧ t.ptk.verdicts = s.ptk.verdicts ∧
    (∀ g, t.gate g = { hold := none, waiting := [] }) ∧ t.gsc.lines = Vector.replicate 5 false ∧
    t.gsc.frozen = false ∧
    t.jam.cause = none ∧ t.jam.runOutCount = 0 ∧ t.jam.further = 0 ∧ t.jam.delivered = [] ∧
    t.tsv.state = .stopped ∧ t.tsv.mainRun = false ∧ t.tsv.outputRun = false ∧ t.tsv.pathCount = s.tsv.pathCount ∧
    t.tsv.rate = none ∧ t.tsv.encoderLost = false ∧ t.tsv.backup = false ∧
    t.profile = { s.profile with enabled := s.profile.fitted } ∧ t.lines = s.lines ∧
    t.cpt.notices.head? = some (.reset .warm) ∧ t.cpt.noticeLost = false ∧ t.cpt.select = 0 ∧ t.cpt.noticeBuffer = [] ∧
    t.cpt.callBuffer = [] ∧ t.cpt.result = [0x0100] ∧ t.cpt.cursor = 0

/-! ## Statements -/

/-- OPEN STATEMENT makes its checks in order and fills the lowest FREE slot, whose opening number grows by 1. A break
request without an opening number that still waits for the slot was raised for a statement before it, and is dropped
(log 35, DEDUCED). -/
def Obligations.OpenStatementFillsTheLowestFreeSlot : Prop :=
  ∀ (s : State) (id0 id1 acc0 acc1 p d o : Word), PortHolds s [id0, id1, acc0, acc1, p, d, o] →
    ((1 < p.toNat ∨ 4095 < d.toNat ∨ 1 < o.toNat) → Answers .openStatement s s .badArgument []) ∧
    (p.toNat ≤ 1 → d.toNat ≤ 4095 → o.toNat ≤ 1 →
      (p = 1 → s.profile.enabled.duplex = false → Answers .openStatement s s .badArgument []) ∧
      ((p = 0 ∨ s.profile.enabled.duplex = true) →
        ((∃ slot r, s.statement slot = some r ∧ r.ident = id1 ++ id0) → Answers .openStatement s s .duplicate []) ∧
        ((∀ slot r, s.statement slot = some r → r.ident ≠ id1 ++ id0) →
          ((∀ slot, s.statement slot ≠ none) → Answers .openStatement s s .limit []) ∧
          (∀ slot, s.statement slot = none → (∀ j, j < slot → s.statement j ≠ none) →
            Answers .openStatement s
              { s with
                stu :=
                { table := s.stu.table.set slot (some
                    { state := .opened
                      ident := id1 ++ id0
                      account := acc1 ++ acc0
                      plex := if p = 0 then .simplex else .duplex
                      binClass := if o = 1 ∨ s.limit .oversizeThreshold < d.toNat then .oversize else .standard
                      declared := if d = 0 then none else some d.toNat
                      generation := 0
                      nextPage := 1
                      queued := 0
                      admitted := 0
                      delivered := 0
                      inFlight := 0
                      bin := none
                      firstPos := none
                      lastPos := none
                      cause := none
                      lastSeen := false })
                  openings := s.stu.openings.set slot (s.stu.openings[slot] + 1) }
                requests := { s.requests with
                  breaks := s.requests.breaks.filter fun q => decide ¬(q.slot = slot ∧ q.opening = none) } }
              .ok [slotCode slot]))))

/-- PAGE makes its checks in order, an argument out of its range first; an accepted PAGE appends its entry to the queue of
its generation and closes the statement on the last flag, at the declared pages and at page 4095. -/
def Obligations.PageQueuesThePageOrSaysWhyNot : Prop :=
  (∀ (s : State) (sl id0 id1 pg l tr : Word), PortHolds s [sl, id0, id1, pg, l, tr] →
    15 < sl.toNat ∨ pg = 0 ∨ 4095 < pg.toNat ∨ 1 < l.toNat ∨ 2 < tr.toNat → Answers .page s s .badArgument []) ∧
  ∀ (s : State) (slot : Slot) (id0 id1 : Word) (page : Nat) (last : Bool) (tray : Tray),
    PortHolds s [slotCode slot, id0, id1, word page, yesNo last, trayCode tray] → 1 ≤ page → page ≤ 4095 →
    ((∀ r, s.statement slot = some r → r.ident ≠ id1 ++ id0) → Answers .page s s .noEntry []) ∧
    (∀ r, s.statement slot = some r → r.ident = id1 ++ id0 →
      (r.state = .broken ∨ r.state = .abandoned → Answers .page s s .stale []) ∧
      (r.state = .closed → Answers .page s s .state []) ∧
      (r.state = .opened → page ≠ r.nextPage → Answers .page s s .order []) ∧
      (r.state = .opened → page = r.nextPage → last = true → (∃ d, r.declared = some d ∧ d ≠ page) →
        Answers .page s s .badArgument []) ∧
      (r.state = .opened → page = r.nextPage → (last = false ∨ r.declared = none ∨ r.declared = some page) →
        (s.queueHasRoom (if r.generation = 0 then .new else .restart) = false → Answers .page s s .queueFull []) ∧
        (s.queueHasRoom (if r.generation = 0 then .new else .restart) = true →
          ∃ t closing, Runs .page s t ∧
            (closing = true ↔ last = true ∨ r.declared = some (r.queued + 1) ∨ page = 4095) ∧
            t.statement slot = some { r with
              queued := r.queued + 1
              nextPage := page + 1
              lastSeen := r.lastSeen || closing
              state := if closing then .closed else .opened } ∧
            (∀ other, other ≠ slot → t.statement other = s.statement other) ∧
            t.queue (if r.generation = 0 then .new else .restart) =
              s.queue (if r.generation = 0 then .new else .restart) ++
                [{ slot, generation := r.generation, page, last := closing, tray, attempts := 0 }] ∧
            t.queue (if r.generation = 0 then .restart else .new) =
              s.queue (if r.generation = 0 then .restart else .new) ∧
            t.cpt.result = [0x0300, slotCode slot, word (page + 1)] ∧
            t.sheets = s.sheets ∧ t.bnm = s.bnm ∧ t.tsv = s.tsv ∧ t.adm.pick = s.adm.pick)))

/-- RESTART STATEMENT, with its four checks in order and the record of the next generation (R16); DISCARD STATEMENT, with
its four checks in order and the record FREE (R17). Before either, the requests that the break of the generation sent and
that still wait are taken by their owners (log 35, DEDUCED): no claim or request of the pair waits after it, its pages
have left the queues that it had asked to flush, and it has left the stacking list that its closing request names
(R129). -/
def Obligations.RestartAndDiscardEndABrokenGeneration : Prop :=
  (∀ (s : State) (sl id0 id1 : Word), PortHolds s [sl, id0, id1] →
    (15 < sl.toNat → Answers .restartStatement s s .badArgument [] ∧ Answers .discardStatement s s .badArgument []) ∧
    (∀ slot : Slot, slot.val = sl.toNat →
      ((∀ r, s.statement slot = some r → r.ident ≠ id1 ++ id0) →
        Answers .restartStatement s s .noEntry [] ∧ Answers .discardStatement s s .noEntry []) ∧
      (∀ r, s.statement slot = some r → r.ident = id1 ++ id0 →
        (r.state ≠ .broken → Answers .restartStatement s s .state []) ∧
        (r.state = .broken → r.inFlight ≠ 0 → Answers .restartStatement s s .wait []) ∧
        (r.state = .broken → r.inFlight = 0 →
          Answers .restartStatement s
            ((settleStatement s { slot, generation := r.generation }).setStatement slot (some { r with
              generation := r.generation + 1
              binClass := if r.cause = some .binOverflow then .oversize else r.binClass
              queued := 0
              admitted := 0
              delivered := 0
              bin := none
              firstPos := none
              lastPos := none
              cause := none
              lastSeen := false
              nextPage := 1
              state := .opened }))
            .ok [word (r.generation + 1)]) ∧
        (r.state ≠ .broken → r.state ≠ .abandoned → Answers .discardStatement s s .state []) ∧
        (r.state = .broken ∨ r.state = .abandoned → r.inFlight ≠ 0 → Answers .discardStatement s s .wait []) ∧
        (r.state = .broken ∨ r.state = .abandoned → r.inFlight = 0 →
          Answers .discardStatement s
            ((settleStatement s { slot, generation := r.generation }).setStatement slot none) .ok [])))) ∧
  (∀ (s t : State) (o : Owner), t = settleStatement s o →
    ((∀ c ∈ s.requests.condemns, c.names o = false) → (∀ q ∈ s.requests.reroutes, q.names o = false) →
      o ∉ s.requests.flushes → (∀ b ident, BinRequest.closing b o.slot o.generation ident ∉ s.requests.bins) → t = s) ∧
    (∀ c ∈ t.requests.condemns, c.names o = false) ∧ (∀ q ∈ t.requests.reroutes, q.names o = false) ∧
    o ∉ t.requests.flushes ∧ (∀ b ident, BinRequest.closing b o.slot o.generation ident ∉ t.requests.bins) ∧
    (∀ b ident, BinRequest.closing b o.slot o.generation ident ∈ s.requests.bins → o ∉ (t.bin b).stacking ∧
      ((∀ c i, BinRequest.closing c o.slot o.generation i ∈ s.requests.bins → c = b ∧ i = ident) →
        ∀ g ∈ (t.bin b).spoil, g.isOpen = true → g.ident ≠ ident)) ∧
    (∀ q, t.queue q = if o ∈ s.requests.flushes then
      (s.queue q).filter fun e => decide ¬(e.slot = o.slot ∧ e.generation = o.generation) else s.queue q) ∧
    (∀ tag r, s.sheet tag = some r → ¬(r.slot = o.slot ∧ r.generation = o.generation) →
      t.sheet tag = some r) ∧
    t.stu = s.stu ∧ t.tsq = s.tsq ∧ t.jam = s.jam ∧ t.tsv = s.tsv ∧ t.profile = s.profile ∧ t.lines = s.lines ∧
    t.requests.breaks = s.requests.breaks)

/-! ## Hold reasons -/

/-- The hold reason that an evaluation of a queue gives, the first that applies (R55 to R57); the bin that a statement holds
or that the claim would give it (R58); the BIN_OVERFLOW request of a head that holds on CREDIT while its bin's reserved
count is 0 (R59). A change of a tray-ready line evaluates both queues, after the retirement claims that waited (log 41): it writes their
hold reasons and sends those requests. A head of no present statement holds on BIN, which is the model's choice (log 15). -/
def Obligations.EvaluationsGiveTheHoldReason : Prop :=
  (∀ (s : State) (q : Queue),
    (s.tsv.state ≠ .running → evaluate s q = .transport) ∧
    (s.tsv.state = .running → (∃ tag r, s.sheet tag = some r ∧ r.state = .picking) → evaluate s q = .pickBusy) ∧
    (s.tsv.state = .running → (∀ tag r, s.sheet tag = some r → r.state ≠ .picking) →
      ((∀ tag, s.sheet tag ≠ none) → evaluate s q = .tag) ∧
      ((∃ tag, s.sheet tag = none) →
        (s.queue q = [] → evaluate s q =
          if loopGuarded s then .loopGuard
          else if s.capacity .p - (s.bin .p).fill ≤ (tags.filter fun tag => (s.sheet tag).isSome).length then .purge
          else .empty) ∧
        (∀ e rest, s.queue q = e :: rest →
          (s.condition e.tray ≠ .ok ∨ s.lines.trayReady[e.tray.idx] = false → evaluate s q = .tray) ∧
          (s.condition e.tray = .ok → s.lines.trayReady[e.tray.idx] = true →
            ((∀ st, s.statement e.slot = some st → st.generation ≠ e.generation) →
              evaluate s q = if loopGuarded s then .loopGuard else .bin) ∧
            (∀ st, s.statement e.slot = some st → st.generation = e.generation →
              evaluate s q =
                if 8 < s.tsq.pitches.length +
                    (tags.filter fun tag => (s.sheet tag).any fun r =>
                      r.plex = .duplex ∧ r.back = some .none_).length + (if st.plex = .duplex then 2 else 1)
                then .sequence
                else if st.plex = .duplex ∧ 3 ≤ (tags.filter fun tag => (s.sheet tag).any fun r =>
                  r.plex = .duplex ∧ r.back ≠ some .done).length then .depth
                else if loopGuarded s then .loopGuard
                else match binFor s st with
                  | none => .bin
                  | some b =>
                    if s.capacity b ≤ (s.bin b).fill + (s.bin b).reserved then .credit
                    else if st.plex = .simplex ∧ (tags.any fun tag => (s.sheet tag).any fun r =>
                      r.plex = .duplex ∧ r.back ≠ some .done ∧ r.target = b) then .order
                    else if s.capacity .p - (s.bin .p).fill ≤
                      (tags.filter fun tag => (s.sheet tag).isSome).length then .purge
                    else .none_)))))) ∧
  (∀ s : State, loopGuarded s = true ↔ ∃ tag r, s.sheet tag = some r ∧ (r.state = .parked ∨ (r.state = .loop ∧
    (r.lastSensor = some .dup2 ∨ ∃ c, r.lastLead = some c ∧
      isLater (plus c (s.leg .dup1Dup2)) (plus s.now (s.limit .loopGuard)) = false)))) ∧
  (∀ (s : State) (st : Statement),
    (∀ b, st.bin = some b → binFor s st = some b) ∧
    (st.bin = none → st.binClass = .oversize →
      binFor s st = [Bin.b1, .b2, .b3, .b4].find? (claimable s .oversize)) ∧
    (st.bin = none → st.binClass = .standard →
      binFor s st = (match s.bnm.pointer with
        | .b2 => [Bin.b2, .b3, .b4, .b1]
        | .b3 => [Bin.b3, .b4, .b1, .b2]
        | .b4 => [Bin.b4, .b1, .b2, .b3]
        | .b1 | .p => [Bin.b1, .b2, .b3, .b4]).find? fun b =>
          claimable s .standard b && decide
            (st.declared.getD (s.limit .unknownLengthReserve) + (s.bin b).fill + (s.bin b).reserved ≤ s.capacity b ∨
              st.declared.getD (s.limit .unknownLengthReserve) = 0))) ∧
  (∀ (s : State) (role : BinRole) (b : Bin), claimable s role b = true ↔
    (s.bin b).role = role ∧ (s.bin b).state = .ready ∧ (s.bin b).stacking.length < 4 ∧
      ∀ o ∈ (s.bin b).stacking, ∀ r, s.statement o.slot = some r → r.generation = o.generation →
        r.state ≠ .opened ∧ (r.state = .closed → r.queued ≤ r.admitted)) ∧
  (∀ (s : State) (q : Queue), overflowRequests s q = match s.queue q with
    | [] => []
    | e :: _ =>
      if evaluate s q = .credit ∧ (s.statement e.slot).any (fun st => st.generation = e.generation ∧
          (binFor s st).any fun b => (s.bin b).reserved = 0) then
        [{ slot := e.slot
           generation := e.generation
           cause := .binOverflow
           opening := some (s.openingOf e.slot) }]
      else []) ∧
  (∀ (s u : State) (tray : Tray), s.adm.suspects = [] →
    u = takeRetirements s { s with lines := { s.lines with
      trayReady := s.lines.trayReady.set tray.idx (!s.lines.trayReady[tray.idx]) } } →
    ∃ t, exec (.trayReadyChange tray) s = .next t ∧ t.adm.newHold = evaluate u .new ∧
      t.adm.restartHold = evaluate u .restart ∧
      t.requests.breaks = s.requests.breaks ++ (overflowRequests u .new ++ overflowRequests u .restart))

/-! ## Queries and breaks -/

/-- The queries answer with the values of the record they name and change nothing besides: QUERY STATEMENT by slot and by
id, QUERY SHEET, FIND SHEETS, QUERY QUEUE, QUERY BIN, QUERY TRANSPORT, QUERY PROFILE. A slot, tag, mask, filter, queue, bin
or group outside its list is refused BAD_ARGUMENT, an id that no statement holds NO_ENTRY. The words of each value stand
as R185 codes them; where the manual lists no order or coding of values, theirs are the model's (logs 16, 17, 28 and
30). -/
def Obligations.QueriesAnswerAndChangeNothing : Prop :=
  (∀ (s : State) (slot : Slot), PortHolds s [0, slotCode slot, 0] →
    Answers .queryStatement s s .ok (statementWords slot (s.statement slot))) ∧
  (∀ (s : State) (sel lo hi : Word), PortHolds s [sel, lo, hi] →
    1 < sel.toNat ∨ (sel = 0 ∧ (15 < lo.toNat ∨ hi ≠ 0)) → Answers .queryStatement s s .badArgument []) ∧
  (∀ (s : State) (id0 id1 : Word) (slot : Slot) (r : Statement), PortHolds s [1, id0, id1] →
    s.statement slot = some r → r.ident = id1 ++ id0 →
    (∀ j q, j < slot → s.statement j = some q → q.ident ≠ id1 ++ id0) →
    Answers .queryStatement s s .ok (statementWords slot (some r))) ∧
  (∀ (s : State) (id0 id1 : Word), PortHolds s [1, id0, id1] →
    (∀ slot r, s.statement slot = some r → r.ident ≠ id1 ++ id0) → Answers .queryStatement s s .noEntry []) ∧
  (∀ (s : State) (tag : Tag), PortHolds s [tagCode tag] →
    Answers .querySheet s s .ok (sheetWords (s.sheet tag))) ∧
  (∀ (s : State) (w : Word), PortHolds s [w] → 47 < w.toNat → Answers .querySheet s s .badArgument []) ∧
  (∀ (s : State) (mask : Word), PortHolds s [mask, 0, 0] → 1 ≤ mask.toNat → mask.toNat ≤ 0x7F →
    Answers .findSheets s s .ok
      (word (tags.filter fun t => sheetMatches mask none (s.sheet t)).length ::
        optWords 1 ((tags.find? fun t => sheetMatches mask none (s.sheet t)).map fun t => [tagCode t]))) ∧
  (∀ (s : State) (mask : Word) (slot : Slot), PortHolds s [mask, 1, slotCode slot] → 1 ≤ mask.toNat →
    mask.toNat ≤ 0x7F →
    Answers .findSheets s s .ok
      (word (tags.filter fun t => sheetMatches mask (some slot) (s.sheet t)).length ::
        optWords 1 ((tags.find? fun t => sheetMatches mask (some slot) (s.sheet t)).map fun t => [tagCode t]))) ∧
  (∀ (s : State) (mask present value : Word), PortHolds s [mask, present, value] →
    mask = 0 ∨ 0x7F < mask.toNat ∨ 1 < present.toNat ∨ (present = 1 ∧ 15 < value.toNat) →
    Answers .findSheets s s .badArgument []) ∧
  (∀ s : State, PortHolds s [0] → Answers .queryQueue s s .ok (queueWords s .new)) ∧
  (∀ s : State, PortHolds s [1] → Answers .queryQueue s s .ok (queueWords s .restart)) ∧
  (∀ (s : State) (w : Word), PortHolds s [w] → 1 < w.toNat → Answers .queryQueue s s .badArgument []) ∧
  (∀ (s : State) (b : Bin), PortHolds s [binCode b] →
    Answers (.queryBin s.lines.empties[b.idx]) s s .ok (binWords s b)) ∧
  (∀ (s : State) (w : Word) (emptyActive : Bool), PortHolds s [w] → 4 < w.toNat →
    Answers (.queryBin emptyActive) s s .badArgument []) ∧
  (∀ s : State, PortHolds s [] → Answers .queryTransport s s .ok (transportWords s)) ∧
  (∀ (s : State) (g : Word) (ws : List Word), PortHolds s [g] → groupWords s g = some ws →
    Answers (.queryProfile s.lines.straps) s s .ok ws) ∧
  (∀ (s : State) (g : Word), groupWords s g = none ↔ 6 < g.toNat) ∧
  (∀ (s : State) (g : Word) (straps : Units), PortHolds s [g] → 6 < g.toNat →
    Answers (.queryProfile straps) s s .badArgument [])

/-- A break request taken by an OPEN or CLOSED record makes it BROKEN, or ABANDONED at generation 3, sets its cause and
keeps its other fields; it sends the condemnation, the reroute, the flush, the opening request when pages were delivered,
and the notice. A request dropped by R2, or taken by a BROKEN or ABANDONED record, changes nothing. -/
def Obligations.BreakEndsTheGenerationOnce : Prop :=
  ∀ (s : State) (place : Nat) (q : BreakRequest), s.requests.breaks[place]? = some q →
    ((s.statement q.slot = none ∨
        (∃ r, s.statement q.slot = some r ∧ (r.generation ≠ q.generation ∨ r.state = .broken ∨ r.state = .abandoned)) ∨
        (∃ n, q.opening = some n ∧ n ≠ s.openingOf q.slot)) →
      Runs (.breakStatement place) s
        { s with requests := { s.requests with breaks := s.requests.breaks.eraseIdx place } }) ∧
    (∀ r, s.statement q.slot = some r → r.generation = q.generation → (r.state = .opened ∨ r.state = .closed) →
      (q.opening = none ∨ q.opening = some (s.openingOf q.slot)) →
      ∃ t, Runs (.breakStatement place) s t ∧
        t.statement q.slot = some { r with
          state := if r.generation < 3 then .broken else .abandoned, cause := some q.cause } ∧
        (∀ other, other ≠ q.slot → t.statement other = s.statement other) ∧
        t.requests.condemns = s.requests.condemns ++
          [{ tag := none, slot := q.slot, generation := r.generation, cause := .broken }] ∧
        t.requests.reroutes = s.requests.reroutes ++
          [{ tag := none, slot := q.slot, generation := r.generation }] ∧
        t.requests.flushes = s.requests.flushes ++ [{ slot := q.slot, generation := r.generation }] ∧
        (∀ b first last, r.bin = some b → r.firstPos = some first → r.lastPos = some last → 0 < r.delivered →
          0 < r.inFlight → t.requests.bins = s.requests.bins ++ [.opening b r.ident first last]) ∧
        (∀ b first last, r.bin = some b → r.firstPos = some first → r.lastPos = some last → 0 < r.delivered →
          r.inFlight = 0 → t.requests.bins = s.requests.bins ++
            [.opening b r.ident first last, .closing b q.slot r.generation r.ident]) ∧
        (∀ b, r.bin = some b → r.delivered = 0 → r.inFlight = 0 →
          t.requests.bins = s.requests.bins ++ [.closing b q.slot r.generation r.ident]) ∧
        (r.bin = none → t.requests.bins = s.requests.bins) ∧
        (s.cpt.notices.length < 32 → t.cpt.notices = s.cpt.notices ++
          [if r.generation < 3 then .stmtBroken q.slot r.ident q.cause r.delivered
            else .stmtAbandoned q.slot r.ident q.cause r.delivered]) ∧
        t.sheets = s.sheets ∧ t.bnm = s.bnm ∧ t.tsv = s.tsv ∧ t.gsc = s.gsc ∧ t.ptk = s.ptk ∧ t.tsq = s.tsq ∧
        t.jam = s.jam ∧ t.profile = s.profile)

/-! ## Sheets -/

/-- A condemnation claim sets the condemned field of the record of its tag, or of every live record of its pair, where it
is absent; it changes no other field. -/
def Obligations.CondemnKeepsTheFirstCause : Prop :=
  ∀ (s : State) (place : Nat) (q : CondemnClaim), s.requests.condemns[place]? = some q →
    ∃ t, Runs (.condemn place) s t ∧
      (∀ tag, t.sheet tag = (s.sheet tag).map fun r =>
        if r.slot = q.slot ∧ r.generation = q.generation ∧ (q.tag = none ∨ q.tag = some tag) ∧ r.condemned = none
        then { r with condemned := some q.cause } else r) ∧
      t.requests.condemns = s.requests.condemns.eraseIdx place ∧
      t.stu = s.stu ∧ t.bnm = s.bnm ∧ t.tsv = s.tsv ∧ t.gsc = s.gsc ∧ t.ptk = s.ptk ∧ t.tsq = s.tsq ∧
      t.jam = s.jam ∧ t.profile = s.profile ∧ t.lines = s.lines

/-! ## Admission -/

/-- TRAY RESUME sets the tray's condition to OK and its verdict count to 0 in every transport state, and the heads that
name a tray already OK are evaluated; a tray other than T1 to T3 is refused BAD_ARGUMENT. A change of a tray-ready line
changes the line. -/
def Obligations.TrayResumeAndTrayReady : Prop :=
  (∀ (s : State) (w : Word), PortHolds s [w] → 2 < w.toNat → Answers .trayResume s s .badArgument []) ∧
  (∀ (s : State) (tray : Tray), PortHolds s [trayCode tray] →
    (s.condition tray ≠ .ok → Answers .trayResume s ((s.setCondition tray .ok).setVerdicts tray 0) .ok []) ∧
    (s.condition tray = .ok → Answers .trayResume s
      (evaluateNaming (evaluateNaming ((s.setCondition tray .ok).setVerdicts tray 0) tray .new) tray .restart) .ok [])) ∧
  (∀ (s : State) (tray : Tray), Runs (.trayReadyChange tray) s
    { s with lines := { s.lines with
        trayReady := s.lines.trayReady.set tray.idx (!s.lines.trayReady[tray.idx]) } })

/-- A tray grant, in RUNNING with the slot free, no release due and an eligible head chosen by R51: the entry leaves its
queue, the sheet record is created at the lowest free tag, the reservation is made, the admission is reported, the front
pitch is appended, the pick is scheduled for the launch count, and the previous-grant record and the starvation count are
replaced. A first admission claims the bin: the statement joins its stacking list, the bin is FENCED at a fence count of
4 with ranges listed, and a STANDARD claim moves the current standard bin pointer. The admission of a BROKEN or ABANDONED
statement condemns and reroutes the sheet. An append to a DOOR OPEN bin breaks the statement at once. BIN_DOOR_OPENED may
fall within the grant decision, between the claim and the append (log 44, the model's choice): the grant is made, the door
breaks the statements listed before, and the appended statement is listed and broken behind them. The launch count is
the later of the count of the grant and the next slot count less the pick distance and the leg to REG; the next slot count
is the previous grant's predicted REG arrival plus its length and the minimum gap, and the route-change gap where target
bin or plex differ, with no lower bound before the first grant (R53, R54). -/
def Obligations.TrayGrantAdmitsTheHead : Prop :=
  (∀ (s u : State) (c : Instr) (meets : Bool) (q : Queue) (e : Entry) (rest : List Entry) (st : Statement) (b : Bin)
    (tag : Tag),
    ((c = .trayGrant ∧ meets = false) ∨
      (c = .binDoorOpened ⟨b, true⟩ ∧ meets = true ∧ st.bin = none ∧ s.lines.doors[b.idx] = false)) →
    s.tsv.state = .running → s.slotFree = true → releaseClaimant s = none →
    ((q = .restart ∧ evaluate s .restart = .none_ ∧ ¬(evaluate s .new = .none_ ∧ s.adm.starvation = 4)) ∨
      (q = .new ∧ evaluate s .new = .none_ ∧ (s.adm.starvation = 4 ∨ evaluate s .restart ≠ .none_))) →
    s.queue q = e :: rest → s.statement e.slot = some st → st.generation = e.generation →
    binFor s st = some b → s.sheet tag = none → (∀ u, u < tag → s.sheet u ≠ none) →
    u = s.setBin b { s.bin b with
      stacking := (s.bin b).stacking ++ [{ slot := e.slot, generation := e.generation }] } →
    ∃ t, Runs c s t ∧
      t.sheet tag = some
        { state := .picking
          slot := e.slot
          generation := e.generation
          page := e.page
          last := e.last
          plex := st.plex
          tray := e.tray
          length := (s.traySettings e.tray).length
          target := b
          condemned := none
          front := .called
          back := if st.plex = .duplex then some .none_ else none
          lastSensor := none
          lastLead := none
          trail := none
          attempts := e.attempts
          gauge := none
          divert := false
          runOut := false } ∧
      (∀ u, u ≠ tag → t.sheet u = s.sheet u) ∧
      t.queue q = rest ∧ (∀ p, p ≠ q → t.queue p = s.queue p) ∧
      t.statement e.slot = some { st with
        admitted := st.admitted + 1, inFlight := st.inFlight + 1, bin := some b } ∧
      (∀ other, other ≠ e.slot → t.statement other = s.statement other) ∧
      (st.bin = some b → t.bin b = { s.bin b with reserved := (s.bin b).reserved + 1 } ∧
        t.bnm.pointer = s.bnm.pointer) ∧
      (st.bin = none → t.bin b = { s.bin b with
          reserved := (s.bin b).reserved + 1
          stacking := (s.bin b).stacking ++ [{ slot := e.slot, generation := e.generation }]
          state := if meets then .doorOpen
            else if (s.bin b).spoil ≠ [] ∧ 4 ≤ fenceCount u b then .fenced else .ready } ∧
        (s.bin b).state = .ready ∧
        t.bnm.pointer = if st.binClass = .standard then b else s.bnm.pointer) ∧
      (∀ c, c ≠ b → t.bin c = s.bin c) ∧
      t.tsq.pitches = s.tsq.pitches ++
        [{ call := s.tsq.nextCall
           tag := tag
           slot := e.slot
           generation := e.generation
           page := e.page
           side := .front
           state := .called
           deadline := minus (predictedReg s e.tray (launchCount s e.tray b st.plex)) s.margin
           reason := none
           registered := false
           read := false }] ∧
      t.tsq.nextCall = s.tsq.nextCall + 1 ∧
      t.adm.pick = some
        { entry := e, source := q, tag := tag, launch := launchCount s e.tray b st.plex, issued := false } ∧
      t.adm.previous = some
        { tag := tag
          predicted := predictedReg s e.tray (launchCount s e.tray b st.plex)
          length := (s.traySettings e.tray).length
          target := b
          plex := st.plex } ∧
      t.adm.starvation =
        (if q = .restart ∧ evaluate s .new = .none_ then s.adm.starvation + 1 else 0) ∧
      (st.state = .opened ∨ st.state = .closed →
        t.requests.condemns = s.requests.condemns ∧ t.requests.reroutes = s.requests.reroutes) ∧
      (st.state = .broken ∨ st.state = .abandoned →
        t.requests.condemns = s.requests.condemns ++
          [{ tag := some tag, slot := e.slot, generation := e.generation, cause := .broken }] ∧
        t.requests.reroutes = s.requests.reroutes ++
          [{ tag := some tag, slot := e.slot, generation := e.generation }]) ∧
      t.lines = (if meets then { s.lines with doors := s.lines.doors.set b.idx true } else s.lines) ∧
      t.requests.breaks = s.requests.breaks ++ overflowRequests s .new ++ overflowRequests s .restart ++
        (if meets then
          ((s.bin b).stacking ++ [({ slot := e.slot, generation := e.generation } : Owner)]).map (fun (o : Owner) =>
            ({ slot := o.slot, generation := o.generation, cause := .binOpened
               opening := some (s.openingOf o.slot) } : BreakRequest))
        else []) ∧
      (meets = true → s.cpt.notices.length < 32 →
        t.cpt.notices = s.cpt.notices ++ [.bin b .doorOpen (s.bin b).fill]) ∧
      t.tsv = s.tsv ∧ t.ptk = s.ptk ∧ t.gsc = s.gsc ∧ t.jam = s.jam ∧ t.profile = s.profile) ∧
  (∀ (s : State) (tray : Tray) (b : Bin) (plex : Plex),
    (s.adm.previous = none → nextSlotCount s b plex = none ∧ launchCount s tray b plex = s.tsv.pathCount) ∧
    (∀ g next launch, s.adm.previous = some g →
      next = g.predicted + BitVec.ofNat 32 g.length + BitVec.ofNat 32 (s.limit .minimumGap) +
        (if g.target ≠ b ∨ g.plex ≠ plex then BitVec.ofNat 32 (s.limit .routeChangeGap) else 0) →
      launch = next - BitVec.ofNat 32 (s.limit .pickDistance) -
        BitVec.ofNat 32 (s.leg (match tray with | .t1 => .f1Reg | .t2 => .f2Reg | .t3 => .f3Reg)) →
      nextSlotCount s b plex = some next ∧
      launchCount s tray b plex = if isLater launch s.tsv.pathCount then launch else s.tsv.pathCount) ∧
    (∀ launch, predictedReg s tray launch = launch + BitVec.ofNat 32 (s.limit .pickDistance) +
      BitVec.ofNat 32 (s.leg (match tray with | .t1 => .f1Reg | .t2 => .f2Reg | .t3 => .f3Reg))) ∧
    (∀ a b : Count, isLater a b = true ↔ 0 < (a - b).toNat ∧ (a - b).toNat < 2 ^ 31)) ∧
  (∀ (s : State) (b : Bin) (slot : Slot) (generation : Nat), (s.bin b).state = .doorOpen →
    appendStacked s b slot generation =
      (s.setBin b { s.bin b with stacking := (s.bin b).stacking ++ [{ slot, generation }] }).askBreak slot generation
        .binOpened (some (s.openingOf slot)))

/-- A release grant, in RUNNING or DRAINING with the slot free and the release count of the PARKED record reached: the
release line is asserted, the record moves to MAIN with its back pitch CALLED, the back pitch is appended, the PTK awaits
the REG lead and the uncovering of DUP2, and the previous-grant record is replaced. The release count is the next slot
count of R53 for the sheet's target bin and DUPLEX, less the release to REG leg, with no lower bound before the first grant
(R62). -/
def Obligations.ReleaseGrantReleasesTheParkedSheet : Prop :=
  (∀ (s : State) (r : Sheet),
    (s.adm.previous = none → releaseDue s r = true) ∧
    (∀ g release, s.adm.previous = some g →
      release = g.predicted + BitVec.ofNat 32 g.length + BitVec.ofNat 32 (s.limit .minimumGap) +
        (if g.target ≠ r.target ∨ g.plex ≠ .duplex then BitVec.ofNat 32 (s.limit .routeChangeGap) else 0) -
        BitVec.ofNat 32 (s.leg .releaseReg) →
      releaseDue s r = reaches s.tsv.pathCount release) ∧
    (∀ a b : Count, reaches a b = true ↔ (a - b).toNat < 2 ^ 31)) ∧
  ∀ (s : State) (tag : Tag) (r : Sheet),
    (s.tsv.state = .running ∨ s.tsv.state = .draining) → s.slotFree = true → s.parkedTag = some tag →
    s.sheet tag = some r → releaseDue s r = true → (s.list .reg).length < 4 →
    ∃ t, Runs .releaseGrant s t ∧ t.adm.releaseLine = true ∧
      t.sheet tag = some { r with state := .main, back := some .called, lastLead := some s.now } ∧
      (∀ u, u ≠ tag → t.sheet u = s.sheet u) ∧
      t.tsq.pitches = s.tsq.pitches ++
        [{ call := s.tsq.nextCall
           tag := tag
           slot := r.slot
           generation := r.generation
           page := r.page
           side := .back
           state := .called
           deadline := minus (plus s.now (s.leg .releaseReg)) s.margin
           reason := none
           registered := false
           read := false }] ∧
      t.tsq.nextCall = s.tsq.nextCall + 1 ∧
      t.list .reg = insertByOpen
        { tag := tag
          owner := r.owner
          opens := minus (plus s.now (s.leg .releaseReg)) (s.widened (s.limit .leadTolerance))
          closes := plus (plus s.now (s.leg .releaseReg)) (s.widened (s.limit .leadTolerance))
          widened := s.tsv.backup } (s.list .reg) ∧
      (∀ x, x ≠ .reg → t.list x = s.list x) ∧
      t.ptk.release = some
        { tag := tag
          opens := minus (minus (plus s.now r.length) (s.leg .park)) (s.widened (s.limit .trailTolerance))
          closes := plus (minus (plus s.now r.length) (s.leg .park)) (s.widened (s.limit .trailTolerance))
          widened := s.tsv.backup
          expired := false } ∧
      t.adm.previous = some
        { tag := tag
          predicted := plus s.now (s.leg .releaseReg)
          length := r.length
          target := r.target
          plex := .duplex } ∧
      t.adm.starvation = s.adm.starvation ∧ t.adm.newQueue = s.adm.newQueue ∧
      t.adm.restartQueue = s.adm.restartQueue ∧ t.stu = s.stu ∧ t.bnm = s.bnm ∧ t.tsv = s.tsv ∧ t.gsc = s.gsc ∧
      t.jam = s.jam ∧ t.profile = s.profile

/-- At the launch count of a pending pick, in RUNNING or DRAINING, the pick line is asserted, the slot becomes free and
the pick window is opened at the tray exit. -/
def Obligations.PickLaunchOpensThePickWindow : Prop :=
  ∀ (s : State) (p : Pick), s.adm.pick = some p → p.issued = false →
    (s.tsv.state = .running ∨ s.tsv.state = .draining) → reaches s.now p.launch = true →
    (s.list (exitOf p.entry.tray)).length < 4 →
    Runs .pickLaunch s
      (({ s with adm := { s.adm with
            pick := some { p with issued := true }
            pickLines := s.adm.pickLines.set p.entry.tray.idx true } }).setList (exitOf p.entry.tray)
        (insertByOpen
          { tag := p.tag
            owner := { slot := p.entry.slot, generation := p.entry.generation }
            opens := minus (plus p.launch (s.limit .pickDistance)) (s.widened (s.limit .pickTolerance))
            closes := plus (plus p.launch (s.limit .pickDistance)) (s.widened (s.limit .pickTolerance))
            widened := s.tsv.backup } (s.list (exitOf p.entry.tray))))

/-- A flush removes every entry of its slot and generation from both queues; the remaining entries keep their order. -/
def Obligations.FlushRemovesThePair : Prop :=
  ∀ (s : State) (o : Owner) (rest : List Owner), s.requests.flushes = o :: rest →
    Runs .flush s { s with
      adm := { s.adm with
        newQueue := s.adm.newQueue.filter fun e => decide ¬(e.slot = o.slot ∧ e.generation = o.generation)
        restartQueue := s.adm.restartQueue.filter fun e => decide ¬(e.slot = o.slot ∧ e.generation = o.generation) }
      requests := { s.requests with flushes := rest } }

/-- The pick window closes with no lead, for a record still PICKING: the sheet is withdrawn, its reservation and its counts
are undone. Of an OPEN or CLOSED statement the page goes back to the head of its queue with one more pick attempt, or with
none and its tray FAILED at the third miss. Where the side was MISSED and its BLANK break still waits, the break reaches
the statement first (R85; log 34, DEDUCED), and the page is not put back; nor is the page of a statement already BROKEN or
ABANDONED, whose closing request follows when it was the last sheet in flight. -/
def Obligations.PickWindowExpiryPutsThePageBack : Prop :=
  ∀ (s : State) (tray : Tray) (e : Expectation) (p : Pick) (r : Sheet) (st : Statement),
    s.tracking = true → s.debouncing (exitOf tray) = none → s.list (exitOf tray) = [e] →
    reaches s.now e.closes = true → s.adm.pick = some p → p.tag = e.tag → p.entry.tray = tray →
    p.entry.slot = r.slot → p.entry.generation = r.generation →
    s.sheet e.tag = some r → r.state = .picking → r.tray = tray → s.statement r.slot = some st →
    st.generation = r.generation →
    ∃ t, Runs (.pickWindowExpiry tray) s t ∧
      t.list (exitOf tray) = [] ∧ (∀ x, x ≠ exitOf tray → t.list x = s.list x) ∧
      t.sheet e.tag = none ∧ (∀ u, u ≠ e.tag → t.sheet u = s.sheet u) ∧
      t.adm.pick = none ∧ t.adm.pickLines = s.adm.pickLines.set tray.idx false ∧
      ((st.state = .opened ∨ st.state = .closed) →
        (r.front ≠ .missed ∨ breakWaits s r.slot r.generation .blank = false →
          t.queue p.source =
            { p.entry with attempts := if r.attempts + 1 = 3 then 0 else r.attempts + 1 } :: s.queue p.source ∧
          t.statement r.slot = some { st with admitted := st.admitted - 1, inFlight := st.inFlight - 1 }) ∧
        (r.front = .missed → breakWaits s r.slot r.generation .blank = true →
          t.queue p.source = s.queue p.source ∧
          t.statement r.slot = some { st with
            state := if st.generation < 3 then .broken else .abandoned
            cause := some .blank
            admitted := st.admitted - 1
            inFlight := st.inFlight - 1 })) ∧
      ((st.state = .broken ∨ st.state = .abandoned) →
        t.queue p.source = s.queue p.source ∧
        t.statement r.slot = some { st with admitted := st.admitted - 1, inFlight := st.inFlight - 1 } ∧
        (∀ b, st.bin = some b → st.inFlight ≤ 1 → t.requests.bins = s.requests.bins ++
          [.closing b r.slot r.generation st.ident]) ∧
        (st.bin = none ∨ 1 < st.inFlight → t.requests.bins = s.requests.bins)) ∧
      (∀ q, q ≠ p.source → t.queue q = s.queue q) ∧
      t.condition tray = (if r.attempts + 1 = 3 then .failed else s.condition tray) ∧
      (t.bin r.target).reserved = (s.bin r.target).reserved - 1 ∧
      t.tsq.pitches = s.tsq.pitches.filter (fun x => x.tag != e.tag) ∧
      t.requests.faults = s.requests.faults ∧ t.adm.previous = s.adm.previous ∧
      t.adm.starvation = s.adm.starvation ∧ t.tsv = s.tsv ∧ t.gsc = s.gsc ∧ t.jam = s.jam ∧ t.profile = s.profile

/-! ## Transfer Sequence -/

/-- SIDE READY makes its checks in order; a CALLED pitch becomes READY, and the side of its sheet is claimed READY
(R74). -/
def Obligations.SideReadyTakesACalledPitch : Prop :=
  (∀ (s : State) (call tw sw : Word), PortHolds s [call, tw, sw] → 47 < tw.toNat ∨ 1 < sw.toNat →
    Answers .sideReady s s .badArgument []) ∧
  ∀ (s : State) (call : Word) (tag : Tag) (side : Side), PortHolds s [call, tagCode tag, side.code] →
    ((∀ p ∈ s.tsq.pitches, ¬(p.call = call ∧ p.tag = tag ∧ p.side = side)) →
      Answers .sideReady s s .unknown []) ∧
    (∀ p, s.calledPitch call tag side = some p →
      (p.state = .missed → p.reason = some .deadline → Answers .sideReady s s .late []) ∧
      (p.state = .missed → p.reason ≠ some .deadline → Answers .sideReady s s .unknown []) ∧
      (p.state = .ready ∨ p.state = .imaging → Answers .sideReady s s .unknown []) ∧
      (p.state = .called →
        Answers .sideReady s
          (claimSide { s with tsq := { s.tsq with
              pitches := s.tsq.pitches.map fun q => if q.tag = tag then { q with state := .ready } else q } }
            tag p.slot p.generation side .ready)
          .ok []))

/-- A pitch becomes MISSED by SIDE FAIL from CALLED or READY, and by its deadline from CALLED: the pitch with its reason,
the claim on the sheet, the PITCH MISSED notice, the condemnation BLANK and the break BLANK. SIDE FAIL is answered LATE,
UNKNOWN or STATE where it changes nothing. A deadline of a pitch that is not CALLED, of a halted sequence or not yet
reached changes nothing; for the last that is the model's choice (log 2). -/
def Obligations.MissedPitchesSpoilTheirSheet : Prop :=
  (∀ (s : State) (call tw sw : Word), PortHolds s [call, tw, sw] → 47 < tw.toNat ∨ 1 < sw.toNat →
    Answers .sideFail s s .badArgument []) ∧
  (∀ (s : State) (call : Word) (tag : Tag) (side : Side), PortHolds s [call, tagCode tag, side.code] →
    ((∀ p ∈ s.tsq.pitches, ¬(p.call = call ∧ p.tag = tag ∧ p.side = side)) →
      Answers .sideFail s s .unknown []) ∧
    (∀ p, s.calledPitch call tag side = some p →
      (p.state = .missed → p.reason = some .deadline → Answers .sideFail s s .late []) ∧
      (p.state = .missed → p.reason ≠ some .deadline → Answers .sideFail s s .unknown []) ∧
      (p.state = .imaging → Answers .sideFail s s .state []) ∧
      (p.state = .called ∨ p.state = .ready → Answers .sideFail s (missPitch s p .fail) .ok []))) ∧
  (∀ (s : State) (tag : Tag) (p : Pitch), s.pitchOf tag = some p →
    (p.state = .called → s.tsq.halted = false → reaches s.now p.deadline = true →
      Runs (.deadlineExpiry tag) s (missPitch s p .deadline)) ∧
    (p.state ≠ .called ∨ s.tsq.halted = true ∨ reaches s.now p.deadline = false →
      Runs (.deadlineExpiry tag) s s)) ∧
  (∀ (s : State) (p : Pitch) (reason : MissReason),
    (missPitch s p reason).tsq = { s.tsq with pitches := s.tsq.pitches.map fun q =>
      if q.tag = p.tag then { q with state := .missed, reason := some reason } else q } ∧
    (∀ u, (missPitch s p reason).sheet u = (s.sheet u).map fun r =>
      if u = p.tag ∧ r.slot = p.slot ∧ r.generation = p.generation then
        (match p.side with
          | .front => { r with front := .missed }
          | .back => { r with back := some .missed })
      else r) ∧
    (s.cpt.notices.length < 32 → (missPitch s p reason).cpt.notices =
      s.cpt.notices ++ [.pitchMissed p.call p.tag p.side p.slot p.page reason]) ∧
    (missPitch s p reason).requests = { s.requests with
      condemns := s.requests.condemns ++
        [{ tag := some p.tag, slot := p.slot, generation := p.generation, cause := .blank }]
      breaks := s.requests.breaks ++
        [{ slot := p.slot, generation := p.generation, cause := .blank, opening := none }] })

/-! ## Path tracking -/

/-- A change of a sensor line changes the line; a return to the debounced level discards a debounce; while a run line is
asserted a difference begins a debounce at the present count; while both are withdrawn, in a standing path, the edge is
accepted at once and changes the level alone. The model's reading of R88 for a debounce whose distance has been run when
the line changes (log 20, DEDUCED): it is complete, its edge is accepted first, as DEBOUNCE_COMPLETE accepts it with its
retirement claim taken at once (log 41), and the change begins a debounce of its own. -/
def Obligations.SensorLineChangesBeginAndDiscardDebounces : Prop :=
  (∀ (s u : State) (x : Sensor),
    (∀ c, s.debouncing x = some c →
      s.runs = true ∧ reaches s.now (plus c (s.limit .debounceDistance)) = false) →
    u = { s with lines := { s.lines with sensors := s.lines.sensors.set x.idx (!s.lines.sensors[x.idx]) } } →
    (u.lineCovered x = s.covered x → Runs (.sensorLineChange x) s
      { u with ptk := { u.ptk with debounce := u.ptk.debounce.set x.idx none } }) ∧
    (u.lineCovered x ≠ s.covered x → s.runs = true → Runs (.sensorLineChange x) s
      { u with ptk := { u.ptk with debounce := u.ptk.debounce.set x.idx (some s.now) } }) ∧
    (u.lineCovered x ≠ s.covered x → s.runs = false → s.tracking = false → s.tsv.state ≠ .runout →
      Runs (.sensorLineChange x) s
        { u with ptk := { u.ptk with
          debounced := u.ptk.debounced.set x.idx (u.lineCovered x)
          debounce := u.ptk.debounce.set x.idx none } })) ∧
  (∀ (s w : State) (x : Sensor) (c : Count), s.debouncing x = some c → s.runs = true →
    reaches s.now (plus c (s.limit .debounceDistance)) = true → w = completeDebounce s x false →
    Runs (.debounceComplete ⟨x, false⟩) s w ∧ w.covered x = s.lineCovered x ∧
    Runs (.sensorLineChange x) s { w with
      lines := { w.lines with sensors := w.lines.sensors.set x.idx (!w.lines.sensors[x.idx]) }
      ptk := { w.ptk with debounce := w.ptk.debounce.set x.idx (some s.now) } })

/-- The end of a debounce changes nothing before its distance has been run, nor without a debounce (log 2, the model's
choice); where the PTK takes no arrival it changes the level alone; otherwise the edge is a lead, which is UNEXPECTED with
no entry that the PTK takes now, LOOP OVERRUN at DUP2 with a parked sheet, and EARLY before the open count of the first
entry. In RUNOUT the entries taken are those of the run-out records (R108). -/
def Obligations.EdgesAreAcceptedAndLeadsAreJudged : Prop :=
  ∀ (s u : State) (x : Sensor) (c : Count) (later : Bool),
    u = { s with ptk := { s.ptk with
      debounced := s.ptk.debounced.set x.idx (s.lineCovered x), debounce := s.ptk.debounce.set x.idx none } } →
    (s.debouncing x = none → Runs (.debounceComplete ⟨x, later⟩) s s) ∧
    (s.debouncing x = some c → s.runs = true → reaches s.now (plus c (s.limit .debounceDistance)) = false →
      Runs (.debounceComplete ⟨x, later⟩) s s) ∧
    (s.debouncing x = some c → (s.runs = false ∨ reaches s.now (plus c (s.limit .debounceDistance)) = true) →
      s.tracking = false → s.tsv.state ≠ .runout → Runs (.debounceComplete ⟨x, later⟩) s u) ∧
    ((s.tracking = true → s.watched x = s.list x) ∧
      (s.tsv.state = .runout → s.watched x = (s.list x).filter fun e => (s.sheet e.tag).any fun r => r.runOut)) ∧
    (EdgeAccepted s x c true → s.watched x = [] →
      Runs (.debounceComplete ⟨x, later⟩) s (u.handFault .unexpected x none)) ∧
    (∀ e rest, EdgeAccepted s x c true → s.watched x = e :: rest →
      (∀ f ∈ e :: rest, isLater c f.closes = false) →
      (x = .dup2 → s.parkedTag ≠ none →
        Runs (.debounceComplete ⟨x, later⟩) s (u.handFault .loopOverrun .dup2 (some e.tag))) ∧
      ((x = .dup2 → s.parkedTag = none) → liesBefore c e.opens = true →
        Runs (.debounceComplete ⟨x, later⟩) s (u.handFault .early x (some e.tag))))

/-- An accepted lead removes its entry, moves the record as its sensor says, with last sensor, last lead count and the
trail window of R27, and enters the sheet at the next sensor of its route, or sets the park watch at DUP2; in RUNOUT for
the run-out records (R108). Where the record is FREE or belongs to another pair than the entry, the claim is dropped and
the sheet is entered nowhere (R22, R39). -/
def Obligations.AcceptedLeadsMoveTheSheetOn : Prop :=
  (∀ (s : State) (x : Sensor) (c : Count) (e : Expectation) (rest : List Expectation) (r : Sheet) (st : SheetState)
    (later : Bool), LeadTaken s x c e rest → s.sheet e.tag = some r → r.owner = e.owner →
    ((x = exitOf r.tray ∧ r.state = .picking ∧ st = .main) ∨
      (x = .dup1 ∧ r.state = .main ∧ st = .loop) ∨ (x = .out ∧ r.state = .main ∧ st = .output) ∨
      (x ∉ [Sensor.f1, .f2, .f3, .dup1, .out] ∧ r.state ∈ [SheetState.main, .loop, .output] ∧ st = r.state)) →
    ∃ t q, Runs (.debounceComplete ⟨x, later⟩) s t ∧ t.covered x = true ∧
      t.sheet e.tag = some q ∧ q.state = st ∧ q.lastSensor = some x ∧ q.lastLead = some c ∧
      q.trail = (if r.trail.isSome then r.trail else some
        { sensor := x
          opens := minus (plus c r.length) (s.widened (s.limit .trailTolerance))
          closes := plus (plus c r.length) (s.widened (s.limit .trailTolerance))
          widened := s.tsv.backup
          expired := false }) ∧
      q.slot = r.slot ∧ q.generation = r.generation ∧ q.page = r.page ∧ q.target = r.target ∧
      q.condemned = r.condemned ∧ q.length = r.length ∧ q.gauge = r.gauge ∧ q.divert = r.divert ∧
      q.runOut = r.runOut ∧
      (∀ tag, tag ≠ e.tag → t.sheet tag = s.sheet tag) ∧
      t.list x = (s.list x).erase e ∧
      (∀ y l, nextHop r x = some (y, l) → (s.list y).length < 4 → t.list y = insertByOpen
        { tag := e.tag
          owner := e.owner
          opens := minus (plus c (s.leg l)) (s.widened (s.limit .leadTolerance))
          closes := plus (plus c (s.leg l)) (s.widened (s.limit .leadTolerance))
          widened := s.tsv.backup } (s.list y)) ∧
      (∀ y l, nextHop r x = some (y, l) → 4 ≤ (s.list y).length →
        { cause := .trackFull, sensor := y, tag := some e.tag } ∈ t.requests.faults) ∧
      (∀ z, z ≠ x → (∀ y l, nextHop r x = some (y, l) → z ≠ y) → t.list z = s.list z) ∧
      (x = .dup2 → t.ptk.park = some { tag := e.tag, owner := e.owner, count := plus c (s.leg .park) }) ∧
      (x ≠ .dup2 → t.ptk.park = s.ptk.park) ∧
      t.stu = s.stu ∧ t.bnm = s.bnm ∧ t.tsv = s.tsv ∧ t.jam = s.jam ∧ t.profile = s.profile) ∧
  (∀ (s : State) (x : Sensor) (c : Count) (e : Expectation) (rest : List Expectation) (later : Bool),
    LeadTaken s x c e rest → (∀ r, s.sheet e.tag = some r → r.owner ≠ e.owner) →
    x ∉ [Sensor.f1, .f2, .f3, .reg] →
    ∃ t, Runs (.debounceComplete ⟨x, later⟩) s t ∧ t.covered x = true ∧ t.sheets = s.sheets ∧
      t.list x = (s.list x).erase e ∧ (∀ y, y ≠ x → t.list y = s.list y) ∧ t.ptk.park = s.ptk.park ∧
      t.gsc = s.gsc ∧ t.tsv = s.tsv ∧ t.jam = s.jam)

/-- An accepted lead at a tray exit ends the pick: the pick line is withdrawn, the picking place ends, and the predicted
REG arrival moves in the previous-grant record and in the deadline of the sheet's pitch. -/
def Obligations.TrayExitLeadEndsThePick : Prop :=
  ∀ (s : State) (tray : Tray) (c : Count) (e : Expectation) (rest : List Expectation) (r : Sheet) (p : Pick)
    (later : Bool),
    LeadTaken s (exitOf tray) c e rest → s.sheet e.tag = some r → r.owner = e.owner → r.state = .picking →
    r.tray = tray →
    s.adm.pick = some p → p.tag = e.tag →
    ∃ t, Runs (.debounceComplete ⟨exitOf tray, later⟩) s t ∧ t.adm.pick = none ∧
      t.adm.pickLines = s.adm.pickLines.set tray.idx false ∧
      t.adm.previous = s.adm.previous.map (fun g =>
        if g.tag = e.tag then { g with predicted := plus c (s.leg (regLegOf tray)) } else g) ∧
      ((∀ p, s.pitchOf e.tag = some p →
          p.state ≠ .called ∨ reaches s.now (minus (plus c (s.leg (regLegOf tray))) s.margin) = false) →
        t.tsq.pitches = s.tsq.pitches.map (fun p =>
          if p.tag = e.tag then { p with deadline := minus (plus c (s.leg (regLegOf tray))) s.margin } else p)) ∧
      t.adm.newQueue = s.adm.newQueue ∧ t.adm.restartQueue = s.adm.restartQueue ∧ t.gsc = s.gsc

/-- An accepted REG lead registers the sheet's pitch: a READY pitch becomes IMAGING and the transfer enable line is
asserted; a CALLED pitch is MISSED by its deadline and the line withdrawn; for a MISSED pitch the line is withdrawn. On the
first pass, with the gauge enabled, a gauge burst begins. -/
def Obligations.RegLeadRegistersThePitch : Prop :=
  ∀ (s : State) (c : Count) (e : Expectation) (rest : List Expectation) (r : Sheet) (later : Bool),
    LeadTaken s .reg c e rest → s.sheet e.tag = some r → r.owner = e.owner → r.state = .main →
    ∃ t, Runs (.debounceComplete ⟨.reg, later⟩) s t ∧
      (∀ p, s.pitchOf e.tag = some p → p.slot = r.slot → p.generation = r.generation →
        (p.state = .ready → t.tsq = { s.tsq with
            pitches := s.tsq.pitches.map fun q =>
              if q.tag = e.tag then { q with registered := true, state := .imaging } else q
            transferEnable := true } ∧
          (∃ q, t.sheet e.tag = some q ∧ (p.side = .front → q.front = .imaging) ∧
            (p.side = .back → q.back = some .imaging))) ∧
        (p.state = .called → t.tsq = { s.tsq with
            pitches := s.tsq.pitches.map fun q =>
              if q.tag = e.tag then { q with registered := true, state := .missed, reason := some .deadline } else q
            transferEnable := false } ∧
          { slot := r.slot, generation := r.generation, cause := .blank, opening := none } ∈ t.requests.breaks ∧
          { tag := some e.tag, slot := r.slot, generation := r.generation, cause := .blank } ∈ t.requests.condemns) ∧
        (p.state = .missed → t.tsq = { s.tsq with
            pitches := s.tsq.pitches.map fun q => if q.tag = e.tag then { q with registered := true } else q
            transferEnable := false })) ∧
      (s.profile.enabled.gauge = true → (∃ tray, r.lastSensor = some (exitOf tray)) →
        t.ptk.burst = some { tag := e.tag, owner := e.owner, tray := r.tray, regLead := c, readings := [] }) ∧
      (s.profile.enabled.gauge = false ∨ (∀ tray, r.lastSensor ≠ some (exitOf tray)) → t.ptk.burst = s.ptk.burst)

/-- An accepted FUSE lead puts a request in the list of gate D, an accepted OUT lead in the lists of the gates that the
route to the target meets, each at the lead count plus the gate's offset less the throw lead; a full list is a jam GATE
CONFLICT, and the gates after it still get theirs (log 37, the model's choice). An accepted lead at a bin with an open door
is a jam BIN OPEN, in RUNOUT too for a run-out record. -/
def Obligations.LeadsScheduleTheGatesAndMeetTheDoors : Prop :=
  ∀ (s : State) (x : Sensor) (c : Count) (e : Expectation) (rest : List Expectation) (r : Sheet) (later : Bool),
    LeadTaken s x c e rest → s.sheet e.tag = some r → r.owner = e.owner → r.state = .main ∨ r.state = .output →
    ∃ t, Runs (.debounceComplete ⟨x, later⟩) s t ∧
      (x = .fuse → (s.gate .d).waiting.length < 2 → t.gate .d = { s.gate .d with
        waiting := insertRequest
          { tag := e.tag
            owner := e.owner
            kind := if r.plex = .duplex ∧ r.back = some .none_ then .throw else .passage
            count := minus (plus c (s.offset .d)) (s.limit .throwLead) } (s.gate .d).waiting }) ∧
      (x = .fuse → 2 ≤ (s.gate .d).waiting.length → t.gate .d = s.gate .d ∧
        { cause := .gateConflict, sensor := .fuse, tag := some e.tag } ∈ t.requests.faults) ∧
      (x = .fuse → ∀ g, g ≠ .d → t.gate g = s.gate g) ∧
      (x = .out → r.state = .main → ∀ g kind, (g, kind) ∈ routeGates r.target →
        ((s.gate g).waiting.length < 2 → t.gate g = { s.gate g with
          waiting := insertRequest
            { tag := e.tag
              owner := e.owner
              kind := kind
              count := minus (plus c (s.offset g)) (s.limit .throwLead) }
            (s.gate g).waiting }) ∧
        (2 ≤ (s.gate g).waiting.length → t.gate g = s.gate g ∧
          { cause := .gateConflict, sensor := .out, tag := some e.tag } ∈ t.requests.faults)) ∧
      (x = .out → ∀ g, (∀ kind, (g, kind) ∉ routeGates r.target) → t.gate g = s.gate g) ∧
      (x ≠ .fuse → x ≠ .out → t.gsc = s.gsc) ∧
      (∀ b, x = entryOf b → (s.bin b).state = .doorOpen → t.requests.faults = s.requests.faults ++
        [{ cause := .binOpen, sensor := x, tag := some e.tag }]) ∧
      (∀ b, x = entryOf b → (s.bin b).state ≠ .doorOpen → t.requests.faults = s.requests.faults)

/-- A trail, judged against the window of the lowest tag that awaits it (log 24, the model's choice): before the window
it is SHORT; inside it trail pending moves to a later last sensor, or becomes absent; past it the window's jam is raised
once (log 18, DEDUCED; log 19, the model's choice). With no window for it, a DUP2 trail with a parked sheet and a trail
of a sheet left behind are SHORT, and another trail changes the level alone. In RUNOUT the windows of the run-out
records alone take trails, and another trail changes the level alone (R108). A DUP2 trail is judged against the release
window first: before it it is SHORT, inside it clears it and withdraws the release line, past it the jam STALL is raised
once. -/
def Obligations.TrailsAreJudgedAgainstTheirWindow : Prop :=
  ∀ (s u : State) (x : Sensor) (c : Count) (later : Bool), EdgeAccepted s x c false →
    u = { s with ptk := { s.ptk with
      debounced := s.ptk.debounced.set x.idx false, debounce := s.ptk.debounce.set x.idx none } } →
    ((s.tracking = true → x = .dup2 → s.ptk.release = none) →
      ∀ tag r w, (s.firstTag (takesTrail s x)) = some tag → s.sheet tag = some r → r.trail = some w →
        (liesBefore c w.opens = true → Runs (.debounceComplete ⟨x, later⟩) s (u.handFault .short x (some tag))) ∧
        (liesBefore c w.opens = false → reaches w.closes c = false → w.expired = false →
          Runs (.debounceComplete ⟨x, later⟩) s
            ((u.setSheet tag (some { r with trail := some { w with expired := true } })).handFault
              (if x ∈ [Sensor.f1, .f2, .f3] then .overlap else .stall) x (some tag))) ∧
        (liesBefore c w.opens = false → reaches w.closes c = false → w.expired = true →
          Runs (.debounceComplete ⟨x, later⟩) s u) ∧
        (liesBefore c w.opens = false → reaches w.closes c = true → x ∉ [Sensor.xfer, .b1, .b2, .b3, .b4, .bp] →
          (r.state ∈ [SheetState.main, .loop, .output] →
            (r.lastSensor = some x → Runs (.debounceComplete ⟨x, later⟩) s
              (u.setSheet tag (some { r with trail := none }))) ∧
            (∀ y d, r.lastSensor = some y → y ≠ x → r.lastLead = some d →
              Runs (.debounceComplete ⟨x, later⟩) s
                (u.setSheet tag (some { r with trail := some (trailWindow s r y d) })))) ∧
          (r.state ∉ [SheetState.main, .loop, .output] → Runs (.debounceComplete ⟨x, later⟩) s u))) ∧
    (s.tracking = true → (x = .dup2 → s.ptk.release = none) → (s.firstTag fun q => q.awaitsTrail x) = none →
      (∀ tag, x = .dup2 → s.parkedTag = some tag →
        Runs (.debounceComplete ⟨x, later⟩) s (u.handFault .short x (some tag))) ∧
      ((x = .dup2 → s.parkedTag = none) →
        (∀ tag, (s.firstTag fun q => q.leftBehind x) = some tag →
          Runs (.debounceComplete ⟨x, later⟩) s (u.handFault .short x (some tag))) ∧
        ((s.firstTag fun q => q.leftBehind x) = none → Runs (.debounceComplete ⟨x, later⟩) s u))) ∧
    (s.tsv.state = .runout → (∀ tag r, s.sheet tag = some r → r.runOut = true → r.awaitsTrail x = false) →
      Runs (.debounceComplete ⟨x, later⟩) s u) ∧
    (∀ w, s.tracking = true → x = .dup2 → s.ptk.release = some w →
      (liesBefore c w.opens = true → Runs (.debounceComplete ⟨x, later⟩) s (u.handFault .short .dup2 (some w.tag))) ∧
      (liesBefore c w.opens = false → reaches w.closes c = true → Runs (.debounceComplete ⟨x, later⟩) s
        { u with ptk := { u.ptk with release := none }, adm := { u.adm with releaseLine := false } }) ∧
      (liesBefore c w.opens = false → reaches w.closes c = false → w.expired = false →
        Runs (.debounceComplete ⟨x, later⟩) s
          (({ u with ptk := { u.ptk with release := some { w with expired := true } } }).handFault .stall .dup2
            (some w.tag))) ∧
      (liesBefore c w.opens = false → reaches w.closes c = false → w.expired = true →
        Runs (.debounceComplete ⟨x, later⟩) s u))

/-- An accepted XFER trail ends the sheet's pitch: an IMAGING pitch leaves the list and its side is DONE, a MISSED pitch
leaves it; the transfer enable line is withdrawn when it was the last registered pitch. The trail is taken by the lowest
tag that awaits it, which is the model's choice (log 24). -/
def Obligations.XferTrailEndsThePitch : Prop :=
  ∀ (s : State) (c : Count) (tag : Tag) (r : Sheet) (w : TrailPending) (p : Pitch) (later : Bool),
    TrailTaken s .xfer c tag r w → r.state ∈ [SheetState.main, .loop, .output] → s.pitchOf tag = some p →
    ∃ t, Runs (.debounceComplete ⟨.xfer, later⟩) s t ∧
      (p.state = .imaging ∨ p.state = .missed →
        t.tsq = { s.tsq with
          pitches := s.tsq.pitches.filter fun q => q.tag != tag
          transferEnable :=
            if (lastRegistered s.tsq.pitches).any fun q => q.tag = tag then false else s.tsq.transferEnable }) ∧
      (p.state = .called ∨ p.state = .ready → t.tsq = s.tsq) ∧
      (p.state = .imaging → p.slot = r.slot → p.generation = r.generation → ∃ q, t.sheet tag = some q ∧
        (p.side = .front → q.front = .done) ∧ (p.side = .back → q.back = some .done)) ∧
      (∀ u, u ≠ tag → t.sheet u = s.sheet u) ∧ t.stu = s.stu ∧ t.bnm = s.bnm ∧ t.gsc = s.gsc ∧ t.tsv = s.tsv ∧
      t.requests.faults = s.requests.faults

/-- An accepted trail at the entry of a stacker delivers the sheet: fill, reserved, jog and last statement, the report to
the statement, which completes at its last good page, the spoil range of a page that is not good, FULL at the capacity, and
the retirement of the record, with the burst it holds. The trail is taken by the lowest tag that awaits it (log 24, the
model's choice). A BIN_OPENED break of the statement that still waits is taken first (R144; log 34, DEDUCED), and the page
is spoil; a range that grows is put back at its place (log 32, DEDUCED). A report that the statement drops places no spoil
(log 29, the model's choice). In RUNOUT the delivery of a run-out record takes 1 from the run-out count (R152). The
retirement claim is taken at once, or waits until the end of the next step (log 41, the model's choice): then the record
stays in OUTPUT, and what the claim does is what its taking does: it retires an OUTPUT record, reports a STRANDED one as
delivered, and is dropped for any other (R36, R152). -/
def Obligations.DeliveryIntoAStacker : Prop :=
  (∀ (s : State) (b : Bin) (c : Count) (tag : Tag) (r : Sheet) (w : TrailPending) (later : Bool),
    b ≠ .p → TrailTaken s (entryOf b) c tag r w → r.state = .output → (s.bin b).state ≠ .off →
    ∃ t, Runs (.debounceComplete ⟨entryOf b, later⟩) s t ∧
      (later = false → t.sheet tag = none ∧ t.requests.retires = s.requests.retires ∧
        t.ptk.burst = s.ptk.burst.filter (fun g => g.tag != tag) ∧
        t.jam = if r.runOut = true ∧ s.tsv.state = .runout then
          { s.jam with runOutCount := s.jam.runOutCount - 1 } else s.jam) ∧
      (later = true → t.requests.retires = s.requests.retires ++ [{ tag, owner := r.owner }] ∧
        t.ptk.burst = s.ptk.burst ∧ t.jam = s.jam ∧
        ∃ q, t.sheet tag = some { r with trail := q } ∧ (r.lastSensor = some (entryOf b) → q = none)) ∧
      (∀ u, u ≠ tag → t.sheet u = s.sheet u) ∧
      (t.bin b).fill = (s.bin b).fill + 1 ∧ (t.bin b).reserved = (s.bin b).reserved - 1 ∧
      (t.bin b).last = some { slot := r.slot, generation := r.generation } ∧
      (t.bin b).jogRight = (if (s.bin b).last = some { slot := r.slot, generation := r.generation }
        then (s.bin b).jogRight else !(s.bin b).jogRight) ∧
      ((s.bin b).fill + 1 = s.capacity b → (s.bin b).state = .ready ∨ (s.bin b).state = .fenced →
        (t.bin b).state = .full) ∧
      (∀ d, d ≠ b → t.bin d = s.bin d) ∧
      (∀ slot, slot ≠ r.slot → t.statement slot = s.statement slot) ∧
      (∀ st, s.statement r.slot = some st → st.generation = r.generation →
        (breakWaits s r.slot r.generation .binOpened = false →
          (st.state = .opened ∨ st.state = .closed) → r.condemned = none → st.bin = some b →
          (t.bin b).spoil = (s.bin b).spoil ∧
          (st.state = .closed → st.lastSeen = true → st.delivered + 1 = st.queued →
            t.statement r.slot = none ∧
            (t.bin b).stacking = (s.bin b).stacking.filter (fun o =>
              decide (o ≠ { slot := r.slot, generation := r.generation })) ∧
            (s.cpt.notices.length < 32 →
              Notice.stmtComplete r.slot st.ident b (st.firstPos.getD ((s.bin b).fill + 1)) ((s.bin b).fill + 1)
                ∈ t.cpt.notices)) ∧
          (st.state = .opened ∨ st.lastSeen = false ∨ st.delivered + 1 ≠ st.queued →
            t.statement r.slot = some { st with
              inFlight := st.inFlight - 1
              delivered := st.delivered + 1
              firstPos := some (st.firstPos.getD ((s.bin b).fill + 1))
              lastPos := some ((s.bin b).fill + 1) })) ∧
        (breakWaits s r.slot r.generation .binOpened = true ∨ st.state = .broken ∨ st.state = .abandoned ∨
            r.condemned ≠ none ∨ st.bin ≠ some b →
          t.statement r.slot = some
            { (if breakWaits s r.slot r.generation .binOpened then st.broken r.generation .binOpened else st) with
              inFlight := st.inFlight - 1 } ∧
          (openRange (s.bin b) st.ident = none → (t.bin b).spoil = insertRange
            { first := (s.bin b).fill + 1, last := (s.bin b).fill + 1, ident := st.ident, isOpen := true }
            (s.bin b).spoil) ∧
          (∀ g, openRange (s.bin b) st.ident = some g → (t.bin b).spoil =
            insertRange { g with last := (s.bin b).fill + 1 } (withoutOpenRange (s.bin b) st.ident)))) ∧
      (s.statement r.slot = none ∨ (∃ st, s.statement r.slot = some st ∧ st.generation ≠ r.generation) →
        t.stu = s.stu ∧ (t.bin b).spoil = (s.bin b).spoil) ∧
      t.tsv = s.tsv ∧ t.gsc = s.gsc ∧ t.tsq = s.tsq ∧ t.profile = s.profile) ∧
  (∀ (s u : State) (q : Retirement) (rest : List Retirement),
    s.requests.retires = [q] → u.requests.retires = q :: rest →
    (∀ r, u.sheet q.tag = some r → r.owner = q.owner →
      (r.state = .output →
        (takeRetirements s u).sheet q.tag = none ∧ (∀ tag, tag ≠ q.tag → (takeRetirements s u).sheet tag = u.sheet tag) ∧
        (takeRetirements s u).ptk = { u.ptk with burst := u.ptk.burst.filter fun g => g.tag != q.tag } ∧
        (takeRetirements s u).jam = (if r.runOut = true ∧ u.tsv.state = .runout then
          { u.jam with runOutCount := u.jam.runOutCount - 1 } else u.jam) ∧
        (takeRetirements s u).requests = { u.requests with
          retires := rest, condemns := u.requests.condemns.filter fun k => k.tag != some q.tag } ∧
        (takeRetirements s u).stu = u.stu ∧ (takeRetirements s u).bnm = u.bnm ∧ (takeRetirements s u).tsv = u.tsv) ∧
      (r.state = .stranded → takeRetirements s u = { u with
        jam := { u.jam with delivered :=
          if q.tag ∈ u.jam.delivered then u.jam.delivered else u.jam.delivered ++ [q.tag] }
        requests := { u.requests with retires := rest } }) ∧
      (r.state ≠ .output → r.state ≠ .stranded →
        takeRetirements s u = { u with requests := { u.requests with retires := rest } })) ∧
    ((∀ r, u.sheet q.tag = some r → r.owner ≠ q.owner) →
      takeRetirements s u = { u with requests := { u.requests with retires := rest } }))

/-- An accepted trail at BP delivers the sheet into the purge bin: fill and reserved, one sheet less in flight for a
statement whose bin is not P, FULL at the capacity, and the retirement of the record; P's other fields stay. A BIN_OPENED
break of the statement that still waits is taken first (R144; log 34, DEDUCED). The trail is taken by the lowest tag that
awaits it (log 24, the model's choice). In RUNOUT the delivery of a run-out record takes 1 from the run-out count (R152).
The retirement claim is taken at once, or waits until the end of the next step (log 41, the model's choice): then the
record stays in OUTPUT. -/
def Obligations.DeliveryIntoThePurgeBin : Prop :=
  ∀ (s : State) (c : Count) (tag : Tag) (r : Sheet) (w : TrailPending) (later : Bool),
    TrailTaken s .bp c tag r w → r.state = .output →
    (∀ st, s.statement r.slot = some st → st.bin ≠ some .p) →
    ∃ t, Runs (.debounceComplete ⟨.bp, later⟩) s t ∧
      (later = false → t.sheet tag = none ∧ t.requests.retires = s.requests.retires ∧
        t.ptk.burst = s.ptk.burst.filter (fun g => g.tag != tag) ∧
        t.jam = if r.runOut = true ∧ s.tsv.state = .runout then
          { s.jam with runOutCount := s.jam.runOutCount - 1 } else s.jam) ∧
      (later = true → t.requests.retires = s.requests.retires ++ [{ tag, owner := r.owner }] ∧
        t.ptk.burst = s.ptk.burst ∧ t.jam = s.jam ∧
        ∃ q, t.sheet tag = some { r with trail := q } ∧ (r.lastSensor = some .bp → q = none)) ∧
      (∀ u, u ≠ tag → t.sheet u = s.sheet u) ∧
      t.bin .p = { s.bin .p with
        fill := (s.bin .p).fill + 1
        reserved := (s.bin .p).reserved - 1
        state :=
          if (s.bin .p).fill + 1 = s.capacity .p ∧ ((s.bin .p).state = .ready ∨ (s.bin .p).state = .fenced) then .full
          else (s.bin .p).state } ∧
      (∀ d, d ≠ .p → t.bin d = s.bin d) ∧
      (∀ slot, t.statement slot = (s.statement slot).map fun st =>
        if slot = r.slot ∧ st.generation = r.generation then
          { (if breakWaits s r.slot r.generation .binOpened then st.broken r.generation .binOpened else st) with
            inFlight := st.inFlight - 1 }
        else st) ∧
      t.tsv = s.tsv ∧ t.gsc = s.gsc ∧ t.tsq = s.tsq ∧ t.profile = s.profile

/-- A window that closes empty, watched and with no edge of its sensor under debounce: past the tray exits a lead window
is a jam LATE and its entry is removed; a trail window is a jam OVERLAP at a tray exit and STALL elsewhere, the release
window a jam STALL, and both stay with their expiry marked (log 19, the model's choice). In RUNOUT the windows of the
run-out records alone are watched (R108). Before its close count, or where it is not watched, it changes nothing (log 2,
the model's choice). -/
def Obligations.WindowsThatCloseEmptyAreJams : Prop :=
  (∀ (s : State) (x : Sensor) (e : Expectation), x ∉ [Sensor.f1, .f2, .f3] →
    s.debouncing x = none → ((s.watched x).find? fun f => reaches s.now f.closes) = some e →
    Runs (.leadWindowExpiry x) s ((s.setList x ((s.list x).erase e)).handFault .late x (some e.tag))) ∧
  (∀ (s : State) (x : Sensor),
    s.debouncing x ≠ none ∨ (∀ f ∈ s.watched x, reaches s.now f.closes = false) →
    Runs (.leadWindowExpiry x) s s) ∧
  (∀ (s : State) (tag : Tag), s.tracks tag = true ↔
    s.tracking = true ∨ (s.tsv.state = .runout ∧ ∃ r, s.sheet tag = some r ∧ r.runOut = true)) ∧
  (∀ (s : State) (tag : Tag) (r : Sheet) (w : TrailPending), s.sheet tag = some r → r.trail = some w →
    (s.tracks tag = true → w.expired = false → s.debouncing w.sensor = none → reaches s.now w.closes = true →
      Runs (.trailWindowExpiry tag) s
        ((s.setSheet tag (some { r with trail := some { w with expired := true } })).handFault
          (if w.sensor ∈ [Sensor.f1, .f2, .f3] then .overlap else .stall) w.sensor (some tag))) ∧
    (s.tracks tag = false ∨ w.expired = true ∨ s.debouncing w.sensor ≠ none ∨ reaches s.now w.closes = false →
      Runs (.trailWindowExpiry tag) s s)) ∧
  (∀ (s : State) (w : ReleaseWindow), s.ptk.release = some w →
    (s.tracking = true → w.expired = false → s.debouncing .dup2 = none → reaches s.now w.closes = true →
      Runs .releaseWindowExpiry s
        (({ s with ptk := { s.ptk with release := some { w with expired := true } } }).handFault .stall .dup2
          (some w.tag))) ∧
    (s.tracking = false ∨ w.expired = true ∨ s.debouncing .dup2 ≠ none ∨ reaches s.now w.closes = false →
      Runs .releaseWindowExpiry s s))

/-- At the park count, with no record PARKED, the watch is emptied and its LOOP record becomes PARKED with trail pending
absent; where the record has gone, has another pair or is not in LOOP, the watch alone is emptied. Before the count, with
a record PARKED or while not every record is tracked, nothing changes (log 2, the model's choice). -/
def Obligations.ParkHoldsTheLoopingSheet : Prop :=
  ∀ (s : State) (w : ParkWatch), s.ptk.park = some w →
    (s.tracking = true → s.parkedTag = none → reaches s.now w.count = true →
      (∀ r, s.sheet w.tag = some r → r.owner = w.owner → r.state = .loop →
        Runs .park s (({ s with ptk := { s.ptk with park := none } }).setSheet w.tag
          (some { r with state := .parked, trail := none }))) ∧
      ((∀ r, s.sheet w.tag = some r → r.owner ≠ w.owner ∨ r.state ≠ .loop) →
        Runs .park s { s with ptk := { s.ptk with park := none } })) ∧
    (s.tracking = false ∨ s.parkedTag ≠ none ∨ reaches s.now w.count = false → Runs .park s s)

/-- A gauge sample falls due 100 counts after the one before it; one not yet due changes nothing (log 2, the model's
choice). The first three readings are kept; the fourth ends the burst with its verdict: the mean less the zero offset
above the band is DOUBLE, below it THIN. The record takes the result where it is still the burst's and MAIN; NORMAL sets
the tray's verdict count to 0; another verdict condemns the sheet, breaks its statement, and adds 1 to the count, and at 2
sends the suspect claim, which is taken at once or after the next command (log 22, the model's choice). A retirement of
the record abandons the burst (R32). -/
def Obligations.GaugeBurstsGiveAVerdict : Prop :=
  ∀ (s : State) (b : Burst) (reading : BitVec 10) (later : Bool), s.ptk.burst = some b →
    (reaches s.now (plus b.regLead (100 * (b.readings.length + 1))) = false →
      Runs (.gaugeReading reading later) s s) ∧
    (reaches s.now (plus b.regLead (100 * (b.readings.length + 1))) = true →
      (b.readings.length < 3 → Runs (.gaugeReading reading later) s
        { s with
          lines := { s.lines with gauge := reading }
          ptk := { s.ptk with burst := some { b with readings := b.readings ++ [reading.toNat] } } }) ∧
      (∀ (v : Verdict), b.readings.length = 3 →
        (v = .double ↔ ((b.readings.sum + reading.toNat) / 4 : Nat) - (s.ptk.zeroOffset : Int) >
          (s.traySettings b.tray).bandHigh) →
        (v = .thin ↔ ((b.readings.sum + reading.toNat) / 4 : Nat) - (s.ptk.zeroOffset : Int) <
            (s.traySettings b.tray).bandLow ∧
          ((b.readings.sum + reading.toNat) / 4 : Nat) - (s.ptk.zeroOffset : Int) ≤
            (s.traySettings b.tray).bandHigh) →
        ∃ t, Runs (.gaugeReading reading later) s t ∧ t.ptk.burst = none ∧ t.lines.gauge = reading ∧
          (∀ u, t.sheet u = (s.sheet u).map fun r =>
            if u = b.tag ∧ r.owner = b.owner ∧ r.state = .main then
              { r with gauge := some { readings := b.readings ++ [reading.toNat], verdict := v } } else r) ∧
          (v = .normal → t.ptk.verdicts = s.ptk.verdicts.set b.tray.idx 0 ∧
            t.requests.condemns = s.requests.condemns) ∧
          (v ≠ .normal →
            t.ptk.verdicts = s.ptk.verdicts.set b.tray.idx (min (s.ptk.verdicts[b.tray.idx] + 1) 2) ∧
            t.requests.condemns = s.requests.condemns ++
              [{ tag := some b.tag, slot := b.owner.slot, generation := b.owner.generation, cause := .gauge }] ∧
            { slot := b.owner.slot, generation := b.owner.generation, cause := .gauge, opening := none } ∈
              t.requests.breaks) ∧
          (later = true →
            t.adm.suspects = s.adm.suspects ++
              (if v ≠ .normal ∧ 1 ≤ s.ptk.verdicts[b.tray.idx] then [b.tray] else []) ∧
            (∀ tray, t.condition tray = s.condition tray)) ∧
          (later = false → t.adm.suspects = s.adm.suspects ∧
            (∀ tray, tray ≠ b.tray → t.condition tray = s.condition tray) ∧
            t.condition b.tray =
              (if v ≠ .normal ∧ 1 ≤ s.ptk.verdicts[b.tray.idx] ∧ s.condition b.tray = .ok then .suspect
                else s.condition b.tray)) ∧
          t.stu = s.stu ∧ t.bnm = s.bnm ∧ t.tsv = s.tsv ∧ t.gsc = s.gsc ∧ t.tsq = s.tsq ∧ t.jam = s.jam)) ∧
    ((retire s b.tag).ptk.burst = none ∧ ∀ tag, tag ≠ b.tag → (retire s tag).ptk.burst = some b)

/-- CALIBRATE ZERO, with its three checks in order, sets the zero offset to the mean of its four readings. READ SNAPSHOT
answers with the seven snapshot words and unlocks the snapshot. -/
def Obligations.CalibrateZeroAndReadSnapshot : Prop :=
  (∀ (s : State) (r1 r2 r3 r4 : BitVec 10), PortHolds s [] →
    (s.tsv.state ≠ .stopped ∨ (∃ tag, s.sheet tag ≠ none) →
      Answers (.calibrateZero r1 r2 r3 r4) s s .state []) ∧
    (s.tsv.state = .stopped → (∀ tag, s.sheet tag = none) →
      (s.profile.enabled.gauge = false → Answers (.calibrateZero r1 r2 r3 r4) s s .state []) ∧
      (s.profile.enabled.gauge = true → s.covered .reg = true →
        Answers (.calibrateZero r1 r2 r3 r4) s s .covered []) ∧
      (s.profile.enabled.gauge = true → s.covered .reg = false →
        Answers (.calibrateZero r1 r2 r3 r4) s
          { s with
            ptk := { s.ptk with zeroOffset := (r1.toNat + r2.toNat + r3.toNat + r4.toNat) / 4 }
            lines := { s.lines with gauge := r4 } }
          .ok [word r1.toNat, word r2.toNat, word r3.toNat, word r4.toNat,
            word ((r1.toNat + r2.toNat + r3.toNat + r4.toNat) / 4)]))) ∧
  (∀ s : State, PortHolds s [] → Answers .readSnapshot s
    { s with ptk := { s.ptk with snapshot := { s.ptk.snapshot with locked := false } } } .ok s.ptk.snapshot.words)

/-! ## Gates -/

/-- A due THROW leaves the list; the gate is thrown for its sheet, free or passed on, with the clearance count, and its line
asserted; at G1 to G4 the sheet's divert is committed. For a FREE record, or one that belongs to another pair, the request
leaves and the gate stays. In RUNOUT the requests of the run-out records alone are taken, in STOPPED and JAMMED none
(R123). Before its count, and with
no request that the GSC takes, nothing changes (log 2, the model's choice). -/
def Obligations.DueThrowsThrowTheGate : Prop :=
  ∀ (s : State) (g : Gate),
    ((s.tsv.state = .starting ∨ s.tsv.state = .running ∨ s.tsv.state = .draining) → s.gsc.frozen = false →
      ∀ tag, s.gateTakes tag = true) ∧
    (s.tsv.state = .runout → ∀ tag, s.gateTakes tag = true ↔ ∃ r, s.sheet tag = some r ∧ r.runOut = true) ∧
    (s.tsv.state = .stopped ∨ s.tsv.state = .jammed → ∀ tag, s.gateTakes tag = false) ∧
    ((∀ q ∈ (s.gate g).waiting, s.gateTakes q.tag = false) → Runs (.gateThrow g) s s) ∧
    (∀ q, ((s.gate g).waiting.find? fun q => s.gateTakes q.tag) = some q → q.kind = .passage →
      Runs (.gateThrow g) s s) ∧
    (∀ q, ((s.gate g).waiting.find? fun q => s.gateTakes q.tag) = some q → q.kind = .throw →
      (reaches s.now q.count = false → Runs (.gateThrow g) s s) ∧
      (reaches s.now q.count = true →
        ((∀ r, s.sheet q.tag = some r → r.owner ≠ q.owner) → Runs (.gateThrow g) s
          (s.setGate g { s.gate g with waiting := (s.gate g).waiting.erase q })) ∧
        (∀ r, s.sheet q.tag = some r → r.owner = q.owner →
          ∃ t, Runs (.gateThrow g) s t ∧
            t.gate g =
              { hold := some
                  { tag := q.tag
                    clearance := plus (plus (plus q.count (s.limit .throwLead)) r.length)
                      (s.widened (s.limit .clearanceMargin)) }
                waiting := (s.gate g).waiting.erase q } ∧
            t.gsc.lines = s.gsc.lines.set g.idx true ∧ (∀ h, h ≠ g → t.gate h = s.gate h) ∧
            (∀ tag, t.sheet tag = (s.sheet tag).map fun r =>
              if tag = q.tag ∧ g ≠ .d ∧ (r.state = .output ∨ r.state = .stranded) then { r with divert := true }
              else r) ∧
            t.requests.faults = s.requests.faults ∧ t.stu = s.stu ∧ t.bnm = s.bnm ∧ t.tsv = s.tsv ∧ t.ptk = s.ptk ∧
            t.tsq = s.tsq ∧ t.jam = s.jam)))

/-- A due PASSAGE leaves the list, and is a jam GATE CONFLICT where the gate is held past its count; the gate record is
else as it was; in RUNOUT the requests of the run-out records alone are taken. A clearance whose count is reached puts the
gate at rest and withdraws its line; in RUNOUT those of G1 to G4 alone are taken (R123). Before its count, with no request
that the GSC takes, and at a gate at rest, nothing changes (log 2, the model's choice). -/
def Obligations.DuePassagesAndClearances : Prop :=
  ∀ (s : State) (g : Gate),
    ((∀ q ∈ (s.gate g).waiting, s.gateTakes q.tag = false) → Runs (.gatePassage g) s s) ∧
    (∀ q, ((s.gate g).waiting.find? fun q => s.gateTakes q.tag) = some q → q.kind = .throw →
      Runs (.gatePassage g) s s) ∧
    (∀ q, ((s.gate g).waiting.find? fun q => s.gateTakes q.tag) = some q → q.kind = .passage →
      (reaches s.now q.count = false → Runs (.gatePassage g) s s) ∧
      (reaches s.now q.count = true →
        ((s.gate g).hold = none ∨ (∃ h, (s.gate g).hold = some h ∧ isLater h.clearance q.count = false) →
          Runs (.gatePassage g) s (s.setGate g { s.gate g with waiting := (s.gate g).waiting.erase q })) ∧
        (∀ h, (s.gate g).hold = some h → isLater h.clearance q.count = true →
          Runs (.gatePassage g) s ((s.setGate g { s.gate g with waiting := (s.gate g).waiting.erase q }).handFault
            .gateConflict (if g = .d then .fuse else .out) (some q.tag))))) ∧
    ((s.gate g).hold = none → Runs (.gateClearance g) s s) ∧
    (∀ h, (s.gate g).hold = some h →
      (reaches s.now h.clearance = false → Runs (.gateClearance g) s s) ∧
      (reaches s.now h.clearance = true →
        (((s.tsv.state = .starting ∨ s.tsv.state = .running ∨ s.tsv.state = .draining) ∧ s.gsc.frozen = false) ∨
            (s.tsv.state = .runout ∧ g ≠ .d) → Runs (.gateClearance g) s
          { s with gsc := { s.gsc with
            records := s.gsc.records.set g.idx { hold := none, waiting := (s.gate g).waiting }
            lines := s.gsc.lines.set g.idx false } }) ∧
        (s.tsv.state = .stopped ∨ s.tsv.state = .jammed ∨ (s.tsv.state = .runout ∧ g = .d) ∨
            (s.tsv.state ≠ .runout ∧ s.gsc.frozen = true) → Runs (.gateClearance g) s s)))

/-- A reroute request: nothing for target P or a committed divert; otherwise the target becomes P, the reservation moves
to P, a THROW still waiting at its gate becomes a PASSAGE and a PASSAGE joins the list of each gate beyond it, where a
full list is a jam GATE CONFLICT and the gates after it still get theirs (log 37, the model's choice), and a bin entry
moves to BP around its new count, with a widened window where it was widened or the backup base runs. A request for a
tag does so for its record, where the pair is the request's. A request for a pair does so for every live record of the
pair, in ascending tag order, each as the one before it left the part: all their targets, reservations, waiting throws
and bin entries move. The bin entry of a stranded record moves too, while the tracker is frozen, which is the model's
choice (log 42). -/
def Obligations.RerouteTurnsTheSheetToThePurgeBin : Prop :=
  (∀ (s t : State) (tag : Tag) (r : Sheet), t = rerouteOne s tag → s.sheet tag = some r →
    (r.target = .p ∨ r.divert = true → t = s) ∧
    (∀ g, gateOf r.target = some g → r.divert = false →
      t.sheet tag = some { r with target := .p } ∧ (∀ u, u ≠ tag → t.sheet u = s.sheet u) ∧
      t.bin r.target = { s.bin r.target with reserved := (s.bin r.target).reserved - 1 } ∧
      t.bin .p = { s.bin .p with reserved := (s.bin .p).reserved + 1 } ∧
      (∀ b, b ≠ r.target → b ≠ .p → t.bin b = s.bin b) ∧
      (t.gate g).hold = (s.gate g).hold ∧
      (t.gate g).waiting = (s.gate g).waiting.map (fun k =>
        if k.tag = tag ∧ k.kind = .throw then { k with kind := .passage } else k) ∧
      (∀ h, h ∉ gatesBeyond g → h ≠ g → t.gate h = s.gate h) ∧
      (∀ h d, h ∈ gatesBeyond g → r.lastLead = some d →
        (∃ k ∈ (s.gate g).waiting, k.tag = tag ∧ k.kind = .throw) →
        ((s.gate h).waiting.length < 2 → t.gate h = { s.gate h with
          waiting := insertRequest
            { tag := tag
              owner := r.owner
              kind := .passage
              count := minus (plus d (s.offset h)) (s.limit .throwLead) } (s.gate h).waiting }) ∧
        (2 ≤ (s.gate h).waiting.length → t.gate h = s.gate h ∧
          { cause := .gateConflict, sensor := .out, tag := some tag } ∈ t.requests.faults)) ∧
      ((∀ k ∈ (s.gate g).waiting, k.tag = tag → k.kind ≠ .throw) → t.gsc = s.gsc) ∧
      ((∀ x e, e ∈ s.list x → e.tag ≠ tag) → t.ptk = s.ptk) ∧
      (∀ e b, b ≠ .p → s.entryOfTag (entryOf b) tag = some e →
        (∀ d, d ≠ b → d ≠ .p → s.entryOfTag (entryOf d) tag = none) →
        t.list (entryOf b) = (s.list (entryOf b)).erase e ∧
        (4 ≤ (s.list .bp).length → t.list .bp = s.list .bp ∧
          { cause := .trackFull, sensor := .bp, tag := some tag } ∈ t.requests.faults) ∧
        ((s.list .bp).length < 4 → ∃ f, t.list .bp = insertByOpen f (s.list .bp) ∧ f.tag = tag ∧
          f.owner = e.owner ∧ f.widened = (e.widened || s.tsv.backup) ∧
          (∀ d, r.lastLead = some d →
            f.opens = minus (plus d (s.leg .outBp)) (if e.widened ∨ s.tsv.backup then
              s.limit .leadTolerance * s.limit .backupMultiplier else s.limit .leadTolerance) ∧
            f.closes = plus (plus d (s.leg .outBp)) (if e.widened ∨ s.tsv.backup then
              s.limit .leadTolerance * s.limit .backupMultiplier else s.limit .leadTolerance)))) ∧
      t.requests.reroutes = s.requests.reroutes ∧ t.requests.breaks = s.requests.breaks ∧
      t.stu = s.stu ∧ t.adm = s.adm ∧ t.tsv = s.tsv ∧ t.tsq = s.tsq ∧ t.jam = s.jam ∧ t.profile = s.profile)) ∧
  (∀ (s u : State) (q : RerouteRequest) (others : List RerouteRequest), s.requests.reroutes = q :: others →
    u = { s with requests := { s.requests with reroutes := others } } →
    (∀ tag, q.tag = some tag →
      (s.sheet tag = none → Runs .reroute s u) ∧
      (∀ r, s.sheet tag = some r →
        (r.slot ≠ q.slot ∨ r.generation ≠ q.generation → Runs .reroute s u) ∧
        (r.slot = q.slot → r.generation = q.generation → Runs .reroute s (rerouteOne u tag)))) ∧
    (q.tag = none → ∃ t, Runs .reroute s t ∧
      t = (tags.filter fun tag => (s.sheet tag).any fun r => r.slot = q.slot ∧ r.generation = q.generation).foldl
        rerouteOne u ∧
      (∀ tag, t.sheet tag = (s.sheet tag).map fun r =>
        if r.slot = q.slot ∧ r.generation = q.generation ∧ r.divert = false then { r with target := .p } else r) ∧
      (∀ b, b ≠ .p → t.bin b = { s.bin b with reserved := (s.bin b).reserved -
        (tags.filter fun tag => (s.sheet tag).any fun r => r.slot = q.slot ∧ r.generation = q.generation ∧
          r.divert = false ∧ r.target = b).length }) ∧
      t.bin .p = { s.bin .p with reserved := (s.bin .p).reserved +
        (tags.filter fun tag => (s.sheet tag).any fun r => r.slot = q.slot ∧ r.generation = q.generation ∧
          r.divert = false ∧ r.target ≠ .p).length } ∧
      (∀ tag r g, s.sheet tag = some r → r.slot = q.slot → r.generation = q.generation → r.divert = false →
        gateOf r.target = some g →
        (∀ k ∈ (t.gate g).waiting, k.tag = tag → k.kind = .passage) ∧
        (∀ k ∈ (s.gate g).waiting, k.tag = tag → { k with kind := .passage } ∈ (t.gate g).waiting) ∧
        (∀ h d, h ∈ gatesBeyond g → r.lastLead = some d →
          (∃ k ∈ (s.gate g).waiting, k.tag = tag ∧ k.kind = .throw) →
          { tag := tag
            owner := r.owner
            kind := .passage
            count := minus (plus d (s.offset h)) (s.limit .throwLead) } ∈ (t.gate h).waiting ∨
          { cause := .gateConflict, sensor := .out, tag := some tag } ∈ t.requests.faults) ∧
        (∀ e b d wide tolerance, b ≠ .p → (s.list (entryOf b)).filter (fun f => f.tag = tag) = [e] →
          (∀ c, c ≠ b → c ≠ .p → s.entryOfTag (entryOf c) tag = none) → r.lastLead = some d →
          wide = (e.widened || s.tsv.backup) →
          tolerance = (if wide then s.limit .leadTolerance * s.limit .backupMultiplier else s.limit .leadTolerance) →
          (∀ f ∈ t.list (entryOf b), f.tag ≠ tag) ∧
          ({ e with
              opens := minus (plus d (s.leg .outBp)) tolerance
              closes := plus (plus d (s.leg .outBp)) tolerance
              widened := wide } ∈ t.list .bp ∨
            { cause := .trackFull, sensor := .bp, tag := some tag } ∈ t.requests.faults))) ∧
      (∀ g, (t.gate g).hold = (s.gate g).hold) ∧
      (∀ tag, (∀ r, s.sheet tag = some r → r.slot ≠ q.slot ∨ r.generation ≠ q.generation) →
        (∀ g, (t.gate g).waiting.filter (fun k => k.tag = tag) = (s.gate g).waiting.filter fun k => k.tag = tag) ∧
        (∀ x, (t.list x).filter (fun e => e.tag = tag) = (s.list x).filter fun e => e.tag = tag)) ∧
      t.requests.reroutes = others ∧ t.stu = s.stu ∧ t.tsv = s.tsv ∧ t.tsq = s.tsq ∧ t.jam = s.jam))

/-! ## Bins -/

/-- BIN ACCEPT, with its four checks in order, the record it leaves and its notice (R141). -/
def Obligations.BinAcceptMakesTheBinReady : Prop :=
  ∀ (s : State) (bw nw : Word), PortHolds s [bw, nw] →
    (4 < bw.toNat → Answers .binAccept s s .badArgument []) ∧
    (∀ b : Bin, binCode b = bw →
      (s.capacity b < nw.toNat → Answers .binAccept s s .badArgument []) ∧
      (nw.toNat ≤ s.capacity b → (s.bin b).state ≠ .check → Answers .binAccept s s .state []) ∧
      (nw.toNat ≤ s.capacity b → (s.bin b).state = .check → (s.bin b).reserved ≠ 0 →
        Answers .binAccept s s .wait []) ∧
      (nw.toNat ≤ s.capacity b → (s.bin b).state = .check → (s.bin b).reserved = 0 → b = .p →
        s.capacity b - nw.toNat < (tags.filter fun t => (s.sheet t).isSome).length →
        Answers .binAccept s s .limit []) ∧
      (nw.toNat ≤ s.capacity b → (s.bin b).state = .check → (s.bin b).reserved = 0 →
        (b = .p → (tags.filter fun t => (s.sheet t).isSome).length ≤ s.capacity b - nw.toNat) →
        ∃ t, Runs .binAccept s t ∧
          t.bin b = { s.bin b with
            fill := nw.toNat
            spoil := []
            last := none
            state := if nw.toNat = s.capacity b then .full else .ready } ∧
          (∀ d, d ≠ b → t.bin d = s.bin d) ∧
          (s.cpt.notices.length < 32 → t.cpt.notices = s.cpt.notices ++
            [.bin b (if nw.toNat = s.capacity b then .full else .ready) nw.toNat]) ∧
          t.cpt.result = [0x0200, if nw.toNat = s.capacity b then 1 else 0] ∧
          t.stu = s.stu ∧ t.sheets = s.sheets ∧ t.adm = s.adm ∧ t.tsq = s.tsq ∧ t.ptk = s.ptk ∧ t.gsc = s.gsc ∧
          t.jam = s.jam ∧ t.tsv = s.tsv ∧ t.profile = s.profile ∧ t.requests = s.requests ∧ t.lines = s.lines))

/-- BIN ROLE, with its checks in order: to OFF the bin is OFF and keeps its other fields; from OFF it is DOOR OPEN or
CHECK as its door shows; between STANDARD and OVERSIZE it keeps its state. -/
def Obligations.BinRoleSetsTheRoleThenTheState : Prop :=
  ∀ (s : State) (bw rw : Word), PortHolds s [bw, rw] →
    (s.tsv.state ≠ .stopped ∨ (∃ tag, s.sheet tag ≠ none) → Answers .binRole s s .state []) ∧
    (s.tsv.state = .stopped → (∀ tag, s.sheet tag = none) →
      (3 < bw.toNat ∨ 2 < rw.toNat → Answers .binRole s s .badArgument []) ∧
      (∀ (b : Bin) (role : BinRole), b ≠ .p → role ≠ .purge → binCode b = bw → role.code = rw →
        (b = .b3 ∨ b = .b4 → s.profile.enabled.fourBins = false → Answers .binRole s s .state []) ∧
        ((b = .b3 ∨ b = .b4 → s.profile.enabled.fourBins = true) → role = .off → (s.bin b).stacking ≠ [] →
          Answers .binRole s s .state []) ∧
        ((b = .b3 ∨ b = .b4 → s.profile.enabled.fourBins = true) → (role = .off → (s.bin b).stacking = []) →
          Answers .binRole s
            (s.setBin b { s.bin b with
              role := role
              state := if role = .off then .off
                else if (s.bin b).role ≠ .off then (s.bin b).state
                else if s.lines.doors[b.idx] then .doorOpen else .check })
            .ok [])))

/-- The opening of a bin's door makes a bin that is not OFF DOOR OPEN, with its notice; a stacker's statements are broken
in list order; P's door begins a drain in RUNNING. The closing reads the empty line: an empty bin is READY with fill 0, no
range, the jog LEFT and no last statement; another becomes CHECK. A bin that is OFF, or not DOOR OPEN at the close,
changes nothing but its lines; a door that stands open does not open again (log 2, the model's choice). An opening that may
fall within a grant decision opens the door by itself where no decision claims the bin (log 44, the model's choice). -/
def Obligations.DoorsOpenAndClose : Prop :=
  (∀ (s : State) (b : Bin) (meets : Bool), s.lines.doors[b.idx] = true → Runs (.binDoorOpened ⟨b, meets⟩) s s) ∧
  (∀ (s : State) (b : Bin) (meets : Bool), s.lines.doors[b.idx] = false → (meets = true → grantClaim s ≠ some b) →
    ((s.bin b).state = .off ∨ (s.bin b).state = .doorOpen →
      Runs (.binDoorOpened ⟨b, meets⟩) s { s with lines := { s.lines with doors := s.lines.doors.set b.idx true } }) ∧
    ((s.bin b).state ≠ .off → (s.bin b).state ≠ .doorOpen →
      ∃ t, Runs (.binDoorOpened ⟨b, meets⟩) s t ∧ t.lines = { s.lines with doors := s.lines.doors.set b.idx true } ∧
        t.bin b = { s.bin b with state := .doorOpen } ∧ (∀ d, d ≠ b → t.bin d = s.bin d) ∧
        (s.cpt.notices.length < 31 →
          t.cpt.notices = s.cpt.notices ++ .bin b .doorOpen (s.bin b).fill ::
            (if b = .p ∧ s.tsv.state = .running then [.transport .draining .purgeDoor .none_] else [])) ∧
        (b ≠ .p → t.requests.breaks = s.requests.breaks ++ (s.bin b).stacking.map (fun o =>
            { slot := o.slot, generation := o.generation, cause := .binOpened
              opening := some (s.openingOf o.slot) })) ∧
        (b = .p → t.requests.breaks = s.requests.breaks) ∧
        t.tsv = (if b = .p ∧ s.tsv.state = .running then
          { s.tsv with state := .draining, cause := some .purgeDoor } else s.tsv) ∧
        t.stu = s.stu ∧ t.sheets = s.sheets ∧ t.gsc = s.gsc ∧ t.ptk = s.ptk ∧ t.tsq = s.tsq ∧ t.jam = s.jam ∧
        t.profile = s.profile)) ∧
  (∀ (s u : State) (b : Bin) (emptyActive : Bool), s.lines.doors[b.idx] = true →
    u = { s with lines := { s.lines with
      doors := s.lines.doors.set b.idx false, empties := s.lines.empties.set b.idx emptyActive } } →
    ((s.bin b).state ≠ .doorOpen → Runs (.binDoorClosed b emptyActive) s u) ∧
    ((s.bin b).state = .doorOpen → emptyActive = true → Runs (.binDoorClosed b emptyActive) s
      ((u.setBin b { s.bin b with state := .ready, fill := 0, spoil := [], jogRight := false, last := none }).notify
        (.bin b .doorClosed 0))) ∧
    ((s.bin b).state = .doorOpen → emptyActive = false → Runs (.binDoorClosed b emptyActive) s
      ((u.setBin b { s.bin b with state := .check }).notify (.bin b .check (s.bin b).fill))))

/-- An opening request extends the OPEN range of its statement, which is put back at its place (log 32, DEDUCED), or
inserts one in ascending order of first position, and the bin is FENCED at a fence count of 4; after an empty close of
the bin it does the same, which is the model's choice (log 38). A closing request makes the OPEN range CLOSED and
removes the entry of the pair from the stacking list; where it finds no such entry it still closes the range, which is
the model's choice (log 43). -/
def Obligations.SpoilRangesOpenAndClose : Prop :=
  (∀ (s : State) (b : Bin) (ident : Ident) (first last : Nat) (rest : List BinRequest),
    s.requests.bins = .opening b ident first last :: rest →
    (∀ g, openRange (s.bin b) ident = some g → Runs .spoilRangeOpening s
      (({ s with requests := { s.requests with bins := rest } }).setBin b { s.bin b with
        spoil := insertRange { g with first := min g.first first, last := max g.last last }
          ((s.bin b).spoil.filter fun h => decide ¬(h.isOpen = true ∧ h.ident = ident)) })) ∧
    (openRange (s.bin b) ident = none →
      ∃ t, Runs .spoilRangeOpening s t ∧
        (t.bin b).spoil = insertRange { first, last, ident, isOpen := true } (s.bin b).spoil ∧
        ((s.bin b).state ≠ .ready → (t.bin b).state = (s.bin b).state) ∧
        ((s.bin b).state = .ready → ((t.bin b).state = .fenced ↔ 4 ≤ fenceCount t b) ∧
          ((t.bin b).state = .fenced ∨ (t.bin b).state = .ready)) ∧
        (t.bin b).fill = (s.bin b).fill ∧ (t.bin b).reserved = (s.bin b).reserved ∧
        (t.bin b).stacking = (s.bin b).stacking ∧ (∀ d, d ≠ b → t.bin d = s.bin d) ∧
        t.requests.bins = rest ∧ t.stu = s.stu ∧ t.sheets = s.sheets ∧ t.tsv = s.tsv)) ∧
  (∀ (s : State) (b : Bin) (slot : Slot) (generation : Nat) (ident : Ident) (rest : List BinRequest),
    s.requests.bins = .closing b slot generation ident :: rest → Runs .closingRequest s
      (({ s with requests := { s.requests with bins := rest } }).setBin b { s.bin b with
        spoil := (s.bin b).spoil.map fun (g : SpoilRange) =>
          if g.isOpen = true ∧ g.ident = ident then { g with isOpen := false } else g
        stacking := (s.bin b).stacking.filter fun o => decide ¬(o.slot = slot ∧ o.generation = generation) }))

/-! ## Jams -/

/-- A fault of the output section declared in STOPPED, STARTING, RUNNING or DRAINING: the jam record, the snapshot, both
notices, both run lines withdrawn, the blocks told, every live record STRANDED, JAMMED, and the hold policy on the gates. A
retirement claim that waited meets its record STRANDED: it is dropped, and its tag is listed as delivered (R36, R152; log
41, the model's choice). -/
def Obligations.OutputFaultsStopThePath : Prop :=
  ∀ (s : State) (place : Nat) (f : PathFault), s.requests.faults[place]? = some f →
    f.sensor ∈ [Sensor.out, .b1, .b2, .b3, .b4, .bp] → s.tsv.state ≠ .runout → s.tsv.state ≠ .jammed →
    ∃ t, Runs (.jam place) s t ∧ t.requests.faults = s.requests.faults.eraseIdx place ∧
      t.jam =
        { cause := some f.cause
          sensor := f.sensor
          tag := f.tag
          section_ := .output
          count := s.now
          runOutCount := 0
          further := 0
          delivered := [] } ∧
      t.tsv = { s.tsv with
        state := .jammed
        cause := some .jam
        mainRun := false
        outputRun := false
        startCount := none
        span := none
        silenceWatch := false } ∧
      (∀ tag, t.sheet tag = (s.sheet tag).map fun r => { r with state := .stranded, runOut := false }) ∧
      t.ptk.snapshot = (if s.ptk.snapshot.locked then { s.ptk.snapshot with second := true } else
        { levels := s.ptk.debounced
          count := s.now
          cause := some f.cause
          sensor := f.sensor
          tag := f.tag
          second := false
          locked := true }) ∧
      t.ptk.burst = none ∧ t.ptk.park = none ∧ t.ptk.lists = s.ptk.lists ∧
      (∀ x, t.covered x = if s.debouncing x = none then s.covered x else !s.covered x) ∧
      t.adm.pickLines = Vector.replicate 3 false ∧ t.adm.releaseLine = false ∧ t.adm.pick = s.adm.pick ∧
      t.tsq = { s.tsq with transferEnable := false, halted := true } ∧
      t.gsc.records = s.gsc.records ∧
      t.gsc.lines = (if s.limit .holdPolicy = 1 then Vector.replicate 5 false else s.gsc.lines) ∧
      (s.cpt.notices.length < 31 → t.cpt.notices = s.cpt.notices ++
        [.jam f.cause f.sensor f.tag .output s.now false, .transport .jammed .jam .none_]) ∧
      t.stu = s.stu ∧ t.bnm = s.bnm ∧ t.profile = s.profile ∧
      (∀ v, exec (.jam place) s = .next v → ∀ q ∈ s.requests.retires, ∀ r, s.sheet q.tag = some r →
        r.owner = q.owner → v.sheet q.tag = some { r with state := .stranded, runOut := false } ∧
          q.tag ∈ v.jam.delivered)

/-- A fault of the main section declared in STOPPED, STARTING, RUNNING or DRAINING: the main run line alone is withdrawn;
the sheets wholly past OUT are marked run-out, the others are STRANDED; with sheets to run out the transport is in RUNOUT
with their number as run-out count, with none it goes on to JAMMED at once. The snapshot is latched as the declaration
finds the sensors (R109), and under the policy REST gate D's line is withdrawn at once, those of G1 to G4 at the end of the
run-out (R124). A retirement claim that waited is taken after the declaration (log 41, the model's choice): it retires a
run-out record, and one less is to run out. -/
def Obligations.MainFaultsRunOutTheOutput : Prop :=
  ∀ (s : State) (place : Nat) (f : PathFault) (n : Nat), s.requests.faults[place]? = some f →
    f.sensor ∉ [Sensor.out, .b1, .b2, .b3, .b4, .bp] → s.tsv.state ≠ .runout → s.tsv.state ≠ .jammed →
    n = (tags.filter fun tag => (s.sheet tag).any Sheet.clearOfOut).length →
    ∃ t, Runs (.jam place) s t ∧ t.requests.faults = s.requests.faults.eraseIdx place ∧
      t.jam =
        { cause := some f.cause
          sensor := f.sensor
          tag := f.tag
          section_ := .main
          count := s.now
          runOutCount := n
          further := 0
          delivered := [] } ∧
      (∀ tag, t.sheet tag = (s.sheet tag).map fun r =>
        if r.clearOfOut then { r with runOut := true } else { r with state := .stranded, runOut := false }) ∧
      t.tsv.mainRun = false ∧ t.tsv.startCount = none ∧ t.tsv.pathCount = s.tsv.pathCount ∧
      (n ≠ 0 → t.tsv.state = .runout ∧ t.tsv.cause = some .jam ∧ t.tsv.outputRun = s.tsv.outputRun) ∧
      (n = 0 → t.tsv.state = .jammed ∧ t.tsv.cause = some .runoutComplete ∧ t.tsv.outputRun = false) ∧
      t.ptk.burst = none ∧ t.ptk.park = none ∧ t.ptk.lists = s.ptk.lists ∧
      t.adm.pickLines = Vector.replicate 3 false ∧ t.adm.releaseLine = false ∧ t.adm.pick = s.adm.pick ∧
      t.tsq = { s.tsq with transferEnable := false, halted := true } ∧ t.gsc.records = s.gsc.records ∧
      t.ptk.snapshot = (if s.ptk.snapshot.locked then { s.ptk.snapshot with second := true } else
        { levels := s.ptk.debounced
          count := s.now
          cause := some f.cause
          sensor := f.sensor
          tag := f.tag
          second := false
          locked := true }) ∧
      (∀ g : Gate, t.gsc.lines[g.idx] =
        if s.limit .holdPolicy = 1 ∧ (g = .d ∨ n = 0) then false else s.gsc.lines[g.idx]) ∧
      (s.cpt.notices.length < 30 → t.cpt.notices = s.cpt.notices ++
        ([.jam f.cause f.sensor f.tag .main s.now false, .transport .runout .jam .none_] ++
          if n = 0 then [.transport .jammed .runoutComplete .none_] else [])) ∧
      t.stu = s.stu ∧ t.bnm = s.bnm ∧ t.profile = s.profile ∧
      (∀ v, exec (.jam place) s = .next v → ∀ q ∈ s.requests.retires, ∀ r, s.sheet q.tag = some r →
        r.owner = q.owner →
        (r.clearOfOut = true → v.sheet q.tag = none ∧ (s.requests.retires = [q] → v.jam.runOutCount = n - 1)) ∧
        (r.clearOfOut = false → v.sheet q.tag = some { r with state := .stranded, runOut := false } ∧
          q.tag ∈ v.jam.delivered))

/-- A second fault ends RUNOUT in JAMMED: further faults plus 1, the latch and the JAM notice of the kind SECOND FAULT, the
output run line withdrawn, the run-out records STRANDED, the run-out count 0, the hold policy on G1 to G4. A retirement
claim that waited meets its run-out record STRANDED: it is dropped, and its tag is listed as delivered (R152, R154; log 41,
the model's choice). With the run-out count at 0, RUNOUT ends in
JAMMED with the cause RUNOUT COMPLETE; outside RUNOUT or with a count above 0 RUNOUT_COMPLETE changes nothing (log 2, the
model's choice). -/
def Obligations.RunoutEndsInJammed : Prop :=
  (∀ (s : State) (place : Nat) (f : PathFault), s.requests.faults[place]? = some f → s.tsv.state = .runout →
    ∃ t, Runs (.jam place) s t ∧ t.requests.faults = s.requests.faults.eraseIdx place ∧
      t.jam = { s.jam with further := min (s.jam.further + 1) 255, runOutCount := 0 } ∧
      t.tsv = { s.tsv with
        state := .jammed
        cause := some .secondFault
        mainRun := false
        outputRun := false
        span := none
        silenceWatch := false } ∧
      (∀ tag, t.sheet tag = (s.sheet tag).map fun r =>
        if r.state = .output ∧ r.runOut = true then { r with state := .stranded, runOut := false } else r) ∧
      t.ptk.snapshot.second = true ∧ t.ptk.snapshot.locked = true ∧
      (s.ptk.snapshot.locked = true → t.ptk.snapshot = { s.ptk.snapshot with second := true }) ∧
      (s.cpt.notices.length < 31 → t.cpt.notices = s.cpt.notices ++
        [.jam f.cause f.sensor f.tag
          (if f.sensor ∈ [Sensor.out, .b1, .b2, .b3, .b4, .bp] then .output else .main) s.now true,
          .transport .jammed .secondFault .none_]) ∧
      t.gsc.records = s.gsc.records ∧
      (∀ g : Gate, t.gsc.lines[g.idx] = if s.limit .holdPolicy = 1 ∧ g ≠ .d then false else s.gsc.lines[g.idx]) ∧
      t.stu = s.stu ∧ t.bnm = s.bnm ∧ t.tsq = s.tsq ∧ t.profile = s.profile ∧
      (∀ v, exec (.jam place) s = .next v → ∀ q ∈ s.requests.retires, ∀ r, s.sheet q.tag = some r →
        r.owner = q.owner → r.state = .output → r.runOut = true →
        v.sheet q.tag = some { r with state := .stranded, runOut := false } ∧ q.tag ∈ v.jam.delivered)) ∧
  (∀ s : State,
    (s.tsv.state = .runout → s.jam.runOutCount = 0 →
      ∃ t, Runs .runoutComplete s t ∧
        t.tsv = { s.tsv with
          state := .jammed
          cause := some .runoutComplete
          mainRun := false
          outputRun := false
          span := none
          silenceWatch := false } ∧
        t.gsc.lines = (if s.limit .holdPolicy = 1 then
          Vector.ofFn fun i : Fin 5 => if i = 0 then s.gsc.lines[i] else false else s.gsc.lines) ∧
        (s.cpt.notices.length < 32 → t.cpt.notices = s.cpt.notices ++
          [.transport .jammed .runoutComplete .none_]) ∧
        t.sheets = s.sheets ∧ t.jam = s.jam ∧ t.stu = s.stu ∧ t.bnm = s.bnm) ∧
    (s.tsv.state ≠ .runout ∨ s.jam.runOutCount ≠ 0 → Runs .runoutComplete s s))

/-- A fault taken in JAMMED: further faults plus 1 (stopping at 255), the latch marked as a second fault, the JAM notice of
the kind SECOND FAULT, and nothing else (R155). -/
def Obligations.FurtherFaultsAreCounted : Prop :=
  ∀ (s : State) (place : Nat) (f : PathFault), s.requests.faults[place]? = some f → s.tsv.state = .jammed →
    ∃ t, Runs (.jam place) s t ∧ t.requests = { s.requests with faults := s.requests.faults.eraseIdx place } ∧
      t.jam = { s.jam with further := min (s.jam.further + 1) 255 } ∧
      t.ptk = { s.ptk with snapshot :=
        if s.ptk.snapshot.locked then { s.ptk.snapshot with second := true } else
          { levels := s.ptk.debounced
            count := s.now
            cause := some f.cause
            sensor := f.sensor
            tag := f.tag
            second := true
            locked := true } } ∧
      (s.cpt.notices.length < 32 → t.cpt.notices = s.cpt.notices ++
        [.jam f.cause f.sensor f.tag
          (if f.sensor ∈ [Sensor.out, .b1, .b2, .b3, .b4, .bp] then .output else .main) s.now true]) ∧
      t.tsv = s.tsv ∧ t.sheets = s.sheets ∧ t.stu = s.stu ∧ t.bnm = s.bnm ∧ t.gsc = s.gsc ∧ t.tsq = s.tsq ∧
      t.adm = s.adm ∧ t.profile = s.profile

/-- CLEAR JAM, refused STATE outside JAMMED and COVERED while a debounced level is COVERED. Accepted, it retires every
STRANDED record; a statement with lost sheets is broken with cause JAM and has them less in flight; the pitches, gates,
lists, windows and the pick are cleared, and the transport is STOPPED. -/
def Obligations.ClearJamResolvesTheStranded : Prop :=
  ∀ s : State, PortHolds s [] →
    (s.tsv.state ≠ .jammed → Answers .clearJam s s .state []) ∧
    (s.tsv.state = .jammed → (∃ x, s.covered x = true) → Answers .clearJam s s .covered []) ∧
    (s.tsv.state = .jammed → (∀ x, s.covered x = false) →
      ∃ t, Runs .clearJam s t ∧ t.cpt.result = [0x0100] ∧
        (∀ tag r, s.sheet tag = some r → r.state = .stranded → t.sheet tag = none) ∧
        (∀ slot, t.statement slot = (s.statement slot).map fun st =>
          if (tags.filter fun tag => (s.sheet tag).any fun r => r.state = .stranded ∧ tag ∉ s.jam.delivered ∧
              r.slot = slot ∧ r.generation = st.generation) = [] then st
          else { st with
            state := if st.state.ended then st.state else if st.generation < 3 then .broken else .abandoned
            cause := if st.state.ended then st.cause else some .jam
            inFlight := st.inFlight - (tags.filter fun tag => (s.sheet tag).any fun r =>
              r.state = .stranded ∧ tag ∉ s.jam.delivered ∧ r.slot = slot ∧ r.generation = st.generation).length }) ∧
        (∀ b, (t.bin b).reserved = (s.bin b).reserved - (tags.filter fun tag => (s.sheet tag).any fun r =>
          r.state = .stranded ∧ tag ∉ s.jam.delivered ∧ r.target = b).length ∧ (t.bin b).fill = (s.bin b).fill) ∧
        t.tsq = { s.tsq with pitches := [], transferEnable := false, halted := false } ∧
        (∀ g, t.gate g = { hold := none, waiting := [] }) ∧ t.gsc.lines = Vector.replicate 5 false ∧
        t.gsc.frozen = false ∧ (∀ x, t.list x = []) ∧ t.ptk.release = none ∧ t.ptk.park = none ∧
        t.ptk.burst = none ∧ t.ptk.frozen = false ∧ t.adm.pick = none ∧ t.adm.previous = none ∧
        t.jam = { s.jam with runOutCount := 0, delivered := [] } ∧
        t.tsv = { s.tsv with state := .stopped, cause := some .clearJam } ∧ t.profile = s.profile)

/-! ## Transport -/

/-- START, with its checks in order, asserts both run lines, takes the start count and enters STARTING. -/
def Obligations.StartRunsTheTransport : Prop :=
  ∀ s : State, PortHolds s [] →
    (s.tsv.state ≠ .stopped → Answers .start s s .state []) ∧
    (s.tsv.state = .stopped → s.lines.supplyWarning = true → Answers .start s s .wait []) ∧
    (s.tsv.state = .stopped → s.lines.supplyWarning = false → s.tsv.encoderLost = true → s.tsv.pulseSince = false →
      Answers .start s s .state []) ∧
    (s.tsv.state = .stopped → s.lines.supplyWarning = false → (s.tsv.encoderLost = false ∨ s.tsv.pulseSince = true) →
      Answers .start s
        (({ s with tsv := { s.tsv with
            state := .starting
            cause := some .start
            backup := false
            startCount := some s.now
            mainRun := true
            outputRun := true
            span := none
            silenceWatch := false } }).notify (.transport .starting .start .none_))
        .ok [])

/-- STOP by transport state (R166): in STARTING both run lines are withdrawn and the transport is STOPPED; in RUNNING a
drain begins with the cause STOP; in STOPPED and DRAINING it is answered OK; in RUNOUT and JAMMED STATE. -/
def Obligations.StopActsByTheTransportState : Prop :=
  ∀ s : State, PortHolds s [] →
    (s.tsv.state = .stopped ∨ s.tsv.state = .draining → Answers .stop s s .ok []) ∧
    (s.tsv.state = .runout ∨ s.tsv.state = .jammed → Answers .stop s s .state []) ∧
    (s.tsv.state = .running → Answers .stop s
      (({ s with tsv := { s.tsv with state := .draining, cause := some .stop } }).notify
        (.transport .draining .stop .none_)) .ok []) ∧
    (s.tsv.state = .starting →
      ∃ t, Runs .stop s t ∧
        t.tsv = { s.tsv with
          state := .stopped
          cause := some .stop
          mainRun := false
          outputRun := false
          startCount := none
          span := none
          silenceWatch := false } ∧
        (s.cpt.notices.length < 32 →
          t.cpt.notices = s.cpt.notices ++ [.transport .stopped .stop .none_]) ∧
        t.cpt.result = [0x0100] ∧ t.sheets = s.sheets ∧ t.stu = s.stu ∧ t.bnm = s.bnm ∧ t.gsc = s.gsc)

/-- An encoder pulse adds 1 to the path count while a run line is asserted on the encoder base, and is counted into the
measurement span; the 500th count writes the measured rate and begins the next span, and in STARTING a rate in the start
band takes the transport to RUNNING. A pulse after ENCODER LOST marks it. The time of a pulse in nanoseconds and the rate
written for a span outside 1 to 65535 are the model's (logs 9 and 10). -/
def Obligations.EncoderPulsesCountAndMeasure : Prop :=
  ∀ (s : State) (elapsed : Nat) (v : Transport),
    v = (if s.tsv.encoderLost then { s.tsv with pulseSince := true } else s.tsv) →
    ((s.tsv.mainRun = false ∧ s.tsv.outputRun = false) ∨ s.tsv.backup = true →
      Runs (.encoderPulse elapsed) s { s with tsv := v }) ∧
    (s.tsv.mainRun = true ∨ s.tsv.outputRun = true → s.tsv.backup = false →
      (s.tsv.span = none → Runs (.encoderPulse elapsed) s { s with tsv := { v with
        pathCount := s.tsv.pathCount + 1, silenceWatch := true, span := some { counts := 1, time := 0 } } }) ∧
      (∀ p, s.tsv.span = some p → p.counts < 499 → Runs (.encoderPulse elapsed) s { s with tsv := { v with
        pathCount := s.tsv.pathCount + 1
        silenceWatch := true
        span := some { counts := p.counts + 1, time := p.time + elapsed } } }) ∧
      (∀ p, s.tsv.span = some p → 499 ≤ p.counts →
        ∃ t rate, Runs (.encoderPulse elapsed) s t ∧ t.tsv.pathCount = s.tsv.pathCount + 1 ∧
          t.tsv.rate = some rate ∧ 1 ≤ rate ∧ rate ≤ 65535 ∧
          (1 ≤ 500000000000 / (p.time + elapsed) → 500000000000 / (p.time + elapsed) ≤ 65535 →
            rate = 500000000000 / (p.time + elapsed)) ∧
          t.tsv.span = some { counts := 0, time := 0 } ∧ t.tsv.mainRun = s.tsv.mainRun ∧
          t.tsv.outputRun = s.tsv.outputRun ∧
          (s.tsv.state = .starting → 3800 ≤ 500000000000 / (p.time + elapsed) →
            500000000000 / (p.time + elapsed) ≤ 4200 →
            t.tsv.state = .running ∧ t.tsv.cause = some .startComplete ∧ t.tsv.startCount = none ∧
            t.tsv.encoderLost = false ∧
            (s.cpt.notices.length < 32 → t.cpt.notices = s.cpt.notices ++
              [.transport .running .startComplete .none_])) ∧
          (s.tsv.state ≠ .starting ∨ 500000000000 / (p.time + elapsed) < 3800 ∨
              4200 < 500000000000 / (p.time + elapsed) →
            t.tsv.state = s.tsv.state ∧ t.tsv.cause = s.tsv.cause ∧ t.tsv.encoderLost = s.tsv.encoderLost) ∧
          t.sheets = s.sheets ∧ t.stu = s.stu ∧ t.bnm = s.bnm ∧ t.ptk = s.ptk ∧ t.gsc = s.gsc ∧ t.tsq = s.tsq))

/-- Encoder silence, where it is watched: in STARTING the start fails with reason ENCODER; in RUNNING, DRAINING and
RUNOUT the backup base takes over, with the deadlines earlier, every window wider and the catch-up counts added; the
windows and deadlines that are reached by then expire before the notice, several at one count in an order of the model's
(logs 21 and 36), and ahead of every step of a row of its own, as a park (log 21, the model's choice); and RUNNING
drains. In RUNOUT the windows of the stranded sheets' list entries and the release window are widened too (log 45, the
model's choice), and the deadlines are moved too, with no expiry (log 46, the model's choice). A tick of the backup base
adds 1 to the path count while the path runs on it. Silence where it is not watched, and a tick off the backup base,
change nothing (log 2, the model's choice). -/
def Obligations.EncoderSilenceStartsTheBackupBase : Prop :=
  (∀ s : State, s.tsv.silenceWatch = true → s.runs = true → s.tsv.backup = false →
    (s.tsv.state = .starting →
      ∃ t, Runs .encoderSilence s t ∧
        t.tsv = { s.tsv with
          state := .stopped
          cause := some .startFailed
          mainRun := false
          outputRun := false
          startCount := none
          encoderLost := true
          pulseSince := false
          span := none
          silenceWatch := false } ∧
        (s.cpt.notices.length < 32 →
          t.cpt.notices = s.cpt.notices ++ [.transport .stopped .startFailed .encoder])) ∧
    (s.tsv.state = .running ∨ s.tsv.state = .draining ∨ s.tsv.state = .runout →
      ∀ now, now = plus s.tsv.pathCount s.catchUp →
      ∃ t, Runs .encoderSilence s t ∧
        t.tsv.state = (if s.tsv.state = .runout then .runout else .draining) ∧
        t.tsv.cause = some .encoderLost ∧ t.tsv.encoderLost = true ∧ t.tsv.pulseSince = false ∧
        t.tsv.backup = true ∧ t.tsv.mainRun = s.tsv.mainRun ∧ t.tsv.outputRun = s.tsv.outputRun ∧
        t.tsv.pathCount = now ∧ (∀ rate, s.tsv.rate = some rate → s.catchUp = rate * 25 / 1000) ∧
        (t.cpt.notices.length < 32 → t.cpt.notices.getLast? =
          some (.transport (if s.tsv.state = .runout then .runout else .draining) .encoderLost .none_)) ∧
        (∀ x l, l = (s.list x).map (fun e => if e.widened then e else
            { e with
              opens := minus e.opens
                (s.limit (if x ∈ [Sensor.f1, .f2, .f3] then .pickTolerance else .leadTolerance) *
                  (s.limit .backupMultiplier - 1))
              closes := plus e.closes
                (s.limit (if x ∈ [Sensor.f1, .f2, .f3] then .pickTolerance else .leadTolerance) *
                  (s.limit .backupMultiplier - 1))
              widened := true }) →
          (t.list x).Sublist l ∧
          ((∀ e ∈ l, reaches now e.closes = false) ∨ s.debouncing x ≠ none → t.list x = l) ∧
          (s.tracking = true → s.debouncing x = none → ∀ e ∈ l, reaches now e.closes = true → e ∉ t.list x ∧
            (x ∉ [Sensor.f1, .f2, .f3] → { cause := .late, sensor := x, tag := some e.tag } ∈ t.requests.faults))) ∧
        (∀ tag r w, s.sheet tag = some r → r.state ∈ [SheetState.main, .loop, .output] → r.trail = some w →
          ∃ q v, t.sheet tag = some q ∧ q.trail = some v ∧ q.state = r.state ∧ v.sensor = w.sensor ∧
            v.widened = true ∧
            v.opens = (if w.widened then w.opens else
              minus w.opens (s.limit .trailTolerance * (s.limit .backupMultiplier - 1))) ∧
            v.closes = (if w.widened then w.closes else
              plus w.closes (s.limit .trailTolerance * (s.limit .backupMultiplier - 1))) ∧
            (v.expired = true ↔ w.expired = true ∨
              (s.tracks tag = true ∧ s.debouncing w.sensor = none ∧ reaches now v.closes = true)) ∧
            (w.expired = false → v.expired = true →
              { cause := if w.sensor ∈ [Sensor.f1, .f2, .f3] then .overlap else .stall
                sensor := w.sensor
                tag := some tag } ∈ t.requests.faults)) ∧
        (s.ptk.release = none → t.ptk.release = none) ∧
        (∀ w, s.ptk.release = some w → ∃ v, t.ptk.release = some v ∧ v.tag = w.tag ∧ v.widened = true ∧
          v.opens = (if w.widened then w.opens else
            minus w.opens (s.limit .trailTolerance * (s.limit .backupMultiplier - 1))) ∧
          v.closes = (if w.widened then w.closes else
            plus w.closes (s.limit .trailTolerance * (s.limit .backupMultiplier - 1))) ∧
          (v.expired = true ↔ w.expired = true ∨
            (s.tracking = true ∧ s.debouncing .dup2 = none ∧ reaches now v.closes = true))) ∧
        (∀ tag p d, s.pitchOf tag = some p →
          d = minus p.deadline (s.limit .sideReadyMargin * (s.limit .backupMultiplier - 1)) →
          (∀ r, s.sheet tag = some r → r.state ≠ .picking) →
          (p.state ≠ .called → t.pitchOf tag = some p) ∧
          (p.state = .called →
            (s.tsq.halted = true ∨ (reaches s.now d = false ∧ reaches now d = false) →
              t.pitchOf tag = some { p with deadline := d }) ∧
            (s.tsq.halted = false → reaches s.now d = true ∨ reaches now d = true →
              t.pitchOf tag = some { p with deadline := d, state := .missed, reason := some .deadline } ∧
              ((∀ u r, s.sheet u = some r → r.state ≠ .picking) →
                { slot := p.slot, generation := p.generation, cause := .blank, opening := none } ∈
                  t.requests.breaks)))) ∧
        ((∀ tag r, s.sheet tag = some r → r.state ≠ .picking) →
          t.stu = s.stu ∧ t.bnm = s.bnm ∧ t.adm.newQueue = s.adm.newQueue ∧
          t.adm.restartQueue = s.adm.restartQueue) ∧
        t.gsc = s.gsc ∧ t.jam = s.jam ∧ t.profile = s.profile)) ∧
  (∀ s : State, s.tsv.silenceWatch = false ∨ s.runs = false ∨ s.tsv.backup = true ∨ s.tsv.state = .stopped ∨
    s.tsv.state = .jammed → Runs .encoderSilence s s) ∧
  (∀ s : State,
    (s.tsv.backup = true → s.runs = true → Runs .backupBaseTick s
      { s with tsv := { s.tsv with pathCount := s.tsv.pathCount + 1 } }) ∧
    (s.tsv.backup = false ∨ s.runs = false → Runs .backupBaseTick s s))

/-- The start limit ends a start with reason TIMEOUT. The supply warning sends its notice at each change, ends a start and
begins a drain in RUNNING. A drain with no live record ends in STOPPED with both run lines withdrawn and the gates at
rest. The limit outside STARTING, and the end of a drain that has not ended, change nothing (log 2, the model's
choice). -/
def Obligations.StartLimitSupplyAndDrainEnd : Prop :=
  (∀ s : State,
    (s.tsv.state = .starting → ∃ t, Runs .startLimitExpiry s t ∧
      t.tsv = { s.tsv with
        state := .stopped
        cause := some .startFailed
        mainRun := false
        outputRun := false
        startCount := none
        span := none
        silenceWatch := false } ∧
      (s.cpt.notices.length < 32 →
        t.cpt.notices = s.cpt.notices ++ [.transport .stopped .startFailed .timeout])) ∧
    (s.tsv.state ≠ .starting → Runs .startLimitExpiry s s)) ∧
  (∀ s : State, s.lines.supplyWarning = false →
    ∃ t, Runs .supplyWarningAsserted s t ∧ t.lines = { s.lines with supplyWarning := true } ∧
      (s.tsv.state ≠ .running → s.tsv.state ≠ .starting → t.tsv = s.tsv) ∧
      (s.tsv.state = .running → t.tsv = { s.tsv with state := .draining, cause := some .supply }) ∧
      (s.tsv.state = .starting → t.tsv = { s.tsv with
        state := .stopped
        cause := some .supply
        mainRun := false
        outputRun := false
        startCount := none
        span := none
        silenceWatch := false }) ∧
      (s.cpt.notices.length < 31 → t.cpt.notices = s.cpt.notices ++
        .supply true s.tsv.state ::
          (if s.tsv.state = .running then [.transport .draining .supply .none_]
            else if s.tsv.state = .starting then [.transport .stopped .supply .none_] else [])) ∧
      t.sheets = s.sheets ∧ t.stu = s.stu ∧ t.bnm = s.bnm ∧ t.gsc = s.gsc ∧ t.tsq = s.tsq) ∧
  (∀ s : State, s.lines.supplyWarning = true → Runs .supplyWarningCleared s
    (({ s with lines := { s.lines with supplyWarning := false } }).notify (.supply false s.tsv.state))) ∧
  (∀ s : State,
    (s.tsv.state = .draining → (∀ tag, s.sheet tag = none) → ∃ t, Runs .drainComplete s t ∧
      t.tsv = { s.tsv with
        state := .stopped
        cause := some .drainComplete
        mainRun := false
        outputRun := false
        span := none
        silenceWatch := false } ∧
      (∀ g, t.gate g = { hold := none, waiting := [] }) ∧ t.gsc.lines = Vector.replicate 5 false ∧
      t.gsc.frozen = false ∧
      (s.cpt.notices.length < 32 →
        t.cpt.notices = s.cpt.notices ++ [.transport .stopped .drainComplete .none_])) ∧
    (s.tsv.state ≠ .draining ∨ (∃ tag, s.sheet tag ≠ none) → Runs .drainComplete s s))

/-! ## Profile -/

/-- SET LEG, SET TRAY, SET GATE and SET LIMITS in a quiet path, with their arguments in range: the setting is written when
the profile it gives holds every relation of R177, and refused LIMIT otherwise; a value outside its range is refused
BAD_ARGUMENT. The configuration commands are refused STATE, before their own checks, unless the transport is STOPPED and
no sheet record is live. A leg, tray, gate or limit code outside its list is refused BAD_ARGUMENT. The relations are the
nine of R177, each for every tray where a length appears; a difference of two settings is written as a sum. -/
def Obligations.SettingsAreWrittenWhenTheRelationsHold : Prop :=
  (∀ (s : State) (w1 w2 w3 w4 : Word), s.tsv.state ≠ .stopped ∨ (∃ tag, s.sheet tag ≠ none) →
    (PortHolds s [w1, w2] →
      Answers .setLeg s s .state [] ∧ Answers .setSensor s s .state [] ∧ Answers .setGate s s .state [] ∧
      Answers .setLimits s s .state [] ∧ Answers .setCapacity s s .state []) ∧
    (PortHolds s [w1, w2, w3] → Answers .setUnits s s .state []) ∧
    (PortHolds s [w1, w2, w3, w4] → Answers .setTray s s .state [])) ∧
  (∀ p : Profile, p.relationsHold = true ↔
    (∀ tray : Tray,
      (p.trays[tray.idx].length < p.leg .f1Reg + p.leg .regXfer ∧ p.trays[tray.idx].length < p.leg .f2Reg + p.leg .regXfer ∧
        p.trays[tray.idx].length < p.leg .f3Reg + p.leg .regXfer ∧
        p.trays[tray.idx].length < p.leg .releaseReg + p.leg .regXfer ∧
        p.trays[tray.idx].length < p.leg .regXfer + p.leg .xferFuse ∧
        p.trays[tray.idx].length < p.leg .xferFuse + p.leg .fuseOut ∧
        p.trays[tray.idx].length < p.leg .xferFuse + p.leg .fuseDup1 ∧
        p.trays[tray.idx].length < p.leg .fuseDup1 + p.leg .dup1Dup2 ∧
        p.trays[tray.idx].length < p.leg .fuseOut + p.leg .outB1 ∧
        p.trays[tray.idx].length < p.leg .fuseOut + p.leg .outB2 ∧
        p.trays[tray.idx].length < p.leg .fuseOut + p.leg .outB3 ∧
        p.trays[tray.idx].length < p.leg .fuseOut + p.leg .outB4 ∧
        p.trays[tray.idx].length < p.leg .fuseOut + p.leg .outBp) ∧
      p.leg .park + p.leg .releaseReg + p.limit .leadTolerance * p.limit .backupMultiplier +
        p.limit .trailTolerance * p.limit .backupMultiplier < p.trays[tray.idx].length ∧
      2 * (p.limit .leadTolerance * p.limit .backupMultiplier) < p.trays[tray.idx].length + p.limit .minimumGap) ∧
    p.limit .pickTolerance * p.limit .backupMultiplier < p.limit .minimumGap ∧
    (∀ l ∈ [Leg.f1Reg, .f2Reg, .f3Reg], p.limit .sideReadyMargin * p.limit .backupMultiplier < p.leg l) ∧
    (∀ g : Gate, p.limit .throwLead < p.offset g) ∧
    (∀ l ∈ [Leg.fuseOut, .fuseDup1], p.offset .d + p.limit .leadTolerance * p.limit .backupMultiplier <
      p.leg l + p.limit .throwLead) ∧
    (∀ k ∈ [(Gate.g1, Leg.outB1), (.g2, .outB2), (.g3, .outB3), (.g4, .outB4)],
      p.offset k.1 + p.limit .leadTolerance * p.limit .backupMultiplier < p.leg k.2 + p.limit .throwLead) ∧
    p.offset .g1 < p.offset .g2 ∧ p.offset .g2 < p.offset .g3 ∧ p.offset .g3 < p.offset .g4 ∧
    p.offset .g4 + p.limit .leadTolerance * p.limit .backupMultiplier < p.leg .outBp + p.limit .throwLead) ∧
  (∀ (p : Profile) (l : Leg) (k : Limit) (g : Gate),
    p.leg l = p.legs[l.idx] ∧ p.limit k = p.limits[k.idx] ∧ p.offset g = p.offsets[g.idx]) ∧
  ∀ s : State, s.tsv.state = .stopped → (∀ tag, s.sheet tag = none) →
    (∀ w d : Word, PortHolds s [w, d] →
      (14 < w.toNat → Answers .setLeg s s .badArgument [] ∧ Answers .setLimits s s .badArgument []) ∧
      (4 < w.toNat → Answers .setGate s s .badArgument [])) ∧
    (∀ w n lo hi : Word, PortHolds s [w, n, lo, hi] → 2 < w.toNat → Answers .setTray s s .badArgument []) ∧
    (∀ (l : Leg) (d : Word) (p : Profile), PortHolds s [word l.idx, d] →
      p = { s.profile with legs := s.profile.legs.set l.idx d.toNat } →
      (d.toNat < l.range.1 ∨ l.range.2 < d.toNat → Answers .setLeg s s .badArgument []) ∧
      (l.range.1 ≤ d.toNat → d.toNat ≤ l.range.2 →
        (p.relationsHold = true → Answers .setLeg s { s with profile := p } .ok []) ∧
        (p.relationsHold = false → Answers .setLeg s s .limit []))) ∧
    (∀ (tray : Tray) (n lo hi : Word) (p : Profile), PortHolds s [trayCode tray, n, lo, hi] →
      p = { s.profile with trays := s.profile.trays.set tray.idx (.mk n.toNat lo.toNat hi.toNat) } →
      (n.toNat < 400 ∨ 4000 < n.toNat ∨ 1023 < lo.toNat ∨ 1023 < hi.toNat ∨ hi.toNat < lo.toNat →
        Answers .setTray s s .badArgument []) ∧
      (400 ≤ n.toNat → n.toNat ≤ 4000 → lo.toNat ≤ hi.toNat → hi.toNat ≤ 1023 →
        (p.relationsHold = true → Answers .setTray s { s with profile := p } .ok []) ∧
        (p.relationsHold = false → Answers .setTray s s .limit []))) ∧
    (∀ (g : Gate) (o : Word) (p : Profile), PortHolds s [word g.idx, o] →
      p = { s.profile with offsets := s.profile.offsets.set g.idx o.toNat } →
      (o.toNat < 50 ∨ 20000 < o.toNat → Answers .setGate s s .badArgument []) ∧
      (50 ≤ o.toNat → o.toNat ≤ 20000 →
        (p.relationsHold = true → Answers .setGate s { s with profile := p } .ok []) ∧
        (p.relationsHold = false → Answers .setGate s s .limit []))) ∧
    (∀ (l : Limit) (v : Word) (p : Profile), PortHolds s [word l.idx, v] →
      p = { s.profile with limits := s.profile.limits.set l.idx v.toNat } →
      (v.toNat < l.range.1 ∨ l.range.2 < v.toNat → Answers .setLimits s s .badArgument []) ∧
      (l.range.1 ≤ v.toNat → v.toNat ≤ l.range.2 →
        (p.relationsHold = true → Answers .setLimits s { s with profile := p } .ok []) ∧
        (p.relationsHold = false → Answers .setLimits s s .limit [])))

/-- SET SENSOR writes the polarity, and the line's present level under it is the debounced level at once. SET CAPACITY is
refused LIMIT below the fill, and a bin whose fill the new capacity equals becomes FULL, with its notice. SET UNITS, with
its checks in order, writes the three values together; its enable values are the yes/no values no 0 and yes 1, which is
the model's choice (log 16). A change of the four-bin unit sets the roles and then the states of B3 and B4: turned off,
both are OFF; turned on, a bin that was OFF is DOOR OPEN or CHECK as its door shows. A sensor, polarity or bin code outside
its list and an enable word above 1 are refused BAD_ARGUMENT. -/
def Obligations.SensorsCapacitiesAndUnitsAreSet : Prop :=
  ∀ s : State, s.tsv.state = .stopped → (∀ tag, s.sheet tag = none) →
    (∀ v w : Word, PortHolds s [v, w] →
      (13 < v.toNat ∨ 1 < w.toNat → Answers .setSensor s s .badArgument []) ∧
      (4 < v.toNat → Answers .setCapacity s s .badArgument [])) ∧
    (∀ d f g : Word, PortHolds s [d, f, g] → 1 < d.toNat ∨ 1 < f.toNat ∨ 1 < g.toNat →
      Answers .setUnits s s .badArgument []) ∧
    (∀ (x : Sensor) (p : Polarity), PortHolds s [sensorCode x, p.code] →
      ∃ t, Runs .setSensor s t ∧
        t.profile = { s.profile with polarity := s.profile.polarity.set x.idx p } ∧
        t.covered x = (if p = .high then s.lines.sensors[x.idx] else !s.lines.sensors[x.idx]) ∧
        (∀ y, y ≠ x → t.covered y = s.covered y) ∧ t.cpt.result = [0x0100] ∧ t.lines = s.lines ∧ t.tsv = s.tsv) ∧
    (∀ (b : Bin) (n : Word), PortHolds s [binCode b, n] →
      (n.toNat < 100 ∨ 4000 < n.toNat → Answers .setCapacity s s .badArgument []) ∧
      (100 ≤ n.toNat → n.toNat ≤ 4000 →
        (n.toNat < (s.bin b).fill → Answers .setCapacity s s .limit []) ∧
        ((s.bin b).fill ≤ n.toNat →
          ∃ t, Runs .setCapacity s t ∧ t.cpt.result = [0x0100] ∧
            t.profile = { s.profile with capacities := s.profile.capacities.set b.idx n.toNat } ∧
            t.bin b = { s.bin b with state :=
              if (s.bin b).fill = n.toNat ∧ ((s.bin b).state = .ready ∨ (s.bin b).state = .fenced) then .full
              else (s.bin b).state } ∧
            (s.cpt.notices.length < 32 → t.cpt.notices = s.cpt.notices ++
              if (s.bin b).fill = n.toNat ∧ ((s.bin b).state = .ready ∨ (s.bin b).state = .fenced) then
                [.bin b .full (s.bin b).fill] else []) ∧
            (∀ d, d ≠ b → t.bin d = s.bin d)))) ∧
    (∀ u : Units, PortHolds s [yesNo u.duplex, yesNo u.fourBins, yesNo u.gauge] →
      ((u.duplex = true ∧ s.profile.fitted.duplex = false) ∨ (u.fourBins = true ∧ s.profile.fitted.fourBins = false) ∨
          (u.gauge = true ∧ s.profile.fitted.gauge = false) → Answers .setUnits s s .badArgument []) ∧
      ((u.duplex = true → s.profile.fitted.duplex = true) → (u.fourBins = true → s.profile.fitted.fourBins = true) →
        (u.gauge = true → s.profile.fitted.gauge = true) →
        (s.profile.enabled.duplex = true → u.duplex = false →
          (∃ slot r, s.statement slot = some r ∧ r.plex = .duplex) → Answers .setUnits s s .state []) ∧
        ((u.duplex = true ∨ s.profile.enabled.duplex = false ∨
            (∀ slot r, s.statement slot = some r → r.plex = .simplex)) →
          (s.profile.enabled.fourBins = true → u.fourBins = false →
            (s.bin .b3).stacking ≠ [] ∨ (s.bin .b4).stacking ≠ [] → Answers .setUnits s s .state []) ∧
          ((u.fourBins = true ∨ s.profile.enabled.fourBins = false ∨
              ((s.bin .b3).stacking = [] ∧ (s.bin .b4).stacking = [])) →
            ∃ t, Runs .setUnits s t ∧ t.cpt.result = [0x0100] ∧
              t.profile = { s.profile with enabled := u } ∧
              (u.fourBins = s.profile.enabled.fourBins → t.bnm = s.bnm) ∧
              (∀ b, b = .b3 ∨ b = .b4 → u.fourBins = true → s.profile.enabled.fourBins = false →
                t.bin b = { s.bin b with
                  role := if b = .b3 then .standard else .oversize
                  state := if (s.bin b).role ≠ .off then (s.bin b).state
                    else if s.lines.doors[b.idx] then .doorOpen else .check }) ∧
              (∀ b, b = .b3 ∨ b = .b4 → u.fourBins = false → s.profile.enabled.fourBins = true →
                t.bin b = { s.bin b with role := .off, state := .off }) ∧
              t.cpt.notices = s.cpt.notices ∧
              (∀ b, b ≠ .b3 → b ≠ .b4 → t.bin b = s.bin b)))))

/-! ## The port -/

/-- The reads of the port: RESULT at its cursor, which moves on; NOTICE takes the oldest notice and NOTICE DATA its words
in turn; CALL marks the oldest unread pitch read and takes its view, CALL DATA its words in turn; each reads 0000h where
nothing is left. The returned word stands in the model's field readData (log 8). The other reads change nothing: STATUS,
SNAPSHOT SELECT with the index held, SNAPSHOT DATA with the word of the snapshot that it selects (R189), the write-only
registers and the unused offsets with 0000h (R182). A stacker's jog line is asserted for RIGHT, withdrawn for LEFT and
while the bin is OFF (R126, R132). -/
def Obligations.ReadsOfThePort : Prop :=
  ∀ s : State,
    (s.plainRead 0x00 = some s.status ∧ s.plainRead 0x02 = some 0 ∧ s.plainRead 0x04 = some 0 ∧
      s.plainRead 0x10 = some (word s.cpt.select) ∧ s.plainRead 0x12 = some s.snapshotData ∧
      (∀ offset ∈ [0x14, 0x16, 0x18, 0x1A, 0x1C, 0x1E], s.plainRead offset = some 0) ∧
      (∀ offset ∈ [0x06, 0x08, 0x0A, 0x0C, 0x0E], s.plainRead offset = none)) ∧
    ((s.cpt.select = 0 → ∀ (n : Nat) (h : n < 16),
        s.snapshotData[n] = if k : n < 14 then s.ptk.snapshot.levels[n] else false) ∧
      (s.cpt.select = 1 → s.snapshotData = s.ptk.snapshot.count.extractLsb' 0 16) ∧
      (s.cpt.select = 2 → s.snapshotData = s.ptk.snapshot.count.extractLsb' 16 16) ∧
      (s.cpt.select = 3 → s.snapshotData = match s.ptk.snapshot.cause with
        | none => 0
        | some cause => cause.code) ∧
      (s.cpt.select = 4 → s.snapshotData = sensorCode s.ptk.snapshot.sensor) ∧
      (s.cpt.select = 5 → s.snapshotData = match s.ptk.snapshot.tag with
        | none => 0
        | some tag => tagCode tag) ∧
      (s.cpt.select = 6 → s.snapshotData[0] = s.ptk.snapshot.locked ∧ s.snapshotData[1] = s.ptk.snapshot.second ∧
        s.snapshotData[2] = s.ptk.snapshot.tag.isSome ∧ s.snapshotData[3] = s.ptk.snapshot.cause.isSome ∧
        ∀ (n : Nat) (h : n < 16), 4 ≤ n → s.snapshotData[n] = false)) ∧
    (∀ b, s.jogLine b = true ↔
      b ≠ .p ∧ (s.bin b).state ≠ .off ∧ (s.bin b).jogRight = true) ∧
    (s.cpt.busy = true → Runs .result s { s with cpt := { s.cpt with readData := 0 } }) ∧
    (s.cpt.result[s.cpt.cursor]? = none → Runs .result s { s with cpt := { s.cpt with readData := 0 } }) ∧
    (∀ w, s.cpt.busy = false → s.cpt.result[s.cpt.cursor]? = some w → Runs .result s
      { s with cpt := { s.cpt with cursor := s.cpt.cursor + 1, readData := w } }) ∧
    (s.cpt.notices = [] → Runs .notice s { s with cpt := { s.cpt with noticeBuffer := [], readData := 0 } }) ∧
    (∀ n rest, s.cpt.notices = n :: rest → Runs .notice s { s with cpt := { s.cpt with
      notices := rest, noticeBuffer := n.words, readData := word ((n.words.length + 1) * 256 + n.kind) } }) ∧
    (s.cpt.noticeBuffer = [] → Runs .noticeData s { s with cpt := { s.cpt with readData := 0 } }) ∧
    (∀ w rest, s.cpt.noticeBuffer = w :: rest → Runs .noticeData s
      { s with cpt := { s.cpt with noticeBuffer := rest, readData := w } }) ∧
    ((∀ p ∈ s.tsq.pitches, p.read = true) → Runs .call s
      { s with cpt := { s.cpt with callBuffer := [], readData := 0 } }) ∧
    (∀ p, (s.tsq.pitches.find? fun q => !q.read) = some p → Runs .call s
      { s with
        tsq := { s.tsq with pitches := s.tsq.pitches.map fun q => if q.tag = p.tag then { q with read := true } else q }
        cpt := { s.cpt with
          callBuffer := [p.call, tagCode p.tag, p.side.code, p.state.code] ++ dword p.deadline ++ [slotCode p.slot] ++
            dword (identOf s p.slot) ++ [word p.generation, word p.page]
          readData := 0x0C01 } }) ∧
    (s.cpt.callBuffer = [] → Runs .callData s { s with cpt := { s.cpt with readData := 0 } }) ∧
    (∀ w rest, s.cpt.callBuffer = w :: rest → Runs .callData s
      { s with cpt := { s.cpt with callBuffer := rest, readData := w } })

/-- The writes of the port: COMMAND DATA appends a word, the ninth marks the buffer overrun; a code that names no command is
answered BAD_COMMAND, and every command of the index with another number of words or an overrun buffer BAD_ARGUMENT; all of
them are ignored while BUSY is set; SNAPSHOT SELECT takes 0 to 6 and else 0; CLEAR NOTICE LOST clears the mark; a write the
window ignores changes nothing. -/
def Obligations.WritesOfThePort : Prop :=
  ∀ s : State,
    (∀ w, s.cpt.busy = true → Runs (.commandData w) s s ∧ Runs (.badCommand w) s s) ∧
    (∀ c n, argWords c = some n →
      (s.cpt.busy = true → Runs c s s) ∧
      (s.cpt.busy = false → s.cpt.buffer.length ≠ n ∨ s.cpt.overrun = true → Runs c s { s with cpt := { s.cpt with
        result := [0x0102], cursor := 0, buffer := [], overrun := false } })) ∧
    (∀ w, s.cpt.busy = false → s.cpt.buffer.length < 8 → Runs (.commandData w) s
      { s with cpt := { s.cpt with buffer := s.cpt.buffer ++ [w] } }) ∧
    (∀ w, s.cpt.busy = false → 8 ≤ s.cpt.buffer.length → Runs (.commandData w) s
      { s with cpt := { s.cpt with overrun := true } }) ∧
    (∀ w, s.cpt.busy = false → Runs (.badCommand w) s { s with cpt := { s.cpt with
      result := [0x0101], cursor := 0, buffer := [], overrun := false } }) ∧
    (PortHolds s [] → Runs .clearNoticeLost s { s with cpt := { s.cpt with
      noticeLost := false, result := [0x0100], cursor := 0, buffer := [], overrun := false, busy := false } }) ∧
    (∀ w, w.toNat ≤ 6 → Runs (.snapshotSelect w) s { s with cpt := { s.cpt with select := w.toNat } }) ∧
    (∀ w, 6 < w.toNat → Runs (.snapshotSelect w) s { s with cpt := { s.cpt with select := 0 } }) ∧
    (∀ offset w, Runs (.ignoredRegisterWrite offset w) s s)

/-- The attention line is asserted while a notice waits, a call is unread, the snapshot is locked or NOTICE LOST is set;
STATUS shows the four conditions, BUSY, the line, and the number of notices in bits 8 to 13 (R190). -/
def Obligations.AttentionFollowsItsFourConditions : Prop :=
  ∀ s : State,
    (s.attention = true ↔ s.cpt.notices ≠ [] ∨ (∃ p ∈ s.tsq.pitches, p.read = false) ∨
      s.ptk.snapshot.locked = true ∨ s.cpt.noticeLost = true) ∧
    (s.cpt.notices.length ≤ 32 →
      s.status.getLsbD 0 = s.cpt.busy ∧ s.status.getLsbD 1 = s.cpt.noticeLost ∧
      (s.status.getLsbD 2 = true ↔ s.cpt.notices ≠ []) ∧
      (s.status.getLsbD 3 = true ↔ ∃ p ∈ s.tsq.pitches, p.read = false) ∧
      s.status.getLsbD 4 = s.ptk.snapshot.locked ∧ s.status.getLsbD 5 = s.attention ∧
      s.status.getLsbD 6 = false ∧ s.status.getLsbD 7 = false ∧
      (s.status.extractLsb' 8 6).toNat = s.cpt.notices.length ∧
      s.status.getLsbD 14 = false ∧ s.status.getLsbD 15 = false)

/-! ## Invariants -/

/-- Every step keeps the run lines and the start count as the transport state gives them. -/
def Obligations.EveryStepKeepsTheRunLines : Prop :=
  ∀ s t : State, RunLinesFollow s → StartCountFollows s → step s = .next t → RunLinesFollow t ∧ StartCountFollows t

/-- Every step keeps the generations, states and break causes of the statements legal. -/
def Obligations.EveryStepKeepsTheGenerations : Prop :=
  ∀ s t : State, GenerationsLegal s → step s = .next t → GenerationsLegal t

/-- Every step keeps at most one sheet record PARKED and at most one PICKING. -/
def Obligations.EveryStepKeepsOneParkedAndOnePicking : Prop :=
  ∀ s t : State, OneParkedOnePicking s → step s = .next t → OneParkedOnePicking t

/-- Every step keeps the bounds of the buffers, of the feed queues with their picking place, of the expectation, pending
and stacking lists, and of the counts; and, while every PARKED record is back-pending, the room of the Transfer Sequence
for the back pitches still to come, so that its pitches stay at most 8 (R67). The spoil lists (R134) are not among them,
and that a step keeps every PARKED record back-pending is not stated. -/
def Obligations.EveryStepKeepsTheBounds : Prop :=
  (∀ s t : State, Bounded s → step s = .next t → Bounded t) ∧
  (∀ s t : State, SequenceFits s → ParkedAwaitBack s → step s = .next t → SequenceFits t)

/-- The invariants hold right after power-on. -/
def Obligations.TheInvariantsHoldAtReset : Prop :=
  RunLinesFollow State.reset ∧ StartCountFollows State.reset ∧ GenerationsLegal State.reset ∧
    OneParkedOnePicking State.reset ∧ Bounded State.reset ∧ SequenceFits State.reset ∧ ParkedAwaitBack State.reset
end

