-- ==== Sys2Proof/Laws/State.lean ====
section
/-! SUPPORT. What each named update of State leaves and what reading finds after it. -/

namespace Sys2Proof.Machine

set_option Elab.async false

/-- A part of the state that every step of a fold keeps is kept by the fold. -/
theorem foldl_keeps {α β : Type} {g : State → α → State} {f : State → β} (h : ∀ u x, f (g u x) = f u) (l : List α)
    (s : State) : f (l.foldl g s) = f s := by
  induction l generalizing s with
  | nil => rfl
  | cons a l ih => simp only [List.foldl_cons]; rw [ih, h]

namespace State

/-! ### setStatement -/
@[simp] theorem setStatement_pending (s : State) (slot : Slot) (r : Option Statement) : (s.setStatement slot r).pending = s.pending := rfl
@[simp] theorem setStatement_sheets (s : State) (slot : Slot) (r : Option Statement) : (s.setStatement slot r).sheets = s.sheets := rfl
@[simp] theorem setStatement_adm (s : State) (slot : Slot) (r : Option Statement) : (s.setStatement slot r).adm = s.adm := rfl
@[simp] theorem setStatement_tsq (s : State) (slot : Slot) (r : Option Statement) : (s.setStatement slot r).tsq = s.tsq := rfl
@[simp] theorem setStatement_ptk (s : State) (slot : Slot) (r : Option Statement) : (s.setStatement slot r).ptk = s.ptk := rfl
@[simp] theorem setStatement_gsc (s : State) (slot : Slot) (r : Option Statement) : (s.setStatement slot r).gsc = s.gsc := rfl
@[simp] theorem setStatement_bnm (s : State) (slot : Slot) (r : Option Statement) : (s.setStatement slot r).bnm = s.bnm := rfl
@[simp] theorem setStatement_jam (s : State) (slot : Slot) (r : Option Statement) : (s.setStatement slot r).jam = s.jam := rfl
@[simp] theorem setStatement_tsv (s : State) (slot : Slot) (r : Option Statement) : (s.setStatement slot r).tsv = s.tsv := rfl
@[simp] theorem setStatement_profile (s : State) (slot : Slot) (r : Option Statement) : (s.setStatement slot r).profile = s.profile := rfl
@[simp] theorem setStatement_cpt (s : State) (slot : Slot) (r : Option Statement) : (s.setStatement slot r).cpt = s.cpt := rfl
@[simp] theorem setStatement_lines (s : State) (slot : Slot) (r : Option Statement) : (s.setStatement slot r).lines = s.lines := rfl
@[simp] theorem setStatement_requests (s : State) (slot : Slot) (r : Option Statement) : (s.setStatement slot r).requests = s.requests := rfl

/-! ### setSheet -/
@[simp] theorem setSheet_pending (s : State) (t : Tag) (r : Option Sheet) : (s.setSheet t r).pending = s.pending := rfl
@[simp] theorem setSheet_stu (s : State) (t : Tag) (r : Option Sheet) : (s.setSheet t r).stu = s.stu := rfl
@[simp] theorem setSheet_adm (s : State) (t : Tag) (r : Option Sheet) : (s.setSheet t r).adm = s.adm := rfl
@[simp] theorem setSheet_tsq (s : State) (t : Tag) (r : Option Sheet) : (s.setSheet t r).tsq = s.tsq := rfl
@[simp] theorem setSheet_ptk (s : State) (t : Tag) (r : Option Sheet) : (s.setSheet t r).ptk = s.ptk := rfl
@[simp] theorem setSheet_gsc (s : State) (t : Tag) (r : Option Sheet) : (s.setSheet t r).gsc = s.gsc := rfl
@[simp] theorem setSheet_bnm (s : State) (t : Tag) (r : Option Sheet) : (s.setSheet t r).bnm = s.bnm := rfl
@[simp] theorem setSheet_jam (s : State) (t : Tag) (r : Option Sheet) : (s.setSheet t r).jam = s.jam := rfl
@[simp] theorem setSheet_tsv (s : State) (t : Tag) (r : Option Sheet) : (s.setSheet t r).tsv = s.tsv := rfl
@[simp] theorem setSheet_profile (s : State) (t : Tag) (r : Option Sheet) : (s.setSheet t r).profile = s.profile := rfl
@[simp] theorem setSheet_cpt (s : State) (t : Tag) (r : Option Sheet) : (s.setSheet t r).cpt = s.cpt := rfl
@[simp] theorem setSheet_lines (s : State) (t : Tag) (r : Option Sheet) : (s.setSheet t r).lines = s.lines := rfl
@[simp] theorem setSheet_requests (s : State) (t : Tag) (r : Option Sheet) : (s.setSheet t r).requests = s.requests := rfl

/-! ### setBin -/
@[simp] theorem setBin_pending (s : State) (b : Bin) (r : BinRecord) : (s.setBin b r).pending = s.pending := rfl
@[simp] theorem setBin_stu (s : State) (b : Bin) (r : BinRecord) : (s.setBin b r).stu = s.stu := rfl
@[simp] theorem setBin_sheets (s : State) (b : Bin) (r : BinRecord) : (s.setBin b r).sheets = s.sheets := rfl
@[simp] theorem setBin_adm (s : State) (b : Bin) (r : BinRecord) : (s.setBin b r).adm = s.adm := rfl
@[simp] theorem setBin_tsq (s : State) (b : Bin) (r : BinRecord) : (s.setBin b r).tsq = s.tsq := rfl
@[simp] theorem setBin_ptk (s : State) (b : Bin) (r : BinRecord) : (s.setBin b r).ptk = s.ptk := rfl
@[simp] theorem setBin_gsc (s : State) (b : Bin) (r : BinRecord) : (s.setBin b r).gsc = s.gsc := rfl
@[simp] theorem setBin_jam (s : State) (b : Bin) (r : BinRecord) : (s.setBin b r).jam = s.jam := rfl
@[simp] theorem setBin_tsv (s : State) (b : Bin) (r : BinRecord) : (s.setBin b r).tsv = s.tsv := rfl
@[simp] theorem setBin_profile (s : State) (b : Bin) (r : BinRecord) : (s.setBin b r).profile = s.profile := rfl
@[simp] theorem setBin_cpt (s : State) (b : Bin) (r : BinRecord) : (s.setBin b r).cpt = s.cpt := rfl
@[simp] theorem setBin_lines (s : State) (b : Bin) (r : BinRecord) : (s.setBin b r).lines = s.lines := rfl
@[simp] theorem setBin_requests (s : State) (b : Bin) (r : BinRecord) : (s.setBin b r).requests = s.requests := rfl

/-! ### setGate -/
@[simp] theorem setGate_pending (s : State) (g : Gate) (r : GateRecord) : (s.setGate g r).pending = s.pending := rfl
@[simp] theorem setGate_stu (s : State) (g : Gate) (r : GateRecord) : (s.setGate g r).stu = s.stu := rfl
@[simp] theorem setGate_sheets (s : State) (g : Gate) (r : GateRecord) : (s.setGate g r).sheets = s.sheets := rfl
@[simp] theorem setGate_adm (s : State) (g : Gate) (r : GateRecord) : (s.setGate g r).adm = s.adm := rfl
@[simp] theorem setGate_tsq (s : State) (g : Gate) (r : GateRecord) : (s.setGate g r).tsq = s.tsq := rfl
@[simp] theorem setGate_ptk (s : State) (g : Gate) (r : GateRecord) : (s.setGate g r).ptk = s.ptk := rfl
@[simp] theorem setGate_bnm (s : State) (g : Gate) (r : GateRecord) : (s.setGate g r).bnm = s.bnm := rfl
@[simp] theorem setGate_jam (s : State) (g : Gate) (r : GateRecord) : (s.setGate g r).jam = s.jam := rfl
@[simp] theorem setGate_tsv (s : State) (g : Gate) (r : GateRecord) : (s.setGate g r).tsv = s.tsv := rfl
@[simp] theorem setGate_profile (s : State) (g : Gate) (r : GateRecord) : (s.setGate g r).profile = s.profile := rfl
@[simp] theorem setGate_cpt (s : State) (g : Gate) (r : GateRecord) : (s.setGate g r).cpt = s.cpt := rfl
@[simp] theorem setGate_lines (s : State) (g : Gate) (r : GateRecord) : (s.setGate g r).lines = s.lines := rfl
@[simp] theorem setGate_requests (s : State) (g : Gate) (r : GateRecord) : (s.setGate g r).requests = s.requests := rfl

/-! ### setGateLine -/
@[simp] theorem setGateLine_pending (s : State) (g : Gate) (v : Bool) : (s.setGateLine g v).pending = s.pending := rfl
@[simp] theorem setGateLine_stu (s : State) (g : Gate) (v : Bool) : (s.setGateLine g v).stu = s.stu := rfl
@[simp] theorem setGateLine_sheets (s : State) (g : Gate) (v : Bool) : (s.setGateLine g v).sheets = s.sheets := rfl
@[simp] theorem setGateLine_adm (s : State) (g : Gate) (v : Bool) : (s.setGateLine g v).adm = s.adm := rfl
@[simp] theorem setGateLine_tsq (s : State) (g : Gate) (v : Bool) : (s.setGateLine g v).tsq = s.tsq := rfl
@[simp] theorem setGateLine_ptk (s : State) (g : Gate) (v : Bool) : (s.setGateLine g v).ptk = s.ptk := rfl
@[simp] theorem setGateLine_bnm (s : State) (g : Gate) (v : Bool) : (s.setGateLine g v).bnm = s.bnm := rfl
@[simp] theorem setGateLine_jam (s : State) (g : Gate) (v : Bool) : (s.setGateLine g v).jam = s.jam := rfl
@[simp] theorem setGateLine_tsv (s : State) (g : Gate) (v : Bool) : (s.setGateLine g v).tsv = s.tsv := rfl
@[simp] theorem setGateLine_profile (s : State) (g : Gate) (v : Bool) : (s.setGateLine g v).profile = s.profile := rfl
@[simp] theorem setGateLine_cpt (s : State) (g : Gate) (v : Bool) : (s.setGateLine g v).cpt = s.cpt := rfl
@[simp] theorem setGateLine_lines (s : State) (g : Gate) (v : Bool) : (s.setGateLine g v).lines = s.lines := rfl
@[simp] theorem setGateLine_requests (s : State) (g : Gate) (v : Bool) : (s.setGateLine g v).requests = s.requests := rfl

/-! ### setList -/
@[simp] theorem setList_pending (s : State) (x : Sensor) (l : List Expectation) : (s.setList x l).pending = s.pending := rfl
@[simp] theorem setList_stu (s : State) (x : Sensor) (l : List Expectation) : (s.setList x l).stu = s.stu := rfl
@[simp] theorem setList_sheets (s : State) (x : Sensor) (l : List Expectation) : (s.setList x l).sheets = s.sheets := rfl
@[simp] theorem setList_adm (s : State) (x : Sensor) (l : List Expectation) : (s.setList x l).adm = s.adm := rfl
@[simp] theorem setList_tsq (s : State) (x : Sensor) (l : List Expectation) : (s.setList x l).tsq = s.tsq := rfl
@[simp] theorem setList_gsc (s : State) (x : Sensor) (l : List Expectation) : (s.setList x l).gsc = s.gsc := rfl
@[simp] theorem setList_bnm (s : State) (x : Sensor) (l : List Expectation) : (s.setList x l).bnm = s.bnm := rfl
@[simp] theorem setList_jam (s : State) (x : Sensor) (l : List Expectation) : (s.setList x l).jam = s.jam := rfl
@[simp] theorem setList_tsv (s : State) (x : Sensor) (l : List Expectation) : (s.setList x l).tsv = s.tsv := rfl
@[simp] theorem setList_profile (s : State) (x : Sensor) (l : List Expectation) : (s.setList x l).profile = s.profile := rfl
@[simp] theorem setList_cpt (s : State) (x : Sensor) (l : List Expectation) : (s.setList x l).cpt = s.cpt := rfl
@[simp] theorem setList_lines (s : State) (x : Sensor) (l : List Expectation) : (s.setList x l).lines = s.lines := rfl
@[simp] theorem setList_requests (s : State) (x : Sensor) (l : List Expectation) : (s.setList x l).requests = s.requests := rfl

/-! ### setCondition -/
@[simp] theorem setCondition_pending (s : State) (t : Tray) (c : TrayCondition) : (s.setCondition t c).pending = s.pending := rfl
@[simp] theorem setCondition_stu (s : State) (t : Tray) (c : TrayCondition) : (s.setCondition t c).stu = s.stu := rfl
@[simp] theorem setCondition_sheets (s : State) (t : Tray) (c : TrayCondition) : (s.setCondition t c).sheets = s.sheets := rfl
@[simp] theorem setCondition_tsq (s : State) (t : Tray) (c : TrayCondition) : (s.setCondition t c).tsq = s.tsq := rfl
@[simp] theorem setCondition_ptk (s : State) (t : Tray) (c : TrayCondition) : (s.setCondition t c).ptk = s.ptk := rfl
@[simp] theorem setCondition_gsc (s : State) (t : Tray) (c : TrayCondition) : (s.setCondition t c).gsc = s.gsc := rfl
@[simp] theorem setCondition_bnm (s : State) (t : Tray) (c : TrayCondition) : (s.setCondition t c).bnm = s.bnm := rfl
@[simp] theorem setCondition_jam (s : State) (t : Tray) (c : TrayCondition) : (s.setCondition t c).jam = s.jam := rfl
@[simp] theorem setCondition_tsv (s : State) (t : Tray) (c : TrayCondition) : (s.setCondition t c).tsv = s.tsv := rfl
@[simp] theorem setCondition_profile (s : State) (t : Tray) (c : TrayCondition) : (s.setCondition t c).profile = s.profile := rfl
@[simp] theorem setCondition_cpt (s : State) (t : Tray) (c : TrayCondition) : (s.setCondition t c).cpt = s.cpt := rfl
@[simp] theorem setCondition_lines (s : State) (t : Tray) (c : TrayCondition) : (s.setCondition t c).lines = s.lines := rfl
@[simp] theorem setCondition_requests (s : State) (t : Tray) (c : TrayCondition) : (s.setCondition t c).requests = s.requests := rfl

/-! ### setPickLine -/
@[simp] theorem setPickLine_pending (s : State) (t : Tray) (v : Bool) : (s.setPickLine t v).pending = s.pending := rfl
@[simp] theorem setPickLine_stu (s : State) (t : Tray) (v : Bool) : (s.setPickLine t v).stu = s.stu := rfl
@[simp] theorem setPickLine_sheets (s : State) (t : Tray) (v : Bool) : (s.setPickLine t v).sheets = s.sheets := rfl
@[simp] theorem setPickLine_tsq (s : State) (t : Tray) (v : Bool) : (s.setPickLine t v).tsq = s.tsq := rfl
@[simp] theorem setPickLine_ptk (s : State) (t : Tray) (v : Bool) : (s.setPickLine t v).ptk = s.ptk := rfl
@[simp] theorem setPickLine_gsc (s : State) (t : Tray) (v : Bool) : (s.setPickLine t v).gsc = s.gsc := rfl
@[simp] theorem setPickLine_bnm (s : State) (t : Tray) (v : Bool) : (s.setPickLine t v).bnm = s.bnm := rfl
@[simp] theorem setPickLine_jam (s : State) (t : Tray) (v : Bool) : (s.setPickLine t v).jam = s.jam := rfl
@[simp] theorem setPickLine_tsv (s : State) (t : Tray) (v : Bool) : (s.setPickLine t v).tsv = s.tsv := rfl
@[simp] theorem setPickLine_profile (s : State) (t : Tray) (v : Bool) : (s.setPickLine t v).profile = s.profile := rfl
@[simp] theorem setPickLine_cpt (s : State) (t : Tray) (v : Bool) : (s.setPickLine t v).cpt = s.cpt := rfl
@[simp] theorem setPickLine_lines (s : State) (t : Tray) (v : Bool) : (s.setPickLine t v).lines = s.lines := rfl
@[simp] theorem setPickLine_requests (s : State) (t : Tray) (v : Bool) : (s.setPickLine t v).requests = s.requests := rfl

/-! ### setVerdicts -/
@[simp] theorem setVerdicts_pending (s : State) (t : Tray) (n : Nat) : (s.setVerdicts t n).pending = s.pending := rfl
@[simp] theorem setVerdicts_stu (s : State) (t : Tray) (n : Nat) : (s.setVerdicts t n).stu = s.stu := rfl
@[simp] theorem setVerdicts_sheets (s : State) (t : Tray) (n : Nat) : (s.setVerdicts t n).sheets = s.sheets := rfl
@[simp] theorem setVerdicts_adm (s : State) (t : Tray) (n : Nat) : (s.setVerdicts t n).adm = s.adm := rfl
@[simp] theorem setVerdicts_tsq (s : State) (t : Tray) (n : Nat) : (s.setVerdicts t n).tsq = s.tsq := rfl
@[simp] theorem setVerdicts_gsc (s : State) (t : Tray) (n : Nat) : (s.setVerdicts t n).gsc = s.gsc := rfl
@[simp] theorem setVerdicts_bnm (s : State) (t : Tray) (n : Nat) : (s.setVerdicts t n).bnm = s.bnm := rfl
@[simp] theorem setVerdicts_jam (s : State) (t : Tray) (n : Nat) : (s.setVerdicts t n).jam = s.jam := rfl
@[simp] theorem setVerdicts_tsv (s : State) (t : Tray) (n : Nat) : (s.setVerdicts t n).tsv = s.tsv := rfl
@[simp] theorem setVerdicts_profile (s : State) (t : Tray) (n : Nat) : (s.setVerdicts t n).profile = s.profile := rfl
@[simp] theorem setVerdicts_cpt (s : State) (t : Tray) (n : Nat) : (s.setVerdicts t n).cpt = s.cpt := rfl
@[simp] theorem setVerdicts_lines (s : State) (t : Tray) (n : Nat) : (s.setVerdicts t n).lines = s.lines := rfl
@[simp] theorem setVerdicts_requests (s : State) (t : Tray) (n : Nat) : (s.setVerdicts t n).requests = s.requests := rfl

/-! ### mapSheets -/
@[simp] theorem mapSheets_pending (s : State) (f : Sheet → Sheet) : (s.mapSheets f).pending = s.pending := rfl
@[simp] theorem mapSheets_stu (s : State) (f : Sheet → Sheet) : (s.mapSheets f).stu = s.stu := rfl
@[simp] theorem mapSheets_adm (s : State) (f : Sheet → Sheet) : (s.mapSheets f).adm = s.adm := rfl
@[simp] theorem mapSheets_tsq (s : State) (f : Sheet → Sheet) : (s.mapSheets f).tsq = s.tsq := rfl
@[simp] theorem mapSheets_ptk (s : State) (f : Sheet → Sheet) : (s.mapSheets f).ptk = s.ptk := rfl
@[simp] theorem mapSheets_gsc (s : State) (f : Sheet → Sheet) : (s.mapSheets f).gsc = s.gsc := rfl
@[simp] theorem mapSheets_bnm (s : State) (f : Sheet → Sheet) : (s.mapSheets f).bnm = s.bnm := rfl
@[simp] theorem mapSheets_jam (s : State) (f : Sheet → Sheet) : (s.mapSheets f).jam = s.jam := rfl
@[simp] theorem mapSheets_tsv (s : State) (f : Sheet → Sheet) : (s.mapSheets f).tsv = s.tsv := rfl
@[simp] theorem mapSheets_profile (s : State) (f : Sheet → Sheet) : (s.mapSheets f).profile = s.profile := rfl
@[simp] theorem mapSheets_cpt (s : State) (f : Sheet → Sheet) : (s.mapSheets f).cpt = s.cpt := rfl
@[simp] theorem mapSheets_lines (s : State) (f : Sheet → Sheet) : (s.mapSheets f).lines = s.lines := rfl
@[simp] theorem mapSheets_requests (s : State) (f : Sheet → Sheet) : (s.mapSheets f).requests = s.requests := rfl

/-! ### handFault -/
@[simp] theorem handFault_pending (s : State) (cause : JamCause) (sensor : Sensor) (tag : Option Tag) : (s.handFault cause sensor tag).pending = s.pending := rfl
@[simp] theorem handFault_stu (s : State) (cause : JamCause) (sensor : Sensor) (tag : Option Tag) : (s.handFault cause sensor tag).stu = s.stu := rfl
@[simp] theorem handFault_sheets (s : State) (cause : JamCause) (sensor : Sensor) (tag : Option Tag) : (s.handFault cause sensor tag).sheets = s.sheets := rfl
@[simp] theorem handFault_adm (s : State) (cause : JamCause) (sensor : Sensor) (tag : Option Tag) : (s.handFault cause sensor tag).adm = s.adm := rfl
@[simp] theorem handFault_tsq (s : State) (cause : JamCause) (sensor : Sensor) (tag : Option Tag) : (s.handFault cause sensor tag).tsq = s.tsq := rfl
@[simp] theorem handFault_ptk (s : State) (cause : JamCause) (sensor : Sensor) (tag : Option Tag) : (s.handFault cause sensor tag).ptk = s.ptk := rfl
@[simp] theorem handFault_gsc (s : State) (cause : JamCause) (sensor : Sensor) (tag : Option Tag) : (s.handFault cause sensor tag).gsc = s.gsc := rfl
@[simp] theorem handFault_bnm (s : State) (cause : JamCause) (sensor : Sensor) (tag : Option Tag) : (s.handFault cause sensor tag).bnm = s.bnm := rfl
@[simp] theorem handFault_jam (s : State) (cause : JamCause) (sensor : Sensor) (tag : Option Tag) : (s.handFault cause sensor tag).jam = s.jam := rfl
@[simp] theorem handFault_tsv (s : State) (cause : JamCause) (sensor : Sensor) (tag : Option Tag) : (s.handFault cause sensor tag).tsv = s.tsv := rfl
@[simp] theorem handFault_profile (s : State) (cause : JamCause) (sensor : Sensor) (tag : Option Tag) : (s.handFault cause sensor tag).profile = s.profile := rfl
@[simp] theorem handFault_cpt (s : State) (cause : JamCause) (sensor : Sensor) (tag : Option Tag) : (s.handFault cause sensor tag).cpt = s.cpt := rfl
@[simp] theorem handFault_lines (s : State) (cause : JamCause) (sensor : Sensor) (tag : Option Tag) : (s.handFault cause sensor tag).lines = s.lines := rfl

/-! ### askBreak -/
@[simp] theorem askBreak_pending (s : State) (slot : Slot) (generation : Nat) (cause : BreakCause) (opening : Option Word) : (s.askBreak slot generation cause opening).pending = s.pending := rfl
@[simp] theorem askBreak_stu (s : State) (slot : Slot) (generation : Nat) (cause : BreakCause) (opening : Option Word) : (s.askBreak slot generation cause opening).stu = s.stu := rfl
@[simp] theorem askBreak_sheets (s : State) (slot : Slot) (generation : Nat) (cause : BreakCause) (opening : Option Word) : (s.askBreak slot generation cause opening).sheets = s.sheets := rfl
@[simp] theorem askBreak_adm (s : State) (slot : Slot) (generation : Nat) (cause : BreakCause) (opening : Option Word) : (s.askBreak slot generation cause opening).adm = s.adm := rfl
@[simp] theorem askBreak_tsq (s : State) (slot : Slot) (generation : Nat) (cause : BreakCause) (opening : Option Word) : (s.askBreak slot generation cause opening).tsq = s.tsq := rfl
@[simp] theorem askBreak_ptk (s : State) (slot : Slot) (generation : Nat) (cause : BreakCause) (opening : Option Word) : (s.askBreak slot generation cause opening).ptk = s.ptk := rfl
@[simp] theorem askBreak_gsc (s : State) (slot : Slot) (generation : Nat) (cause : BreakCause) (opening : Option Word) : (s.askBreak slot generation cause opening).gsc = s.gsc := rfl
@[simp] theorem askBreak_bnm (s : State) (slot : Slot) (generation : Nat) (cause : BreakCause) (opening : Option Word) : (s.askBreak slot generation cause opening).bnm = s.bnm := rfl
@[simp] theorem askBreak_jam (s : State) (slot : Slot) (generation : Nat) (cause : BreakCause) (opening : Option Word) : (s.askBreak slot generation cause opening).jam = s.jam := rfl
@[simp] theorem askBreak_tsv (s : State) (slot : Slot) (generation : Nat) (cause : BreakCause) (opening : Option Word) : (s.askBreak slot generation cause opening).tsv = s.tsv := rfl
@[simp] theorem askBreak_profile (s : State) (slot : Slot) (generation : Nat) (cause : BreakCause) (opening : Option Word) : (s.askBreak slot generation cause opening).profile = s.profile := rfl
@[simp] theorem askBreak_cpt (s : State) (slot : Slot) (generation : Nat) (cause : BreakCause) (opening : Option Word) : (s.askBreak slot generation cause opening).cpt = s.cpt := rfl
@[simp] theorem askBreak_lines (s : State) (slot : Slot) (generation : Nat) (cause : BreakCause) (opening : Option Word) : (s.askBreak slot generation cause opening).lines = s.lines := rfl

/-! ### claimCondemn -/
@[simp] theorem claimCondemn_pending (s : State) (c : CondemnClaim) : (s.claimCondemn c).pending = s.pending := rfl
@[simp] theorem claimCondemn_stu (s : State) (c : CondemnClaim) : (s.claimCondemn c).stu = s.stu := rfl
@[simp] theorem claimCondemn_sheets (s : State) (c : CondemnClaim) : (s.claimCondemn c).sheets = s.sheets := rfl
@[simp] theorem claimCondemn_adm (s : State) (c : CondemnClaim) : (s.claimCondemn c).adm = s.adm := rfl
@[simp] theorem claimCondemn_tsq (s : State) (c : CondemnClaim) : (s.claimCondemn c).tsq = s.tsq := rfl
@[simp] theorem claimCondemn_ptk (s : State) (c : CondemnClaim) : (s.claimCondemn c).ptk = s.ptk := rfl
@[simp] theorem claimCondemn_gsc (s : State) (c : CondemnClaim) : (s.claimCondemn c).gsc = s.gsc := rfl
@[simp] theorem claimCondemn_bnm (s : State) (c : CondemnClaim) : (s.claimCondemn c).bnm = s.bnm := rfl
@[simp] theorem claimCondemn_jam (s : State) (c : CondemnClaim) : (s.claimCondemn c).jam = s.jam := rfl
@[simp] theorem claimCondemn_tsv (s : State) (c : CondemnClaim) : (s.claimCondemn c).tsv = s.tsv := rfl
@[simp] theorem claimCondemn_profile (s : State) (c : CondemnClaim) : (s.claimCondemn c).profile = s.profile := rfl
@[simp] theorem claimCondemn_cpt (s : State) (c : CondemnClaim) : (s.claimCondemn c).cpt = s.cpt := rfl
@[simp] theorem claimCondemn_lines (s : State) (c : CondemnClaim) : (s.claimCondemn c).lines = s.lines := rfl

/-! ### askReroute -/
@[simp] theorem askReroute_pending (s : State) (r : RerouteRequest) : (s.askReroute r).pending = s.pending := rfl
@[simp] theorem askReroute_stu (s : State) (r : RerouteRequest) : (s.askReroute r).stu = s.stu := rfl
@[simp] theorem askReroute_sheets (s : State) (r : RerouteRequest) : (s.askReroute r).sheets = s.sheets := rfl
@[simp] theorem askReroute_adm (s : State) (r : RerouteRequest) : (s.askReroute r).adm = s.adm := rfl
@[simp] theorem askReroute_tsq (s : State) (r : RerouteRequest) : (s.askReroute r).tsq = s.tsq := rfl
@[simp] theorem askReroute_ptk (s : State) (r : RerouteRequest) : (s.askReroute r).ptk = s.ptk := rfl
@[simp] theorem askReroute_gsc (s : State) (r : RerouteRequest) : (s.askReroute r).gsc = s.gsc := rfl
@[simp] theorem askReroute_bnm (s : State) (r : RerouteRequest) : (s.askReroute r).bnm = s.bnm := rfl
@[simp] theorem askReroute_jam (s : State) (r : RerouteRequest) : (s.askReroute r).jam = s.jam := rfl
@[simp] theorem askReroute_tsv (s : State) (r : RerouteRequest) : (s.askReroute r).tsv = s.tsv := rfl
@[simp] theorem askReroute_profile (s : State) (r : RerouteRequest) : (s.askReroute r).profile = s.profile := rfl
@[simp] theorem askReroute_cpt (s : State) (r : RerouteRequest) : (s.askReroute r).cpt = s.cpt := rfl
@[simp] theorem askReroute_lines (s : State) (r : RerouteRequest) : (s.askReroute r).lines = s.lines := rfl

/-! ### askFlush -/
@[simp] theorem askFlush_pending (s : State) (slot : Slot) (generation : Nat) : (s.askFlush slot generation).pending = s.pending := rfl
@[simp] theorem askFlush_stu (s : State) (slot : Slot) (generation : Nat) : (s.askFlush slot generation).stu = s.stu := rfl
@[simp] theorem askFlush_sheets (s : State) (slot : Slot) (generation : Nat) : (s.askFlush slot generation).sheets = s.sheets := rfl
@[simp] theorem askFlush_adm (s : State) (slot : Slot) (generation : Nat) : (s.askFlush slot generation).adm = s.adm := rfl
@[simp] theorem askFlush_tsq (s : State) (slot : Slot) (generation : Nat) : (s.askFlush slot generation).tsq = s.tsq := rfl
@[simp] theorem askFlush_ptk (s : State) (slot : Slot) (generation : Nat) : (s.askFlush slot generation).ptk = s.ptk := rfl
@[simp] theorem askFlush_gsc (s : State) (slot : Slot) (generation : Nat) : (s.askFlush slot generation).gsc = s.gsc := rfl
@[simp] theorem askFlush_bnm (s : State) (slot : Slot) (generation : Nat) : (s.askFlush slot generation).bnm = s.bnm := rfl
@[simp] theorem askFlush_jam (s : State) (slot : Slot) (generation : Nat) : (s.askFlush slot generation).jam = s.jam := rfl
@[simp] theorem askFlush_tsv (s : State) (slot : Slot) (generation : Nat) : (s.askFlush slot generation).tsv = s.tsv := rfl
@[simp] theorem askFlush_profile (s : State) (slot : Slot) (generation : Nat) : (s.askFlush slot generation).profile = s.profile := rfl
@[simp] theorem askFlush_cpt (s : State) (slot : Slot) (generation : Nat) : (s.askFlush slot generation).cpt = s.cpt := rfl
@[simp] theorem askFlush_lines (s : State) (slot : Slot) (generation : Nat) : (s.askFlush slot generation).lines = s.lines := rfl

/-! ### askBin -/
@[simp] theorem askBin_pending (s : State) (r : BinRequest) : (s.askBin r).pending = s.pending := rfl
@[simp] theorem askBin_stu (s : State) (r : BinRequest) : (s.askBin r).stu = s.stu := rfl
@[simp] theorem askBin_sheets (s : State) (r : BinRequest) : (s.askBin r).sheets = s.sheets := rfl
@[simp] theorem askBin_adm (s : State) (r : BinRequest) : (s.askBin r).adm = s.adm := rfl
@[simp] theorem askBin_tsq (s : State) (r : BinRequest) : (s.askBin r).tsq = s.tsq := rfl
@[simp] theorem askBin_ptk (s : State) (r : BinRequest) : (s.askBin r).ptk = s.ptk := rfl
@[simp] theorem askBin_gsc (s : State) (r : BinRequest) : (s.askBin r).gsc = s.gsc := rfl
@[simp] theorem askBin_bnm (s : State) (r : BinRequest) : (s.askBin r).bnm = s.bnm := rfl
@[simp] theorem askBin_jam (s : State) (r : BinRequest) : (s.askBin r).jam = s.jam := rfl
@[simp] theorem askBin_tsv (s : State) (r : BinRequest) : (s.askBin r).tsv = s.tsv := rfl
@[simp] theorem askBin_profile (s : State) (r : BinRequest) : (s.askBin r).profile = s.profile := rfl
@[simp] theorem askBin_cpt (s : State) (r : BinRequest) : (s.askBin r).cpt = s.cpt := rfl
@[simp] theorem askBin_lines (s : State) (r : BinRequest) : (s.askBin r).lines = s.lines := rfl

/-! ### answer -/
@[simp] theorem answer_pending (s : State) (a : Answer) : (s.answer a).pending = s.pending := rfl
@[simp] theorem answer_stu (s : State) (a : Answer) : (s.answer a).stu = s.stu := rfl
@[simp] theorem answer_sheets (s : State) (a : Answer) : (s.answer a).sheets = s.sheets := rfl
@[simp] theorem answer_adm (s : State) (a : Answer) : (s.answer a).adm = s.adm := rfl
@[simp] theorem answer_tsq (s : State) (a : Answer) : (s.answer a).tsq = s.tsq := rfl
@[simp] theorem answer_ptk (s : State) (a : Answer) : (s.answer a).ptk = s.ptk := rfl
@[simp] theorem answer_gsc (s : State) (a : Answer) : (s.answer a).gsc = s.gsc := rfl
@[simp] theorem answer_bnm (s : State) (a : Answer) : (s.answer a).bnm = s.bnm := rfl
@[simp] theorem answer_jam (s : State) (a : Answer) : (s.answer a).jam = s.jam := rfl
@[simp] theorem answer_tsv (s : State) (a : Answer) : (s.answer a).tsv = s.tsv := rfl
@[simp] theorem answer_profile (s : State) (a : Answer) : (s.answer a).profile = s.profile := rfl
@[simp] theorem answer_lines (s : State) (a : Answer) : (s.answer a).lines = s.lines := rfl
@[simp] theorem answer_requests (s : State) (a : Answer) : (s.answer a).requests = s.requests := rfl

/-! ### setPitches -/
@[simp] theorem setPitches_pending (s : State) (ps : List Pitch) : (s.setPitches ps).pending = s.pending := rfl
@[simp] theorem setPitches_stu (s : State) (ps : List Pitch) : (s.setPitches ps).stu = s.stu := rfl
@[simp] theorem setPitches_sheets (s : State) (ps : List Pitch) : (s.setPitches ps).sheets = s.sheets := rfl
@[simp] theorem setPitches_adm (s : State) (ps : List Pitch) : (s.setPitches ps).adm = s.adm := rfl
@[simp] theorem setPitches_ptk (s : State) (ps : List Pitch) : (s.setPitches ps).ptk = s.ptk := rfl
@[simp] theorem setPitches_gsc (s : State) (ps : List Pitch) : (s.setPitches ps).gsc = s.gsc := rfl
@[simp] theorem setPitches_bnm (s : State) (ps : List Pitch) : (s.setPitches ps).bnm = s.bnm := rfl
@[simp] theorem setPitches_jam (s : State) (ps : List Pitch) : (s.setPitches ps).jam = s.jam := rfl
@[simp] theorem setPitches_tsv (s : State) (ps : List Pitch) : (s.setPitches ps).tsv = s.tsv := rfl
@[simp] theorem setPitches_profile (s : State) (ps : List Pitch) : (s.setPitches ps).profile = s.profile := rfl
@[simp] theorem setPitches_cpt (s : State) (ps : List Pitch) : (s.setPitches ps).cpt = s.cpt := rfl
@[simp] theorem setPitches_lines (s : State) (ps : List Pitch) : (s.setPitches ps).lines = s.lines := rfl
@[simp] theorem setPitches_requests (s : State) (ps : List Pitch) : (s.setPitches ps).requests = s.requests := rfl

/-! ### updatePitch -/
@[simp] theorem updatePitch_pending (s : State) (t : Tag) (f : Pitch → Pitch) : (s.updatePitch t f).pending = s.pending := rfl
@[simp] theorem updatePitch_stu (s : State) (t : Tag) (f : Pitch → Pitch) : (s.updatePitch t f).stu = s.stu := rfl
@[simp] theorem updatePitch_sheets (s : State) (t : Tag) (f : Pitch → Pitch) : (s.updatePitch t f).sheets = s.sheets := rfl
@[simp] theorem updatePitch_adm (s : State) (t : Tag) (f : Pitch → Pitch) : (s.updatePitch t f).adm = s.adm := rfl
@[simp] theorem updatePitch_ptk (s : State) (t : Tag) (f : Pitch → Pitch) : (s.updatePitch t f).ptk = s.ptk := rfl
@[simp] theorem updatePitch_gsc (s : State) (t : Tag) (f : Pitch → Pitch) : (s.updatePitch t f).gsc = s.gsc := rfl
@[simp] theorem updatePitch_bnm (s : State) (t : Tag) (f : Pitch → Pitch) : (s.updatePitch t f).bnm = s.bnm := rfl
@[simp] theorem updatePitch_jam (s : State) (t : Tag) (f : Pitch → Pitch) : (s.updatePitch t f).jam = s.jam := rfl
@[simp] theorem updatePitch_tsv (s : State) (t : Tag) (f : Pitch → Pitch) : (s.updatePitch t f).tsv = s.tsv := rfl
@[simp] theorem updatePitch_profile (s : State) (t : Tag) (f : Pitch → Pitch) : (s.updatePitch t f).profile = s.profile := rfl
@[simp] theorem updatePitch_cpt (s : State) (t : Tag) (f : Pitch → Pitch) : (s.updatePitch t f).cpt = s.cpt := rfl
@[simp] theorem updatePitch_lines (s : State) (t : Tag) (f : Pitch → Pitch) : (s.updatePitch t f).lines = s.lines := rfl
@[simp] theorem updatePitch_requests (s : State) (t : Tag) (f : Pitch → Pitch) : (s.updatePitch t f).requests = s.requests := rfl

/-! ### removePitch -/
@[simp] theorem removePitch_pending (s : State) (t : Tag) : (s.removePitch t).pending = s.pending := rfl
@[simp] theorem removePitch_stu (s : State) (t : Tag) : (s.removePitch t).stu = s.stu := rfl
@[simp] theorem removePitch_sheets (s : State) (t : Tag) : (s.removePitch t).sheets = s.sheets := rfl
@[simp] theorem removePitch_adm (s : State) (t : Tag) : (s.removePitch t).adm = s.adm := rfl
@[simp] theorem removePitch_ptk (s : State) (t : Tag) : (s.removePitch t).ptk = s.ptk := rfl
@[simp] theorem removePitch_gsc (s : State) (t : Tag) : (s.removePitch t).gsc = s.gsc := rfl
@[simp] theorem removePitch_bnm (s : State) (t : Tag) : (s.removePitch t).bnm = s.bnm := rfl
@[simp] theorem removePitch_jam (s : State) (t : Tag) : (s.removePitch t).jam = s.jam := rfl
@[simp] theorem removePitch_tsv (s : State) (t : Tag) : (s.removePitch t).tsv = s.tsv := rfl
@[simp] theorem removePitch_profile (s : State) (t : Tag) : (s.removePitch t).profile = s.profile := rfl
@[simp] theorem removePitch_cpt (s : State) (t : Tag) : (s.removePitch t).cpt = s.cpt := rfl
@[simp] theorem removePitch_lines (s : State) (t : Tag) : (s.removePitch t).lines = s.lines := rfl
@[simp] theorem removePitch_requests (s : State) (t : Tag) : (s.removePitch t).requests = s.requests := rfl

/-! ### setTransferEnable -/
@[simp] theorem setTransferEnable_pending (s : State) (v : Bool) : (s.setTransferEnable v).pending = s.pending := rfl
@[simp] theorem setTransferEnable_stu (s : State) (v : Bool) : (s.setTransferEnable v).stu = s.stu := rfl
@[simp] theorem setTransferEnable_sheets (s : State) (v : Bool) : (s.setTransferEnable v).sheets = s.sheets := rfl
@[simp] theorem setTransferEnable_adm (s : State) (v : Bool) : (s.setTransferEnable v).adm = s.adm := rfl
@[simp] theorem setTransferEnable_ptk (s : State) (v : Bool) : (s.setTransferEnable v).ptk = s.ptk := rfl
@[simp] theorem setTransferEnable_gsc (s : State) (v : Bool) : (s.setTransferEnable v).gsc = s.gsc := rfl
@[simp] theorem setTransferEnable_bnm (s : State) (v : Bool) : (s.setTransferEnable v).bnm = s.bnm := rfl
@[simp] theorem setTransferEnable_jam (s : State) (v : Bool) : (s.setTransferEnable v).jam = s.jam := rfl
@[simp] theorem setTransferEnable_tsv (s : State) (v : Bool) : (s.setTransferEnable v).tsv = s.tsv := rfl
@[simp] theorem setTransferEnable_profile (s : State) (v : Bool) : (s.setTransferEnable v).profile = s.profile := rfl
@[simp] theorem setTransferEnable_cpt (s : State) (v : Bool) : (s.setTransferEnable v).cpt = s.cpt := rfl
@[simp] theorem setTransferEnable_lines (s : State) (v : Bool) : (s.setTransferEnable v).lines = s.lines := rfl
@[simp] theorem setTransferEnable_requests (s : State) (v : Bool) : (s.setTransferEnable v).requests = s.requests := rfl

/-! ### notify -/
@[simp] theorem notify_pending (s : State) (n : Notice) : (s.notify n).pending = s.pending := by unfold notify; split <;> rfl
@[simp] theorem notify_stu (s : State) (n : Notice) : (s.notify n).stu = s.stu := by unfold notify; split <;> rfl
@[simp] theorem notify_sheets (s : State) (n : Notice) : (s.notify n).sheets = s.sheets := by unfold notify; split <;> rfl
@[simp] theorem notify_adm (s : State) (n : Notice) : (s.notify n).adm = s.adm := by unfold notify; split <;> rfl
@[simp] theorem notify_tsq (s : State) (n : Notice) : (s.notify n).tsq = s.tsq := by unfold notify; split <;> rfl
@[simp] theorem notify_ptk (s : State) (n : Notice) : (s.notify n).ptk = s.ptk := by unfold notify; split <;> rfl
@[simp] theorem notify_gsc (s : State) (n : Notice) : (s.notify n).gsc = s.gsc := by unfold notify; split <;> rfl
@[simp] theorem notify_bnm (s : State) (n : Notice) : (s.notify n).bnm = s.bnm := by unfold notify; split <;> rfl
@[simp] theorem notify_jam (s : State) (n : Notice) : (s.notify n).jam = s.jam := by unfold notify; split <;> rfl
@[simp] theorem notify_tsv (s : State) (n : Notice) : (s.notify n).tsv = s.tsv := by unfold notify; split <;> rfl
@[simp] theorem notify_profile (s : State) (n : Notice) : (s.notify n).profile = s.profile := by unfold notify; split <;> rfl
@[simp] theorem notify_lines (s : State) (n : Notice) : (s.notify n).lines = s.lines := by unfold notify; split <;> rfl
@[simp] theorem notify_requests (s : State) (n : Notice) : (s.notify n).requests = s.requests := by unfold notify; split <;> rfl

/-! ### setQueue -/
@[simp] theorem setQueue_pending (s : State) (q : Queue) (l : List Entry) : (s.setQueue q l).pending = s.pending := by cases q <;> rfl
@[simp] theorem setQueue_stu (s : State) (q : Queue) (l : List Entry) : (s.setQueue q l).stu = s.stu := by cases q <;> rfl
@[simp] theorem setQueue_sheets (s : State) (q : Queue) (l : List Entry) : (s.setQueue q l).sheets = s.sheets := by cases q <;> rfl
@[simp] theorem setQueue_tsq (s : State) (q : Queue) (l : List Entry) : (s.setQueue q l).tsq = s.tsq := by cases q <;> rfl
@[simp] theorem setQueue_ptk (s : State) (q : Queue) (l : List Entry) : (s.setQueue q l).ptk = s.ptk := by cases q <;> rfl
@[simp] theorem setQueue_gsc (s : State) (q : Queue) (l : List Entry) : (s.setQueue q l).gsc = s.gsc := by cases q <;> rfl
@[simp] theorem setQueue_bnm (s : State) (q : Queue) (l : List Entry) : (s.setQueue q l).bnm = s.bnm := by cases q <;> rfl
@[simp] theorem setQueue_jam (s : State) (q : Queue) (l : List Entry) : (s.setQueue q l).jam = s.jam := by cases q <;> rfl
@[simp] theorem setQueue_tsv (s : State) (q : Queue) (l : List Entry) : (s.setQueue q l).tsv = s.tsv := by cases q <;> rfl
@[simp] theorem setQueue_profile (s : State) (q : Queue) (l : List Entry) : (s.setQueue q l).profile = s.profile := by cases q <;> rfl
@[simp] theorem setQueue_cpt (s : State) (q : Queue) (l : List Entry) : (s.setQueue q l).cpt = s.cpt := by cases q <;> rfl
@[simp] theorem setQueue_lines (s : State) (q : Queue) (l : List Entry) : (s.setQueue q l).lines = s.lines := by cases q <;> rfl
@[simp] theorem setQueue_requests (s : State) (q : Queue) (l : List Entry) : (s.setQueue q l).requests = s.requests := by cases q <;> rfl

/-! ### setHold -/
@[simp] theorem setHold_pending (s : State) (q : Queue) (h : HoldReason) : (s.setHold q h).pending = s.pending := by cases q <;> rfl
@[simp] theorem setHold_stu (s : State) (q : Queue) (h : HoldReason) : (s.setHold q h).stu = s.stu := by cases q <;> rfl
@[simp] theorem setHold_sheets (s : State) (q : Queue) (h : HoldReason) : (s.setHold q h).sheets = s.sheets := by cases q <;> rfl
@[simp] theorem setHold_tsq (s : State) (q : Queue) (h : HoldReason) : (s.setHold q h).tsq = s.tsq := by cases q <;> rfl
@[simp] theorem setHold_ptk (s : State) (q : Queue) (h : HoldReason) : (s.setHold q h).ptk = s.ptk := by cases q <;> rfl
@[simp] theorem setHold_gsc (s : State) (q : Queue) (h : HoldReason) : (s.setHold q h).gsc = s.gsc := by cases q <;> rfl
@[simp] theorem setHold_bnm (s : State) (q : Queue) (h : HoldReason) : (s.setHold q h).bnm = s.bnm := by cases q <;> rfl
@[simp] theorem setHold_jam (s : State) (q : Queue) (h : HoldReason) : (s.setHold q h).jam = s.jam := by cases q <;> rfl
@[simp] theorem setHold_tsv (s : State) (q : Queue) (h : HoldReason) : (s.setHold q h).tsv = s.tsv := by cases q <;> rfl
@[simp] theorem setHold_profile (s : State) (q : Queue) (h : HoldReason) : (s.setHold q h).profile = s.profile := by cases q <;> rfl
@[simp] theorem setHold_cpt (s : State) (q : Queue) (h : HoldReason) : (s.setHold q h).cpt = s.cpt := by cases q <;> rfl
@[simp] theorem setHold_lines (s : State) (q : Queue) (h : HoldReason) : (s.setHold q h).lines = s.lines := by cases q <;> rfl
@[simp] theorem setHold_requests (s : State) (q : Queue) (h : HoldReason) : (s.setHold q h).requests = s.requests := by cases q <;> rfl

/-! ### Reading after writing -/

theorem statement_setStatement (s : State) (i j : Slot) (r : Option Statement) :
    (s.setStatement i r).statement j = if i = j then r else s.statement j := by
  simp [statement, setStatement, Vector.getElem_set, Fin.ext_iff]

theorem sheet_setSheet (s : State) (t u : Tag) (r : Option Sheet) :
    (s.setSheet t r).sheet u = if t = u then r else s.sheet u := by
  simp [sheet, setSheet, Vector.getElem_set, Fin.ext_iff]

theorem sheet_mapSheets (s : State) (f : Sheet → Sheet) (t : Tag) :
    (s.mapSheets f).sheet t = (s.sheet t).map f := by
  simp [sheet, mapSheets]

theorem sensor_idx (x y : Sensor) : x.idx.val = y.idx.val ↔ x = y := by cases x <;> cases y <;> decide

theorem bin_idx (b c : Bin) : b.idx.val = c.idx.val ↔ b = c := by cases b <;> cases c <;> decide

theorem gate_idx (g h : Gate) : g.idx.val = h.idx.val ↔ g = h := by cases g <;> cases h <;> decide

theorem bin_setBin (s : State) (b c : Bin) (r : BinRecord) :
    (s.setBin b r).bin c = if b = c then r else s.bin c := by
  simp [bin, setBin, Vector.getElem_set, bin_idx]

theorem gate_setGate (s : State) (g h : Gate) (r : GateRecord) :
    (s.setGate g r).gate h = if g = h then r else s.gate h := by
  simp [gate, setGate, Vector.getElem_set, gate_idx]

theorem list_setList (s : State) (x y : Sensor) (l : List Expectation) :
    (s.setList x l).list y = if x = y then l else s.list y := by
  simp [list, setList, Vector.getElem_set, sensor_idx]

theorem condition_setCondition (s : State) (t u : Tray) (c : TrayCondition) :
    (s.setCondition t c).condition u = if t = u then c else s.condition u := by
  cases t <;> cases u <;> simp [condition, setCondition, Tray.idx]

theorem queue_setQueue (s : State) (p q : Queue) (l : List Entry) :
    (s.setQueue p l).queue q = if p = q then l else s.queue q := by
  cases p <;> cases q <;> simp [queue, setQueue]

theorem hold_setHold (s : State) (p q : Queue) (h : HoldReason) :
    (s.setHold p h).hold q = if p = q then h else s.hold q := by
  cases p <;> cases q <;> simp [hold, setHold]

/-- A queue of at most 32 notices stays so (R186). -/
theorem notify_bounded (s : State) (n : Notice) (h : s.cpt.notices.length ≤ 32) :
    (s.notify n).cpt.notices.length ≤ 32 := by
  unfold notify
  split
  · simp; omega
  · exact h

/-- With room in the queue a notice is placed at the tail (R186). -/
theorem notify_room (s : State) (n : Notice) (h : s.cpt.notices.length < 32) :
    s.notify n = { s with cpt := { s.cpt with notices := s.cpt.notices ++ [n] } } := by
  simp [notify, h]

/-- A notice changes nothing of the port but the queue and NOTICE LOST. -/
theorem notify_cpt (s : State) (n : Notice) :
    (s.notify n).cpt = { s.cpt with
      notices := (s.notify n).cpt.notices, noticeLost := (s.notify n).cpt.noticeLost } := by
  unfold notify; split <;> rfl

end State

end Sys2Proof.Machine
end

