-- ==== Sys2Proof/Laws/FrameSheets.lean ====
section
/-! SUPPORT. Which blocks each operation of the Sheet Table Unit leaves as they were. -/

namespace Sys2Proof.Machine

set_option Elab.async false
set_option linter.unusedSimpArgs false

@[simp] theorem claim_frame (s : State) (t : Tag) (o : Owner) (f : Sheet → Option Sheet) :
    (s.claim t o f).pending = s.pending ∧ (s.claim t o f).stu = s.stu ∧ (s.claim t o f).adm = s.adm ∧
    (s.claim t o f).tsq = s.tsq ∧ (s.claim t o f).ptk = s.ptk ∧ (s.claim t o f).gsc = s.gsc ∧
    (s.claim t o f).bnm = s.bnm ∧ (s.claim t o f).jam = s.jam ∧ (s.claim t o f).tsv = s.tsv ∧
    (s.claim t o f).profile = s.profile ∧ (s.claim t o f).cpt = s.cpt ∧ (s.claim t o f).lines = s.lines ∧
    (s.claim t o f).requests = s.requests := by
  unfold State.claim
  split <;> simp

@[simp] theorem claimLead_frame (s : State) (t : Tag) (o : Owner) (x : Sensor) (c : Count) :
    (claimLead s t o x c).pending = s.pending ∧ (claimLead s t o x c).stu = s.stu ∧
    (claimLead s t o x c).adm = s.adm ∧ (claimLead s t o x c).tsq = s.tsq ∧ (claimLead s t o x c).ptk = s.ptk ∧
    (claimLead s t o x c).gsc = s.gsc ∧ (claimLead s t o x c).bnm = s.bnm ∧ (claimLead s t o x c).jam = s.jam ∧
    (claimLead s t o x c).tsv = s.tsv ∧ (claimLead s t o x c).profile = s.profile ∧
    (claimLead s t o x c).cpt = s.cpt ∧ (claimLead s t o x c).lines = s.lines ∧
    (claimLead s t o x c).requests = s.requests := by
  unfold claimLead
  (repeat' (first | split | (dsimp only; split))) <;> simp

@[simp] theorem claimTrail_frame (s : State) (t : Tag) (o : Owner) (x : Sensor) :
    (claimTrail s t o x).pending = s.pending ∧ (claimTrail s t o x).stu = s.stu ∧ (claimTrail s t o x).adm = s.adm ∧
    (claimTrail s t o x).tsq = s.tsq ∧ (claimTrail s t o x).ptk = s.ptk ∧ (claimTrail s t o x).gsc = s.gsc ∧
    (claimTrail s t o x).bnm = s.bnm ∧ (claimTrail s t o x).jam = s.jam ∧ (claimTrail s t o x).tsv = s.tsv ∧
    (claimTrail s t o x).profile = s.profile ∧ (claimTrail s t o x).cpt = s.cpt ∧
    (claimTrail s t o x).lines = s.lines ∧ (claimTrail s t o x).requests = s.requests := by
  unfold claimTrail
  (repeat' (first | split | (dsimp only; split))) <;> simp

@[simp] theorem claimPark_frame (s : State) (t : Tag) (o : Owner) :
    (claimPark s t o).pending = s.pending ∧ (claimPark s t o).stu = s.stu ∧ (claimPark s t o).adm = s.adm ∧
    (claimPark s t o).tsq = s.tsq ∧ (claimPark s t o).ptk = s.ptk ∧ (claimPark s t o).gsc = s.gsc ∧
    (claimPark s t o).bnm = s.bnm ∧ (claimPark s t o).jam = s.jam ∧ (claimPark s t o).tsv = s.tsv ∧
    (claimPark s t o).profile = s.profile ∧ (claimPark s t o).cpt = s.cpt ∧ (claimPark s t o).lines = s.lines ∧
    (claimPark s t o).requests = s.requests := by
  unfold claimPark
  (repeat' (first | split | (dsimp only; split))) <;> simp

@[simp] theorem claimRelease_frame (s : State) (t : Tag) (o : Owner) (c : Count) :
    (claimRelease s t o c).1.pending = s.pending ∧ (claimRelease s t o c).1.stu = s.stu ∧
    (claimRelease s t o c).1.adm = s.adm ∧ (claimRelease s t o c).1.tsq = s.tsq ∧
    (claimRelease s t o c).1.ptk = s.ptk ∧ (claimRelease s t o c).1.gsc = s.gsc ∧
    (claimRelease s t o c).1.bnm = s.bnm ∧ (claimRelease s t o c).1.jam = s.jam ∧
    (claimRelease s t o c).1.tsv = s.tsv ∧ (claimRelease s t o c).1.profile = s.profile ∧
    (claimRelease s t o c).1.cpt = s.cpt ∧ (claimRelease s t o c).1.lines = s.lines ∧
    (claimRelease s t o c).1.requests = s.requests := by
  unfold claimRelease
  (repeat' (first | split | (dsimp only; split))) <;> simp

@[simp] theorem claimSide_frame (s : State) (t : Tag) (slot : Slot) (generation : Nat) (side : Side) (v : SideState) :
    (claimSide s t slot generation side v).pending = s.pending ∧
    (claimSide s t slot generation side v).stu = s.stu ∧ (claimSide s t slot generation side v).adm = s.adm ∧
    (claimSide s t slot generation side v).tsq = s.tsq ∧ (claimSide s t slot generation side v).ptk = s.ptk ∧
    (claimSide s t slot generation side v).gsc = s.gsc ∧ (claimSide s t slot generation side v).bnm = s.bnm ∧
    (claimSide s t slot generation side v).jam = s.jam ∧ (claimSide s t slot generation side v).tsv = s.tsv ∧
    (claimSide s t slot generation side v).profile = s.profile ∧
    (claimSide s t slot generation side v).cpt = s.cpt ∧
    (claimSide s t slot generation side v).lines = s.lines ∧
    (claimSide s t slot generation side v).requests = s.requests := by
  unfold claimSide
  (repeat' (first | split | (dsimp only; split))) <;> simp

@[simp] theorem claimGauge_frame (s : State) (t : Tag) (o : Owner) (g : GaugeResult) :
    (claimGauge s t o g).pending = s.pending ∧ (claimGauge s t o g).stu = s.stu ∧ (claimGauge s t o g).adm = s.adm ∧
    (claimGauge s t o g).tsq = s.tsq ∧ (claimGauge s t o g).ptk = s.ptk ∧ (claimGauge s t o g).gsc = s.gsc ∧
    (claimGauge s t o g).bnm = s.bnm ∧ (claimGauge s t o g).jam = s.jam ∧ (claimGauge s t o g).tsv = s.tsv ∧
    (claimGauge s t o g).profile = s.profile ∧ (claimGauge s t o g).cpt = s.cpt ∧
    (claimGauge s t o g).lines = s.lines ∧ (claimGauge s t o g).requests = s.requests := by
  unfold claimGauge
  (repeat' (first | split | (dsimp only; split))) <;> simp

@[simp] theorem takeCondemn_frame (s : State) (q : CondemnClaim) :
    (takeCondemn s q).pending = s.pending ∧ (takeCondemn s q).stu = s.stu ∧ (takeCondemn s q).adm = s.adm ∧
    (takeCondemn s q).tsq = s.tsq ∧ (takeCondemn s q).ptk = s.ptk ∧ (takeCondemn s q).gsc = s.gsc ∧
    (takeCondemn s q).bnm = s.bnm ∧ (takeCondemn s q).jam = s.jam ∧ (takeCondemn s q).tsv = s.tsv ∧
    (takeCondemn s q).profile = s.profile ∧ (takeCondemn s q).cpt = s.cpt ∧
    (takeCondemn s q).lines = s.lines ∧ (takeCondemn s q).requests = s.requests := by
  unfold takeCondemn
  (repeat' (first | split | (dsimp only; split))) <;> simp

@[simp] theorem claimCommit_frame (s : State) (t : Tag) (o : Owner) :
    (claimCommit s t o).pending = s.pending ∧ (claimCommit s t o).stu = s.stu ∧ (claimCommit s t o).adm = s.adm ∧
    (claimCommit s t o).tsq = s.tsq ∧ (claimCommit s t o).ptk = s.ptk ∧ (claimCommit s t o).gsc = s.gsc ∧
    (claimCommit s t o).bnm = s.bnm ∧ (claimCommit s t o).jam = s.jam ∧ (claimCommit s t o).tsv = s.tsv ∧
    (claimCommit s t o).profile = s.profile ∧ (claimCommit s t o).cpt = s.cpt ∧
    (claimCommit s t o).lines = s.lines ∧ (claimCommit s t o).requests = s.requests := by
  unfold claimCommit
  (repeat' (first | split | (dsimp only; split))) <;> simp

@[simp] theorem retire_frame (s : State) (t : Tag) :
    (retire s t).pending = s.pending ∧ (retire s t).stu = s.stu ∧ (retire s t).adm = s.adm ∧
    (retire s t).tsq = s.tsq ∧ (retire s t).ptk.debounced = s.ptk.debounced ∧
    (retire s t).ptk.debounce = s.ptk.debounce ∧
    (retire s t).ptk.lists = s.ptk.lists ∧
    (retire s t).ptk.release = s.ptk.release ∧
    (retire s t).ptk.park = s.ptk.park ∧
    (retire s t).ptk.frozen = s.ptk.frozen ∧
    (retire s t).ptk.zeroOffset = s.ptk.zeroOffset ∧
    (retire s t).ptk.verdicts = s.ptk.verdicts ∧
    (retire s t).ptk.snapshot = s.ptk.snapshot ∧ (retire s t).gsc = s.gsc ∧
    (retire s t).bnm = s.bnm ∧ (retire s t).jam = s.jam ∧ (retire s t).tsv = s.tsv ∧
    (retire s t).profile = s.profile ∧ (retire s t).cpt = s.cpt ∧ (retire s t).lines = s.lines := by
  unfold retire
  (repeat' (first | split | (dsimp only; split))) <;> simp

@[simp] theorem retireDelivered_frame (s : State) (t : Tag) (o : Owner) :
    (retireDelivered s t o).pending = s.pending ∧ (retireDelivered s t o).stu = s.stu ∧
    (retireDelivered s t o).adm = s.adm ∧ (retireDelivered s t o).tsq = s.tsq ∧
    (retireDelivered s t o).ptk.debounced = s.ptk.debounced ∧
    (retireDelivered s t o).ptk.debounce = s.ptk.debounce ∧
    (retireDelivered s t o).ptk.lists = s.ptk.lists ∧
    (retireDelivered s t o).ptk.release = s.ptk.release ∧
    (retireDelivered s t o).ptk.park = s.ptk.park ∧
    (retireDelivered s t o).ptk.frozen = s.ptk.frozen ∧
    (retireDelivered s t o).ptk.zeroOffset = s.ptk.zeroOffset ∧
    (retireDelivered s t o).ptk.verdicts = s.ptk.verdicts ∧
    (retireDelivered s t o).ptk.snapshot = s.ptk.snapshot ∧ (retireDelivered s t o).gsc = s.gsc ∧
    (retireDelivered s t o).bnm = s.bnm ∧ (retireDelivered s t o).tsv = s.tsv ∧
    (retireDelivered s t o).profile = s.profile ∧ (retireDelivered s t o).cpt = s.cpt ∧
    (retireDelivered s t o).lines = s.lines := by
  unfold retireDelivered
  (repeat' (first | split | (dsimp only; split))) <;> simp

@[simp] theorem sendRetirement_frame (s : State) (t : Tag) (o : Owner) (later : Bool) :
    (sendRetirement s t o later).pending = s.pending ∧ (sendRetirement s t o later).stu = s.stu ∧
    (sendRetirement s t o later).adm = s.adm ∧ (sendRetirement s t o later).tsq = s.tsq ∧
    (sendRetirement s t o later).ptk.debounced = s.ptk.debounced ∧
    (sendRetirement s t o later).ptk.debounce = s.ptk.debounce ∧
    (sendRetirement s t o later).ptk.lists = s.ptk.lists ∧
    (sendRetirement s t o later).ptk.release = s.ptk.release ∧
    (sendRetirement s t o later).ptk.park = s.ptk.park ∧
    (sendRetirement s t o later).ptk.frozen = s.ptk.frozen ∧
    (sendRetirement s t o later).ptk.zeroOffset = s.ptk.zeroOffset ∧
    (sendRetirement s t o later).ptk.verdicts = s.ptk.verdicts ∧
    (sendRetirement s t o later).ptk.snapshot = s.ptk.snapshot ∧ (sendRetirement s t o later).gsc = s.gsc ∧
    (sendRetirement s t o later).bnm = s.bnm ∧ (sendRetirement s t o later).tsv = s.tsv ∧
    (sendRetirement s t o later).profile = s.profile ∧ (sendRetirement s t o later).cpt = s.cpt ∧
    (sendRetirement s t o later).lines = s.lines := by
  unfold sendRetirement
  (repeat' (first | split | (dsimp only; split))) <;> simp

theorem retireFold_frame (l : List Retirement) (s t : State)
    (h : t = l.foldl (fun u q => retireDelivered u q.tag q.owner) s) :
    t.pending = s.pending ∧ t.stu = s.stu ∧
    t.adm = s.adm ∧ t.tsq = s.tsq ∧
    t.ptk.debounced = s.ptk.debounced ∧
    t.ptk.debounce = s.ptk.debounce ∧
    t.ptk.lists = s.ptk.lists ∧
    t.ptk.release = s.ptk.release ∧
    t.ptk.park = s.ptk.park ∧
    t.ptk.frozen = s.ptk.frozen ∧
    t.ptk.zeroOffset = s.ptk.zeroOffset ∧
    t.ptk.verdicts = s.ptk.verdicts ∧
    t.ptk.snapshot = s.ptk.snapshot ∧ t.gsc = s.gsc ∧
    t.bnm = s.bnm ∧ t.tsv = s.tsv ∧
    t.profile = s.profile ∧ t.cpt = s.cpt ∧
    t.lines = s.lines := by
  induction l generalizing s with
  | nil => subst h; simp
  | cons a l ih => simpa using ih (retireDelivered s a.tag a.owner) h

@[simp] theorem takeRetirements_frame (before s : State) :
    (takeRetirements before s).pending = s.pending ∧ (takeRetirements before s).stu = s.stu ∧
    (takeRetirements before s).adm = s.adm ∧ (takeRetirements before s).tsq = s.tsq ∧
    (takeRetirements before s).ptk.debounced = s.ptk.debounced ∧
    (takeRetirements before s).ptk.debounce = s.ptk.debounce ∧
    (takeRetirements before s).ptk.lists = s.ptk.lists ∧
    (takeRetirements before s).ptk.release = s.ptk.release ∧
    (takeRetirements before s).ptk.park = s.ptk.park ∧
    (takeRetirements before s).ptk.frozen = s.ptk.frozen ∧
    (takeRetirements before s).ptk.zeroOffset = s.ptk.zeroOffset ∧
    (takeRetirements before s).ptk.verdicts = s.ptk.verdicts ∧
    (takeRetirements before s).ptk.snapshot = s.ptk.snapshot ∧ (takeRetirements before s).gsc = s.gsc ∧
    (takeRetirements before s).bnm = s.bnm ∧ (takeRetirements before s).tsv = s.tsv ∧
    (takeRetirements before s).profile = s.profile ∧ (takeRetirements before s).cpt = s.cpt ∧
    (takeRetirements before s).lines = s.lines := by
  have h := retireFold_frame _ _ _ (show takeRetirements before s = _ from rfl)
  exact h

/-- With no retirement claim waiting before the step, none is taken. -/
theorem takeRetirements_none {before : State} (h : before.requests.retires = []) (s : State) :
    takeRetirements before s = s := by
  simp [takeRetirements, h]

@[simp] theorem selectRunOut_frame (s : State) :
    (selectRunOut s).pending = s.pending ∧ (selectRunOut s).stu = s.stu ∧ (selectRunOut s).adm = s.adm ∧
    (selectRunOut s).tsq = s.tsq ∧ (selectRunOut s).ptk = s.ptk ∧ (selectRunOut s).gsc = s.gsc ∧
    (selectRunOut s).bnm = s.bnm ∧ (selectRunOut s).jam = s.jam ∧ (selectRunOut s).tsv = s.tsv ∧
    (selectRunOut s).profile = s.profile ∧ (selectRunOut s).cpt = s.cpt ∧ (selectRunOut s).lines = s.lines ∧
    (selectRunOut s).requests = s.requests := by
  unfold selectRunOut
  (repeat' (first | split | (dsimp only; split))) <;> simp

@[simp] theorem strandAll_frame (s : State) :
    (strandAll s).pending = s.pending ∧ (strandAll s).stu = s.stu ∧ (strandAll s).adm = s.adm ∧
    (strandAll s).tsq = s.tsq ∧ (strandAll s).ptk = s.ptk ∧ (strandAll s).gsc = s.gsc ∧
    (strandAll s).bnm = s.bnm ∧ (strandAll s).jam = s.jam ∧ (strandAll s).tsv = s.tsv ∧
    (strandAll s).profile = s.profile ∧ (strandAll s).cpt = s.cpt ∧ (strandAll s).lines = s.lines ∧
    (strandAll s).requests = s.requests := by
  unfold strandAll
  (repeat' (first | split | (dsimp only; split))) <;> simp

@[simp] theorem strandRunOut_frame (s : State) :
    (strandRunOut s).pending = s.pending ∧ (strandRunOut s).stu = s.stu ∧ (strandRunOut s).adm = s.adm ∧
    (strandRunOut s).tsq = s.tsq ∧ (strandRunOut s).ptk = s.ptk ∧ (strandRunOut s).gsc = s.gsc ∧
    (strandRunOut s).bnm = s.bnm ∧ (strandRunOut s).jam = s.jam ∧ (strandRunOut s).tsv = s.tsv ∧
    (strandRunOut s).profile = s.profile ∧ (strandRunOut s).cpt = s.cpt ∧ (strandRunOut s).lines = s.lines ∧
    (strandRunOut s).requests = s.requests := by
  unfold strandRunOut
  (repeat' (first | split | (dsimp only; split))) <;> simp

end Sys2Proof.Machine
end

