-- ==== Sys2Proof/Laws/FrameStatements.lean ====
section
/-! SUPPORT. Which blocks each operation of the Statement Table Unit leaves as they were. -/

namespace Sys2Proof.Machine

set_option Elab.async false
set_option linter.unusedSimpArgs false

@[simp] theorem closeIfClear_frame (s : State) (slot : Slot) :
    (closeIfClear s slot).pending = s.pending ∧ (closeIfClear s slot).stu = s.stu ∧
    (closeIfClear s slot).sheets = s.sheets ∧ (closeIfClear s slot).adm = s.adm ∧
    (closeIfClear s slot).tsq = s.tsq ∧ (closeIfClear s slot).ptk = s.ptk ∧
    (closeIfClear s slot).gsc = s.gsc ∧ (closeIfClear s slot).bnm = s.bnm ∧
    (closeIfClear s slot).jam = s.jam ∧ (closeIfClear s slot).tsv = s.tsv ∧
    (closeIfClear s slot).profile = s.profile ∧ (closeIfClear s slot).cpt = s.cpt ∧
    (closeIfClear s slot).lines = s.lines := by
  unfold closeIfClear
  (repeat' (first | split | (dsimp only; split))) <;> simp

@[simp] theorem reportAdmission_frame (s : State) (slot : Slot) (generation : Nat) (t : Tag) (claimed : Option Bin) :
    (reportAdmission s slot generation t claimed).pending = s.pending ∧
    (reportAdmission s slot generation t claimed).sheets = s.sheets ∧
    (reportAdmission s slot generation t claimed).adm = s.adm ∧
    (reportAdmission s slot generation t claimed).tsq = s.tsq ∧
    (reportAdmission s slot generation t claimed).ptk = s.ptk ∧
    (reportAdmission s slot generation t claimed).gsc = s.gsc ∧
    (reportAdmission s slot generation t claimed).bnm = s.bnm ∧
    (reportAdmission s slot generation t claimed).jam = s.jam ∧
    (reportAdmission s slot generation t claimed).tsv = s.tsv ∧
    (reportAdmission s slot generation t claimed).profile = s.profile ∧
    (reportAdmission s slot generation t claimed).cpt = s.cpt ∧
    (reportAdmission s slot generation t claimed).lines = s.lines := by
  unfold reportAdmission
  (repeat' (first | split | (dsimp only; split))) <;> simp

@[simp] theorem reportWithdrawal_frame (s : State) (slot : Slot) (generation : Nat) :
    (reportWithdrawal s slot generation).1.pending = s.pending ∧
    (reportWithdrawal s slot generation).1.sheets = s.sheets ∧
    (reportWithdrawal s slot generation).1.adm = s.adm ∧ (reportWithdrawal s slot generation).1.tsq = s.tsq ∧
    (reportWithdrawal s slot generation).1.ptk = s.ptk ∧ (reportWithdrawal s slot generation).1.gsc = s.gsc ∧
    (reportWithdrawal s slot generation).1.bnm = s.bnm ∧ (reportWithdrawal s slot generation).1.jam = s.jam ∧
    (reportWithdrawal s slot generation).1.tsv = s.tsv ∧
    (reportWithdrawal s slot generation).1.profile = s.profile ∧
    (reportWithdrawal s slot generation).1.cpt = s.cpt ∧
    (reportWithdrawal s slot generation).1.lines = s.lines := by
  unfold reportWithdrawal
  (repeat' (first | split | (dsimp only; split))) <;> simp

@[simp] theorem reportLoss_frame (s : State) (slot : Slot) (generation : Nat) :
    (reportLoss s slot generation).pending = s.pending ∧ (reportLoss s slot generation).sheets = s.sheets ∧
    (reportLoss s slot generation).adm = s.adm ∧ (reportLoss s slot generation).tsq = s.tsq ∧
    (reportLoss s slot generation).ptk = s.ptk ∧ (reportLoss s slot generation).gsc = s.gsc ∧
    (reportLoss s slot generation).bnm = s.bnm ∧ (reportLoss s slot generation).jam = s.jam ∧
    (reportLoss s slot generation).tsv = s.tsv ∧ (reportLoss s slot generation).profile = s.profile ∧
    (reportLoss s slot generation).cpt = s.cpt ∧ (reportLoss s slot generation).lines = s.lines := by
  unfold reportLoss
  (repeat' (first | split | (dsimp only; split))) <;> simp

@[simp] theorem removeStacked_frame (s : State) (b : Bin) (slot : Slot) (generation : Nat) :
    (removeStacked s b slot generation).pending = s.pending ∧
    (removeStacked s b slot generation).stu = s.stu ∧ (removeStacked s b slot generation).sheets = s.sheets ∧
    (removeStacked s b slot generation).adm = s.adm ∧ (removeStacked s b slot generation).tsq = s.tsq ∧
    (removeStacked s b slot generation).ptk = s.ptk ∧ (removeStacked s b slot generation).gsc = s.gsc ∧
    (removeStacked s b slot generation).jam = s.jam ∧ (removeStacked s b slot generation).tsv = s.tsv ∧
    (removeStacked s b slot generation).profile = s.profile ∧
    (removeStacked s b slot generation).cpt = s.cpt ∧ (removeStacked s b slot generation).lines = s.lines ∧
    (removeStacked s b slot generation).requests = s.requests := by
  unfold removeStacked
  (repeat' (first | split | (dsimp only; split))) <;> simp

@[simp] theorem completeStatement_frame (s : State) (slot : Slot) (r : Statement) (b : Bin) :
    (completeStatement s slot r b).pending = s.pending ∧ (completeStatement s slot r b).sheets = s.sheets ∧
    (completeStatement s slot r b).adm = s.adm ∧ (completeStatement s slot r b).tsq = s.tsq ∧
    (completeStatement s slot r b).ptk = s.ptk ∧ (completeStatement s slot r b).gsc = s.gsc ∧
    (completeStatement s slot r b).jam = s.jam ∧ (completeStatement s slot r b).tsv = s.tsv ∧
    (completeStatement s slot r b).profile = s.profile ∧ (completeStatement s slot r b).lines = s.lines ∧
    (completeStatement s slot r b).requests = s.requests := by
  unfold completeStatement
  (repeat' (first | split | (dsimp only; split))) <;> simp

@[simp] theorem countDelivery_frame (s : State) (slot : Slot) (generation : Nat) (b : Bin) (position : Nat) (condemned : Bool) :
    (countDelivery s slot generation b position condemned).1.pending = s.pending ∧
    (countDelivery s slot generation b position condemned).1.sheets = s.sheets ∧
    (countDelivery s slot generation b position condemned).1.adm = s.adm ∧
    (countDelivery s slot generation b position condemned).1.tsq = s.tsq ∧
    (countDelivery s slot generation b position condemned).1.ptk = s.ptk ∧
    (countDelivery s slot generation b position condemned).1.gsc = s.gsc ∧
    (countDelivery s slot generation b position condemned).1.jam = s.jam ∧
    (countDelivery s slot generation b position condemned).1.tsv = s.tsv ∧
    (countDelivery s slot generation b position condemned).1.profile = s.profile ∧
    (countDelivery s slot generation b position condemned).1.lines = s.lines := by
  unfold countDelivery
  (repeat' (first | split | (dsimp only; split))) <;> simp

@[simp] theorem breakRequests_frame (s : State) (slot : Slot) (r : Statement) (cause : BreakCause) :
    (breakRequests s slot r cause).pending = s.pending ∧ (breakRequests s slot r cause).stu = s.stu ∧
    (breakRequests s slot r cause).sheets = s.sheets ∧ (breakRequests s slot r cause).adm = s.adm ∧
    (breakRequests s slot r cause).tsq = s.tsq ∧ (breakRequests s slot r cause).ptk = s.ptk ∧
    (breakRequests s slot r cause).gsc = s.gsc ∧ (breakRequests s slot r cause).bnm = s.bnm ∧
    (breakRequests s slot r cause).jam = s.jam ∧ (breakRequests s slot r cause).tsv = s.tsv ∧
    (breakRequests s slot r cause).profile = s.profile ∧ (breakRequests s slot r cause).lines = s.lines := by
  unfold breakRequests
  (repeat' (first | split | (dsimp only; split))) <;> simp

@[simp] theorem breakNow_frame (s : State) (slot : Slot) (generation : Nat) (cause : BreakCause) :
    (breakNow s slot generation cause).pending = s.pending ∧
    (breakNow s slot generation cause).sheets = s.sheets ∧ (breakNow s slot generation cause).adm = s.adm ∧
    (breakNow s slot generation cause).tsq = s.tsq ∧ (breakNow s slot generation cause).ptk = s.ptk ∧
    (breakNow s slot generation cause).gsc = s.gsc ∧ (breakNow s slot generation cause).bnm = s.bnm ∧
    (breakNow s slot generation cause).jam = s.jam ∧ (breakNow s slot generation cause).tsv = s.tsv ∧
    (breakNow s slot generation cause).profile = s.profile ∧
    (breakNow s slot generation cause).lines = s.lines := by
  unfold breakNow
  (repeat' (first | split | (dsimp only; split))) <;> simp

@[simp] theorem takeBreak_frame (s : State) (q : BreakRequest) :
    (takeBreak s q).pending = s.pending ∧ (takeBreak s q).sheets = s.sheets ∧ (takeBreak s q).adm = s.adm ∧
    (takeBreak s q).tsq = s.tsq ∧ (takeBreak s q).ptk = s.ptk ∧ (takeBreak s q).gsc = s.gsc ∧
    (takeBreak s q).bnm = s.bnm ∧ (takeBreak s q).jam = s.jam ∧ (takeBreak s q).tsv = s.tsv ∧
    (takeBreak s q).profile = s.profile ∧ (takeBreak s q).lines = s.lines := by
  unfold takeBreak
  (repeat' (first | split | (dsimp only; split))) <;> simp

@[simp] theorem takeBreaksOf_frame (s : State) (slot : Slot) (generation : Nat) (cause : BreakCause) :
    (takeBreaksOf s slot generation cause).pending = s.pending ∧
    (takeBreaksOf s slot generation cause).sheets = s.sheets ∧
    (takeBreaksOf s slot generation cause).adm = s.adm ∧ (takeBreaksOf s slot generation cause).tsq = s.tsq ∧
    (takeBreaksOf s slot generation cause).ptk = s.ptk ∧ (takeBreaksOf s slot generation cause).gsc = s.gsc ∧
    (takeBreaksOf s slot generation cause).bnm = s.bnm ∧ (takeBreaksOf s slot generation cause).jam = s.jam ∧
    (takeBreaksOf s slot generation cause).tsv = s.tsv ∧
    (takeBreaksOf s slot generation cause).profile = s.profile ∧
    (takeBreaksOf s slot generation cause).lines = s.lines := by
  unfold takeBreaksOf
  simp [foldl_keeps]

@[simp] theorem reportDelivery_frame (s : State) (slot : Slot) (generation : Nat) (b : Bin) (position : Nat)
    (condemned : Bool) :
    (reportDelivery s slot generation b position condemned).1.pending = s.pending ∧
    (reportDelivery s slot generation b position condemned).1.sheets = s.sheets ∧
    (reportDelivery s slot generation b position condemned).1.adm = s.adm ∧
    (reportDelivery s slot generation b position condemned).1.tsq = s.tsq ∧
    (reportDelivery s slot generation b position condemned).1.ptk = s.ptk ∧
    (reportDelivery s slot generation b position condemned).1.gsc = s.gsc ∧
    (reportDelivery s slot generation b position condemned).1.jam = s.jam ∧
    (reportDelivery s slot generation b position condemned).1.tsv = s.tsv ∧
    (reportDelivery s slot generation b position condemned).1.profile = s.profile ∧
    (reportDelivery s slot generation b position condemned).1.lines = s.lines := by
  unfold reportDelivery
  simp

end Sys2Proof.Machine
end

