-- ==== Sys2Proof/Laws/FrameBins.lean ====
section
/-! SUPPORT. Which blocks each operation of the Bin Manager leaves as they were. -/

namespace Sys2Proof.Machine

set_option Elab.async false
set_option linter.unusedSimpArgs false

@[simp] theorem reserve_frame (s : State) (b : Bin) :
    (reserve s b).pending = s.pending ∧ (reserve s b).stu = s.stu ∧ (reserve s b).sheets = s.sheets ∧
    (reserve s b).adm = s.adm ∧ (reserve s b).tsq = s.tsq ∧ (reserve s b).ptk = s.ptk ∧
    (reserve s b).gsc = s.gsc ∧ (reserve s b).jam = s.jam ∧ (reserve s b).tsv = s.tsv ∧
    (reserve s b).profile = s.profile ∧ (reserve s b).cpt = s.cpt ∧ (reserve s b).lines = s.lines ∧
    (reserve s b).requests = s.requests := by
  unfold reserve
  (repeat' (first | split | (dsimp only; split))) <;> simp

@[simp] theorem release_frame (s : State) (b : Bin) :
    (release s b).pending = s.pending ∧ (release s b).stu = s.stu ∧ (release s b).sheets = s.sheets ∧
    (release s b).adm = s.adm ∧ (release s b).tsq = s.tsq ∧ (release s b).ptk = s.ptk ∧
    (release s b).gsc = s.gsc ∧ (release s b).jam = s.jam ∧ (release s b).tsv = s.tsv ∧
    (release s b).profile = s.profile ∧ (release s b).cpt = s.cpt ∧ (release s b).lines = s.lines ∧
    (release s b).requests = s.requests := by
  unfold release
  (repeat' (first | split | (dsimp only; split))) <;> simp

@[simp] theorem clearReserved_frame (s : State) :
    (clearReserved s).pending = s.pending ∧ (clearReserved s).stu = s.stu ∧
    (clearReserved s).sheets = s.sheets ∧ (clearReserved s).adm = s.adm ∧ (clearReserved s).tsq = s.tsq ∧
    (clearReserved s).ptk = s.ptk ∧ (clearReserved s).gsc = s.gsc ∧ (clearReserved s).jam = s.jam ∧
    (clearReserved s).tsv = s.tsv ∧ (clearReserved s).profile = s.profile ∧ (clearReserved s).cpt = s.cpt ∧
    (clearReserved s).lines = s.lines ∧ (clearReserved s).requests = s.requests := by
  unfold clearReserved
  (repeat' (first | split | (dsimp only; split))) <;> simp

@[simp] theorem closeRanges_frame (s : State) :
    (closeRanges s).pending = s.pending ∧ (closeRanges s).stu = s.stu ∧ (closeRanges s).sheets = s.sheets ∧
    (closeRanges s).adm = s.adm ∧ (closeRanges s).tsq = s.tsq ∧ (closeRanges s).ptk = s.ptk ∧
    (closeRanges s).gsc = s.gsc ∧ (closeRanges s).jam = s.jam ∧ (closeRanges s).tsv = s.tsv ∧
    (closeRanges s).profile = s.profile ∧ (closeRanges s).cpt = s.cpt ∧ (closeRanges s).lines = s.lines ∧
    (closeRanges s).requests = s.requests := by
  simp [closeRanges]

/-- What the closing of every range leaves in a bin. -/
@[simp] theorem closeRanges_bin (s : State) (b : Bin) :
    (closeRanges s).bin b = { s.bin b with spoil := (s.bin b).spoil.map SpoilRange.closed } := by
  simp [closeRanges, State.bin]

/-- No range is OPEN after it. -/
theorem closeRanges_closed {s : State} {b : Bin} {g : SpoilRange} (h : g ∈ ((closeRanges s).bin b).spoil) :
    g.isOpen = false := by
  rw [closeRanges_bin] at h
  obtain ⟨_, _, rfl⟩ := List.mem_map.1 h
  rfl

@[simp] theorem evaluateFence_frame (s : State) (b : Bin) :
    (evaluateFence s b).pending = s.pending ∧ (evaluateFence s b).stu = s.stu ∧
    (evaluateFence s b).sheets = s.sheets ∧ (evaluateFence s b).adm = s.adm ∧
    (evaluateFence s b).tsq = s.tsq ∧ (evaluateFence s b).ptk = s.ptk ∧ (evaluateFence s b).gsc = s.gsc ∧
    (evaluateFence s b).jam = s.jam ∧ (evaluateFence s b).tsv = s.tsv ∧
    (evaluateFence s b).profile = s.profile ∧ (evaluateFence s b).lines = s.lines ∧
    (evaluateFence s b).requests = s.requests := by
  unfold evaluateFence
  (repeat' (first | split | (dsimp only; split))) <;> simp

@[simp] theorem setDoor_frame (s : State) (b : Bin) (o : Bool) :
    (setDoor s b o).pending = s.pending ∧ (setDoor s b o).stu = s.stu ∧ (setDoor s b o).sheets = s.sheets ∧
    (setDoor s b o).adm = s.adm ∧ (setDoor s b o).tsq = s.tsq ∧ (setDoor s b o).ptk = s.ptk ∧
    (setDoor s b o).gsc = s.gsc ∧ (setDoor s b o).jam = s.jam ∧ (setDoor s b o).tsv = s.tsv ∧
    (setDoor s b o).profile = s.profile ∧ (setDoor s b o).bnm = s.bnm ∧ (setDoor s b o).cpt = s.cpt ∧
    (setDoor s b o).requests = s.requests := by
  simp [setDoor]

/-- The opening of a stacker's door asks for a break of each listed statement, and for nothing else. -/
theorem breakListed_eq (s : State) (b : Bin) : breakListed s b =
    { s with requests := { s.requests with breaks := s.requests.breaks ++ (s.bin b).stacking.map fun o =>
      { slot := o.slot, generation := o.generation, cause := .binOpened, opening := some (s.openingOf o.slot) } } } := by
  have h : ∀ (l : List Owner) (u : State),
      l.foldl (fun u o => u.askBreak o.slot o.generation .binOpened (some (u.openingOf o.slot))) u =
        { u with requests := { u.requests with breaks := u.requests.breaks ++ l.map fun o =>
          { slot := o.slot, generation := o.generation, cause := .binOpened, opening := some (u.openingOf o.slot) } } } := by
    intro l
    induction l with
    | nil => intro u; simp
    | cons o l ih => intro u; rw [List.foldl_cons, ih]; simp [State.askBreak, State.openingOf]
  exact h _ s

@[simp] theorem breakListed_frame (s : State) (b : Bin) :
    (breakListed s b).pending = s.pending ∧ (breakListed s b).stu = s.stu ∧ (breakListed s b).sheets = s.sheets ∧
    (breakListed s b).adm = s.adm ∧ (breakListed s b).tsq = s.tsq ∧ (breakListed s b).ptk = s.ptk ∧
    (breakListed s b).gsc = s.gsc ∧ (breakListed s b).jam = s.jam ∧ (breakListed s b).tsv = s.tsv ∧
    (breakListed s b).profile = s.profile ∧ (breakListed s b).bnm = s.bnm ∧ (breakListed s b).cpt = s.cpt ∧
    (breakListed s b).lines = s.lines := by
  simp [breakListed_eq]

@[simp] theorem openStacker_frame (s : State) (b : Bin) :
    (openStacker s b).pending = s.pending ∧ (openStacker s b).stu = s.stu ∧ (openStacker s b).sheets = s.sheets ∧
    (openStacker s b).adm = s.adm ∧ (openStacker s b).tsq = s.tsq ∧ (openStacker s b).ptk = s.ptk ∧
    (openStacker s b).gsc = s.gsc ∧ (openStacker s b).jam = s.jam ∧ (openStacker s b).tsv = s.tsv ∧
    (openStacker s b).profile = s.profile := by
  unfold openStacker openWith
  (repeat' (first | split | (dsimp only; split))) <;> simp

@[simp] theorem appendStacked_frame (s : State) (b : Bin) (slot : Slot) (generation : Nat) :
    (appendStacked s b slot generation).pending = s.pending ∧
    (appendStacked s b slot generation).stu = s.stu ∧ (appendStacked s b slot generation).sheets = s.sheets ∧
    (appendStacked s b slot generation).adm = s.adm ∧ (appendStacked s b slot generation).tsq = s.tsq ∧
    (appendStacked s b slot generation).ptk = s.ptk ∧ (appendStacked s b slot generation).gsc = s.gsc ∧
    (appendStacked s b slot generation).jam = s.jam ∧ (appendStacked s b slot generation).tsv = s.tsv ∧
    (appendStacked s b slot generation).profile = s.profile ∧
    (appendStacked s b slot generation).lines = s.lines := by
  unfold appendStacked
  (repeat' (first | split | (dsimp only; split))) <;> simp

@[simp] theorem placeSpoil_frame (s : State) (b : Bin) (ident : Ident) (position : Nat) :
    (placeSpoil s b ident position).pending = s.pending ∧ (placeSpoil s b ident position).stu = s.stu ∧
    (placeSpoil s b ident position).sheets = s.sheets ∧ (placeSpoil s b ident position).adm = s.adm ∧
    (placeSpoil s b ident position).tsq = s.tsq ∧ (placeSpoil s b ident position).ptk = s.ptk ∧
    (placeSpoil s b ident position).gsc = s.gsc ∧ (placeSpoil s b ident position).jam = s.jam ∧
    (placeSpoil s b ident position).tsv = s.tsv ∧ (placeSpoil s b ident position).profile = s.profile ∧
    (placeSpoil s b ident position).lines = s.lines ∧
    (placeSpoil s b ident position).requests = s.requests := by
  unfold placeSpoil
  (repeat' (first | split | (dsimp only; split))) <;> simp

@[simp] theorem openSpoil_frame (s : State) (b : Bin) (ident : Ident) (first last : Nat) :
    (openSpoil s b ident first last).pending = s.pending ∧ (openSpoil s b ident first last).stu = s.stu ∧
    (openSpoil s b ident first last).sheets = s.sheets ∧ (openSpoil s b ident first last).adm = s.adm ∧
    (openSpoil s b ident first last).tsq = s.tsq ∧ (openSpoil s b ident first last).ptk = s.ptk ∧
    (openSpoil s b ident first last).gsc = s.gsc ∧ (openSpoil s b ident first last).jam = s.jam ∧
    (openSpoil s b ident first last).tsv = s.tsv ∧ (openSpoil s b ident first last).profile = s.profile ∧
    (openSpoil s b ident first last).lines = s.lines ∧
    (openSpoil s b ident first last).requests = s.requests := by
  unfold openSpoil
  (repeat' (first | split | (dsimp only; split))) <;> simp

@[simp] theorem closeSpoil_frame (s : State) (b : Bin) (slot : Slot) (generation : Nat) (ident : Ident) :
    (closeSpoil s b slot generation ident).pending = s.pending ∧
    (closeSpoil s b slot generation ident).stu = s.stu ∧
    (closeSpoil s b slot generation ident).sheets = s.sheets ∧
    (closeSpoil s b slot generation ident).adm = s.adm ∧ (closeSpoil s b slot generation ident).tsq = s.tsq ∧
    (closeSpoil s b slot generation ident).ptk = s.ptk ∧ (closeSpoil s b slot generation ident).gsc = s.gsc ∧
    (closeSpoil s b slot generation ident).jam = s.jam ∧ (closeSpoil s b slot generation ident).tsv = s.tsv ∧
    (closeSpoil s b slot generation ident).profile = s.profile ∧
    (closeSpoil s b slot generation ident).cpt = s.cpt ∧
    (closeSpoil s b slot generation ident).lines = s.lines ∧
    (closeSpoil s b slot generation ident).requests = s.requests := by
  unfold closeSpoil
  (repeat' (first | split | (dsimp only; split))) <;> simp

@[simp] theorem takeBin_frame (s : State) (q : BinRequest) :
    (takeBin s q).pending = s.pending ∧ (takeBin s q).stu = s.stu ∧ (takeBin s q).sheets = s.sheets ∧
    (takeBin s q).adm = s.adm ∧ (takeBin s q).tsq = s.tsq ∧ (takeBin s q).ptk = s.ptk ∧
    (takeBin s q).gsc = s.gsc ∧ (takeBin s q).jam = s.jam ∧ (takeBin s q).tsv = s.tsv ∧
    (takeBin s q).profile = s.profile ∧ (takeBin s q).lines = s.lines ∧
    (takeBin s q).requests = s.requests := by
  unfold takeBin
  (repeat' (first | split | (dsimp only; split))) <;> simp

@[simp] theorem fillUp_frame (s : State) (b : Bin) :
    (fillUp s b).pending = s.pending ∧ (fillUp s b).stu = s.stu ∧ (fillUp s b).sheets = s.sheets ∧
    (fillUp s b).adm = s.adm ∧ (fillUp s b).tsq = s.tsq ∧ (fillUp s b).ptk = s.ptk ∧
    (fillUp s b).gsc = s.gsc ∧ (fillUp s b).jam = s.jam ∧ (fillUp s b).tsv = s.tsv ∧
    (fillUp s b).profile = s.profile ∧ (fillUp s b).lines = s.lines ∧ (fillUp s b).requests = s.requests := by
  unfold fillUp
  (repeat' (first | split | (dsimp only; split))) <;> simp

@[simp] theorem countIn_frame (s : State) (b : Bin) :
    (countIn s b).pending = s.pending ∧ (countIn s b).stu = s.stu ∧ (countIn s b).sheets = s.sheets ∧
    (countIn s b).adm = s.adm ∧ (countIn s b).tsq = s.tsq ∧ (countIn s b).ptk = s.ptk ∧
    (countIn s b).gsc = s.gsc ∧ (countIn s b).jam = s.jam ∧ (countIn s b).tsv = s.tsv ∧
    (countIn s b).profile = s.profile ∧ (countIn s b).cpt = s.cpt ∧ (countIn s b).lines = s.lines ∧
    (countIn s b).requests = s.requests := by
  unfold countIn
  (repeat' (first | split | (dsimp only; split))) <;> simp

@[simp] theorem moveJog_frame (s : State) (b : Bin) (q : Owner) :
    (moveJog s b q).pending = s.pending ∧ (moveJog s b q).stu = s.stu ∧ (moveJog s b q).sheets = s.sheets ∧
    (moveJog s b q).adm = s.adm ∧ (moveJog s b q).tsq = s.tsq ∧ (moveJog s b q).ptk = s.ptk ∧
    (moveJog s b q).gsc = s.gsc ∧ (moveJog s b q).jam = s.jam ∧ (moveJog s b q).tsv = s.tsv ∧
    (moveJog s b q).profile = s.profile ∧ (moveJog s b q).cpt = s.cpt ∧ (moveJog s b q).lines = s.lines ∧
    (moveJog s b q).requests = s.requests := by
  unfold moveJog
  (repeat' (first | split | (dsimp only; split))) <;> simp

@[simp] theorem reportAndPlace_frame (s : State) (b : Bin) (r : Sheet) (position : Nat) :
    (reportAndPlace s b r position).pending = s.pending ∧ (reportAndPlace s b r position).sheets = s.sheets ∧
    (reportAndPlace s b r position).adm = s.adm ∧ (reportAndPlace s b r position).tsq = s.tsq ∧
    (reportAndPlace s b r position).ptk = s.ptk ∧ (reportAndPlace s b r position).gsc = s.gsc ∧
    (reportAndPlace s b r position).jam = s.jam ∧ (reportAndPlace s b r position).tsv = s.tsv ∧
    (reportAndPlace s b r position).profile = s.profile ∧
    (reportAndPlace s b r position).lines = s.lines := by
  unfold reportAndPlace
  have h := reportDelivery_frame s r.slot r.generation b position r.condemned.isSome
  revert h
  rcases reportDelivery s r.slot r.generation b position r.condemned.isSome with ⟨u, _ | ⟨_ | _, i⟩⟩ <;> intro h <;>
    simpa using h

@[simp] theorem deliverStacker_frame (s : State) (b : Bin) (t : Tag) (r : Sheet) (later : Bool) :
    (deliverStacker s b t r later).pending = s.pending ∧ (deliverStacker s b t r later).adm = s.adm ∧
    (deliverStacker s b t r later).tsq = s.tsq ∧ (deliverStacker s b t r later).ptk.debounced = s.ptk.debounced ∧
    (deliverStacker s b t r later).ptk.debounce = s.ptk.debounce ∧
    (deliverStacker s b t r later).ptk.lists = s.ptk.lists ∧
    (deliverStacker s b t r later).ptk.release = s.ptk.release ∧
    (deliverStacker s b t r later).ptk.park = s.ptk.park ∧
    (deliverStacker s b t r later).ptk.frozen = s.ptk.frozen ∧
    (deliverStacker s b t r later).ptk.zeroOffset = s.ptk.zeroOffset ∧
    (deliverStacker s b t r later).ptk.verdicts = s.ptk.verdicts ∧
    (deliverStacker s b t r later).ptk.snapshot = s.ptk.snapshot ∧
    (deliverStacker s b t r later).gsc = s.gsc ∧ (deliverStacker s b t r later).tsv = s.tsv ∧
    (deliverStacker s b t r later).profile = s.profile ∧ (deliverStacker s b t r later).lines = s.lines := by
  unfold deliverStacker
  (repeat' (first | split | (dsimp only; split))) <;> simp

@[simp] theorem deliverPurge_frame (s : State) (t : Tag) (r : Sheet) (later : Bool) :
    (deliverPurge s t r later).pending = s.pending ∧ (deliverPurge s t r later).adm = s.adm ∧
    (deliverPurge s t r later).tsq = s.tsq ∧ (deliverPurge s t r later).ptk.debounced = s.ptk.debounced ∧
    (deliverPurge s t r later).ptk.debounce = s.ptk.debounce ∧
    (deliverPurge s t r later).ptk.lists = s.ptk.lists ∧
    (deliverPurge s t r later).ptk.release = s.ptk.release ∧
    (deliverPurge s t r later).ptk.park = s.ptk.park ∧
    (deliverPurge s t r later).ptk.frozen = s.ptk.frozen ∧
    (deliverPurge s t r later).ptk.zeroOffset = s.ptk.zeroOffset ∧
    (deliverPurge s t r later).ptk.verdicts = s.ptk.verdicts ∧
    (deliverPurge s t r later).ptk.snapshot = s.ptk.snapshot ∧ (deliverPurge s t r later).gsc = s.gsc ∧
    (deliverPurge s t r later).tsv = s.tsv ∧ (deliverPurge s t r later).profile = s.profile ∧
    (deliverPurge s t r later).lines = s.lines := by
  unfold deliverPurge
  (repeat' (first | split | (dsimp only; split))) <;> simp

@[simp] theorem deliver_frame (s : State) (b : Bin) (t : Tag) (later : Bool) :
    (deliver s b t later).pending = s.pending ∧ (deliver s b t later).adm = s.adm ∧ (deliver s b t later).tsq = s.tsq ∧
    (deliver s b t later).ptk.debounced = s.ptk.debounced ∧
    (deliver s b t later).ptk.debounce = s.ptk.debounce ∧
    (deliver s b t later).ptk.lists = s.ptk.lists ∧
    (deliver s b t later).ptk.release = s.ptk.release ∧
    (deliver s b t later).ptk.park = s.ptk.park ∧
    (deliver s b t later).ptk.frozen = s.ptk.frozen ∧
    (deliver s b t later).ptk.zeroOffset = s.ptk.zeroOffset ∧
    (deliver s b t later).ptk.verdicts = s.ptk.verdicts ∧
    (deliver s b t later).ptk.snapshot = s.ptk.snapshot ∧ (deliver s b t later).gsc = s.gsc ∧ (deliver s b t later).tsv = s.tsv ∧
    (deliver s b t later).profile = s.profile ∧ (deliver s b t later).lines = s.lines := by
  unfold deliver
  (repeat' (first | split | (dsimp only; split))) <;> simp

@[simp] theorem leadAtBin_frame (s : State) (b : Bin) (t : Tag) :
    (leadAtBin s b t).pending = s.pending ∧ (leadAtBin s b t).stu = s.stu ∧
    (leadAtBin s b t).sheets = s.sheets ∧ (leadAtBin s b t).adm = s.adm ∧ (leadAtBin s b t).tsq = s.tsq ∧
    (leadAtBin s b t).ptk = s.ptk ∧ (leadAtBin s b t).gsc = s.gsc ∧ (leadAtBin s b t).bnm = s.bnm ∧
    (leadAtBin s b t).jam = s.jam ∧ (leadAtBin s b t).tsv = s.tsv ∧ (leadAtBin s b t).profile = s.profile ∧
    (leadAtBin s b t).cpt = s.cpt ∧ (leadAtBin s b t).lines = s.lines := by
  unfold leadAtBin
  (repeat' (first | split | (dsimp only; split))) <;> simp

@[simp] theorem setRole_frame (s : State) (b : Bin) (role : BinRole) :
    (setRole s b role).pending = s.pending ∧ (setRole s b role).stu = s.stu ∧
    (setRole s b role).sheets = s.sheets ∧ (setRole s b role).adm = s.adm ∧ (setRole s b role).tsq = s.tsq ∧
    (setRole s b role).ptk = s.ptk ∧ (setRole s b role).gsc = s.gsc ∧ (setRole s b role).jam = s.jam ∧
    (setRole s b role).tsv = s.tsv ∧ (setRole s b role).profile = s.profile ∧ (setRole s b role).cpt = s.cpt ∧
    (setRole s b role).lines = s.lines ∧ (setRole s b role).requests = s.requests := by
  unfold setRole
  (repeat' (first | split | (dsimp only; split))) <;> simp

@[simp] theorem setFourBins_frame (s : State) (on : Bool) :
    (setFourBins s on).pending = s.pending ∧ (setFourBins s on).stu = s.stu ∧
    (setFourBins s on).sheets = s.sheets ∧ (setFourBins s on).adm = s.adm ∧ (setFourBins s on).tsq = s.tsq ∧
    (setFourBins s on).ptk = s.ptk ∧ (setFourBins s on).gsc = s.gsc ∧ (setFourBins s on).jam = s.jam ∧
    (setFourBins s on).tsv = s.tsv ∧ (setFourBins s on).profile = s.profile ∧ (setFourBins s on).cpt = s.cpt ∧
    (setFourBins s on).lines = s.lines ∧ (setFourBins s on).requests = s.requests := by
  unfold setFourBins
  (repeat' (first | split | (dsimp only; split))) <;> simp

@[simp] theorem writeUnits_frame (s : State) (u : Units) :
    (writeUnits s u).pending = s.pending ∧ (writeUnits s u).stu = s.stu ∧ (writeUnits s u).sheets = s.sheets ∧
    (writeUnits s u).adm = s.adm ∧ (writeUnits s u).tsq = s.tsq ∧ (writeUnits s u).ptk = s.ptk ∧
    (writeUnits s u).gsc = s.gsc ∧ (writeUnits s u).jam = s.jam ∧ (writeUnits s u).tsv = s.tsv ∧
    (writeUnits s u).cpt = s.cpt ∧ (writeUnits s u).lines = s.lines ∧
    (writeUnits s u).requests = s.requests := by
  unfold writeUnits
  (repeat' (first | split | (dsimp only; split))) <;> simp

end Sys2Proof.Machine
end

