-- ==== Sys2Proof/Laws/FrameSequence.lean ====
section
/-! SUPPORT. Which blocks each operation of the Transfer Sequencer leaves as they were. -/

namespace Sys2Proof.Machine

set_option Elab.async false
set_option linter.unusedSimpArgs false

@[simp] theorem appendPitch_frame (s : State) (t : Tag) (slot : Slot) (generation page : Nat) (side : Side) (predicted : Count) :
    (appendPitch s t slot generation page side predicted).pending = s.pending ∧
    (appendPitch s t slot generation page side predicted).stu = s.stu ∧
    (appendPitch s t slot generation page side predicted).sheets = s.sheets ∧
    (appendPitch s t slot generation page side predicted).adm = s.adm ∧
    (appendPitch s t slot generation page side predicted).ptk = s.ptk ∧
    (appendPitch s t slot generation page side predicted).gsc = s.gsc ∧
    (appendPitch s t slot generation page side predicted).bnm = s.bnm ∧
    (appendPitch s t slot generation page side predicted).jam = s.jam ∧
    (appendPitch s t slot generation page side predicted).tsv = s.tsv ∧
    (appendPitch s t slot generation page side predicted).profile = s.profile ∧
    (appendPitch s t slot generation page side predicted).cpt = s.cpt ∧
    (appendPitch s t slot generation page side predicted).lines = s.lines ∧
    (appendPitch s t slot generation page side predicted).requests = s.requests := by
  unfold appendPitch
  (repeat' (first | split | (dsimp only; split))) <;> simp

@[simp] theorem missPitch_frame (s : State) (p : Pitch) (reason : MissReason) :
    (missPitch s p reason).pending = s.pending ∧ (missPitch s p reason).stu = s.stu ∧
    (missPitch s p reason).adm = s.adm ∧ (missPitch s p reason).ptk = s.ptk ∧
    (missPitch s p reason).gsc = s.gsc ∧ (missPitch s p reason).bnm = s.bnm ∧
    (missPitch s p reason).jam = s.jam ∧ (missPitch s p reason).tsv = s.tsv ∧
    (missPitch s p reason).profile = s.profile ∧ (missPitch s p reason).lines = s.lines := by
  unfold missPitch
  (repeat' (first | split | (dsimp only; split))) <;> simp

@[simp] theorem expireDeadline_frame (s : State) (t : Tag) :
    (expireDeadline s t).pending = s.pending ∧ (expireDeadline s t).stu = s.stu ∧
    (expireDeadline s t).adm = s.adm ∧ (expireDeadline s t).ptk = s.ptk ∧ (expireDeadline s t).gsc = s.gsc ∧
    (expireDeadline s t).bnm = s.bnm ∧ (expireDeadline s t).jam = s.jam ∧ (expireDeadline s t).tsv = s.tsv ∧
    (expireDeadline s t).profile = s.profile ∧ (expireDeadline s t).lines = s.lines := by
  unfold expireDeadline
  (repeat' (first | split | (dsimp only; split))) <;> simp

@[simp] theorem moveDeadline_frame (s : State) (t : Tag) (predicted : Count) :
    (moveDeadline s t predicted).pending = s.pending ∧ (moveDeadline s t predicted).stu = s.stu ∧
    (moveDeadline s t predicted).adm = s.adm ∧ (moveDeadline s t predicted).ptk = s.ptk ∧
    (moveDeadline s t predicted).gsc = s.gsc ∧ (moveDeadline s t predicted).bnm = s.bnm ∧
    (moveDeadline s t predicted).jam = s.jam ∧ (moveDeadline s t predicted).tsv = s.tsv ∧
    (moveDeadline s t predicted).profile = s.profile ∧ (moveDeadline s t predicted).lines = s.lines := by
  unfold moveDeadline
  (repeat' (first | split | (dsimp only; split))) <;> simp

@[simp] theorem pullInDeadlines_frame (s : State) :
    (pullInDeadlines s).pending = s.pending ∧ (pullInDeadlines s).stu = s.stu ∧
    (pullInDeadlines s).adm = s.adm ∧ (pullInDeadlines s).ptk = s.ptk ∧ (pullInDeadlines s).gsc = s.gsc ∧
    (pullInDeadlines s).bnm = s.bnm ∧ (pullInDeadlines s).jam = s.jam ∧ (pullInDeadlines s).tsv = s.tsv ∧
    (pullInDeadlines s).profile = s.profile ∧ (pullInDeadlines s).lines = s.lines := by
  unfold pullInDeadlines
  (repeat' (first | split | (dsimp only; split))) <;> simp [foldl_keeps]

@[simp] theorem registerPitch_frame (s : State) (t : Tag) :
    (registerPitch s t).pending = s.pending ∧ (registerPitch s t).stu = s.stu ∧
    (registerPitch s t).adm = s.adm ∧ (registerPitch s t).ptk = s.ptk ∧ (registerPitch s t).gsc = s.gsc ∧
    (registerPitch s t).bnm = s.bnm ∧ (registerPitch s t).jam = s.jam ∧ (registerPitch s t).tsv = s.tsv ∧
    (registerPitch s t).profile = s.profile ∧ (registerPitch s t).lines = s.lines := by
  unfold registerPitch
  (repeat' (first | split | (dsimp only; split))) <;> simp

@[simp] theorem finishPitch_frame (s : State) (t : Tag) :
    (finishPitch s t).pending = s.pending ∧ (finishPitch s t).stu = s.stu ∧ (finishPitch s t).adm = s.adm ∧
    (finishPitch s t).ptk = s.ptk ∧ (finishPitch s t).gsc = s.gsc ∧ (finishPitch s t).bnm = s.bnm ∧
    (finishPitch s t).jam = s.jam ∧ (finishPitch s t).tsv = s.tsv ∧ (finishPitch s t).profile = s.profile ∧
    (finishPitch s t).cpt = s.cpt ∧ (finishPitch s t).lines = s.lines ∧
    (finishPitch s t).requests = s.requests := by
  unfold finishPitch
  (repeat' (first | split | (dsimp only; split))) <;> simp

@[simp] theorem withdrawPitch_frame (s : State) (t : Tag) :
    (withdrawPitch s t).pending = s.pending ∧ (withdrawPitch s t).stu = s.stu ∧
    (withdrawPitch s t).sheets = s.sheets ∧ (withdrawPitch s t).adm = s.adm ∧
    (withdrawPitch s t).ptk = s.ptk ∧ (withdrawPitch s t).gsc = s.gsc ∧ (withdrawPitch s t).bnm = s.bnm ∧
    (withdrawPitch s t).jam = s.jam ∧ (withdrawPitch s t).tsv = s.tsv ∧
    (withdrawPitch s t).profile = s.profile ∧ (withdrawPitch s t).lines = s.lines ∧
    (withdrawPitch s t).requests = s.requests := by
  unfold withdrawPitch
  (repeat' (first | split | (dsimp only; split))) <;> simp

@[simp] theorem haltSequencer_frame (s : State) :
    (haltSequencer s).pending = s.pending ∧ (haltSequencer s).stu = s.stu ∧
    (haltSequencer s).sheets = s.sheets ∧ (haltSequencer s).adm = s.adm ∧ (haltSequencer s).ptk = s.ptk ∧
    (haltSequencer s).gsc = s.gsc ∧ (haltSequencer s).bnm = s.bnm ∧ (haltSequencer s).jam = s.jam ∧
    (haltSequencer s).tsv = s.tsv ∧ (haltSequencer s).profile = s.profile ∧ (haltSequencer s).cpt = s.cpt ∧
    (haltSequencer s).lines = s.lines ∧ (haltSequencer s).requests = s.requests := by
  unfold haltSequencer
  (repeat' (first | split | (dsimp only; split))) <;> simp

@[simp] theorem clearSequencer_frame (s : State) :
    (clearSequencer s).pending = s.pending ∧ (clearSequencer s).stu = s.stu ∧
    (clearSequencer s).sheets = s.sheets ∧ (clearSequencer s).adm = s.adm ∧ (clearSequencer s).ptk = s.ptk ∧
    (clearSequencer s).gsc = s.gsc ∧ (clearSequencer s).bnm = s.bnm ∧ (clearSequencer s).jam = s.jam ∧
    (clearSequencer s).tsv = s.tsv ∧ (clearSequencer s).profile = s.profile ∧
    (clearSequencer s).lines = s.lines ∧ (clearSequencer s).requests = s.requests := by
  unfold clearSequencer
  (repeat' (first | split | (dsimp only; split))) <;> simp [foldl_keeps]

end Sys2Proof.Machine
end

