-- ==== Sys2Proof/Laws/FrameGates.lean ====
section
/-! SUPPORT. Which blocks each operation of the Gate Scheduler leaves as they were. -/

namespace Sys2Proof.Machine

set_option Elab.async false
set_option linter.unusedSimpArgs false

@[simp] theorem addRequest_frame (s : State) (g : Gate) (q : GateRequest) :
    (addRequest s g q).pending = s.pending ∧ (addRequest s g q).stu = s.stu ∧
    (addRequest s g q).sheets = s.sheets ∧ (addRequest s g q).adm = s.adm ∧ (addRequest s g q).tsq = s.tsq ∧
    (addRequest s g q).ptk = s.ptk ∧ (addRequest s g q).bnm = s.bnm ∧ (addRequest s g q).jam = s.jam ∧
    (addRequest s g q).tsv = s.tsv ∧ (addRequest s g q).profile = s.profile ∧ (addRequest s g q).cpt = s.cpt ∧
    (addRequest s g q).lines = s.lines := by
  unfold addRequest
  (repeat' (first | split | (dsimp only; split))) <;> simp

@[simp] theorem scheduleD_frame (s : State) (t : Tag) (o : Owner) (c : Count) :
    (scheduleD s t o c).pending = s.pending ∧ (scheduleD s t o c).stu = s.stu ∧
    (scheduleD s t o c).sheets = s.sheets ∧ (scheduleD s t o c).adm = s.adm ∧ (scheduleD s t o c).tsq = s.tsq ∧
    (scheduleD s t o c).ptk = s.ptk ∧ (scheduleD s t o c).bnm = s.bnm ∧ (scheduleD s t o c).jam = s.jam ∧
    (scheduleD s t o c).tsv = s.tsv ∧ (scheduleD s t o c).profile = s.profile ∧ (scheduleD s t o c).cpt = s.cpt ∧
    (scheduleD s t o c).lines = s.lines := by
  unfold scheduleD
  (repeat' (first | split | (dsimp only; split))) <;> simp

@[simp] theorem scheduleG_frame (s : State) (t : Tag) (o : Owner) (c : Count) :
    (scheduleG s t o c).pending = s.pending ∧ (scheduleG s t o c).stu = s.stu ∧
    (scheduleG s t o c).sheets = s.sheets ∧ (scheduleG s t o c).adm = s.adm ∧ (scheduleG s t o c).tsq = s.tsq ∧
    (scheduleG s t o c).ptk = s.ptk ∧ (scheduleG s t o c).bnm = s.bnm ∧ (scheduleG s t o c).jam = s.jam ∧
    (scheduleG s t o c).tsv = s.tsv ∧ (scheduleG s t o c).profile = s.profile ∧ (scheduleG s t o c).cpt = s.cpt ∧
    (scheduleG s t o c).lines = s.lines := by
  unfold scheduleG
  (repeat' (first | split | (dsimp only; split))) <;> simp [foldl_keeps]

@[simp] theorem dropRequest_frame (s : State) (g : Gate) (q : GateRequest) :
    (dropRequest s g q).pending = s.pending ∧ (dropRequest s g q).stu = s.stu ∧
    (dropRequest s g q).sheets = s.sheets ∧ (dropRequest s g q).adm = s.adm ∧
    (dropRequest s g q).tsq = s.tsq ∧ (dropRequest s g q).ptk = s.ptk ∧ (dropRequest s g q).bnm = s.bnm ∧
    (dropRequest s g q).jam = s.jam ∧ (dropRequest s g q).tsv = s.tsv ∧
    (dropRequest s g q).profile = s.profile ∧ (dropRequest s g q).cpt = s.cpt ∧
    (dropRequest s g q).lines = s.lines ∧ (dropRequest s g q).requests = s.requests := by
  unfold dropRequest
  (repeat' (first | split | (dsimp only; split))) <;> simp

@[simp] theorem takeThrow_frame (s : State) (g : Gate) (q : GateRequest) :
    (takeThrow s g q).pending = s.pending ∧ (takeThrow s g q).stu = s.stu ∧ (takeThrow s g q).adm = s.adm ∧
    (takeThrow s g q).tsq = s.tsq ∧ (takeThrow s g q).ptk = s.ptk ∧ (takeThrow s g q).bnm = s.bnm ∧
    (takeThrow s g q).jam = s.jam ∧ (takeThrow s g q).tsv = s.tsv ∧ (takeThrow s g q).profile = s.profile ∧
    (takeThrow s g q).cpt = s.cpt ∧ (takeThrow s g q).lines = s.lines ∧
    (takeThrow s g q).requests = s.requests := by
  unfold takeThrow
  (repeat' (first | split | (dsimp only; split))) <;> simp

@[simp] theorem takePassage_frame (s : State) (g : Gate) (q : GateRequest) :
    (takePassage s g q).pending = s.pending ∧ (takePassage s g q).stu = s.stu ∧
    (takePassage s g q).sheets = s.sheets ∧ (takePassage s g q).adm = s.adm ∧
    (takePassage s g q).tsq = s.tsq ∧ (takePassage s g q).ptk = s.ptk ∧ (takePassage s g q).bnm = s.bnm ∧
    (takePassage s g q).jam = s.jam ∧ (takePassage s g q).tsv = s.tsv ∧
    (takePassage s g q).profile = s.profile ∧ (takePassage s g q).cpt = s.cpt ∧
    (takePassage s g q).lines = s.lines := by
  unfold takePassage
  (repeat' (first | split | (dsimp only; split))) <;> simp

@[simp] theorem takeClearance_frame (s : State) (g : Gate) :
    (takeClearance s g).pending = s.pending ∧ (takeClearance s g).stu = s.stu ∧
    (takeClearance s g).sheets = s.sheets ∧ (takeClearance s g).adm = s.adm ∧
    (takeClearance s g).tsq = s.tsq ∧ (takeClearance s g).ptk = s.ptk ∧ (takeClearance s g).bnm = s.bnm ∧
    (takeClearance s g).jam = s.jam ∧ (takeClearance s g).tsv = s.tsv ∧
    (takeClearance s g).profile = s.profile ∧ (takeClearance s g).cpt = s.cpt ∧
    (takeClearance s g).lines = s.lines ∧ (takeClearance s g).requests = s.requests := by
  unfold takeClearance
  (repeat' (first | split | (dsimp only; split))) <;> simp

@[simp] theorem clearGates_frame (s : State) :
    (clearGates s).pending = s.pending ∧ (clearGates s).stu = s.stu ∧ (clearGates s).sheets = s.sheets ∧
    (clearGates s).adm = s.adm ∧ (clearGates s).tsq = s.tsq ∧ (clearGates s).ptk = s.ptk ∧
    (clearGates s).bnm = s.bnm ∧ (clearGates s).jam = s.jam ∧ (clearGates s).tsv = s.tsv ∧
    (clearGates s).profile = s.profile ∧ (clearGates s).cpt = s.cpt ∧ (clearGates s).lines = s.lines ∧
    (clearGates s).requests = s.requests := by
  unfold clearGates
  (repeat' (first | split | (dsimp only; split))) <;> simp

@[simp] theorem policyD_frame (s : State) :
    (policyD s).pending = s.pending ∧ (policyD s).stu = s.stu ∧ (policyD s).sheets = s.sheets ∧
    (policyD s).adm = s.adm ∧ (policyD s).tsq = s.tsq ∧ (policyD s).ptk = s.ptk ∧ (policyD s).bnm = s.bnm ∧
    (policyD s).jam = s.jam ∧ (policyD s).tsv = s.tsv ∧ (policyD s).profile = s.profile ∧
    (policyD s).cpt = s.cpt ∧ (policyD s).lines = s.lines ∧ (policyD s).requests = s.requests := by
  unfold policyD
  (repeat' (first | split | (dsimp only; split))) <;> simp

@[simp] theorem policyG_frame (s : State) :
    (policyG s).pending = s.pending ∧ (policyG s).stu = s.stu ∧ (policyG s).sheets = s.sheets ∧
    (policyG s).adm = s.adm ∧ (policyG s).tsq = s.tsq ∧ (policyG s).ptk = s.ptk ∧ (policyG s).bnm = s.bnm ∧
    (policyG s).jam = s.jam ∧ (policyG s).tsv = s.tsv ∧ (policyG s).profile = s.profile ∧
    (policyG s).cpt = s.cpt ∧ (policyG s).lines = s.lines ∧ (policyG s).requests = s.requests := by
  unfold policyG
  (repeat' (first | split | (dsimp only; split))) <;> simp

@[simp] theorem freezeGates_frame (s : State) :
    (freezeGates s).pending = s.pending ∧ (freezeGates s).stu = s.stu ∧ (freezeGates s).sheets = s.sheets ∧
    (freezeGates s).adm = s.adm ∧ (freezeGates s).tsq = s.tsq ∧ (freezeGates s).ptk = s.ptk ∧
    (freezeGates s).bnm = s.bnm ∧ (freezeGates s).jam = s.jam ∧ (freezeGates s).tsv = s.tsv ∧
    (freezeGates s).profile = s.profile ∧ (freezeGates s).cpt = s.cpt ∧ (freezeGates s).lines = s.lines ∧
    (freezeGates s).requests = s.requests := by
  unfold freezeGates
  (repeat' (first | split | (dsimp only; split))) <;> simp

end Sys2Proof.Machine
end

