-- ==== Sys2Proof/Laws/FrameAdmission.lean ====
section
/-! SUPPORT. Which blocks each operation of the Admission Controller leaves as they were. -/

namespace Sys2Proof.Machine

set_option Elab.async false
set_option linter.unusedSimpArgs false

@[simp] theorem takeFlush_frame (s : State) (w : Owner) :
    (takeFlush s w).pending = s.pending ∧ (takeFlush s w).stu = s.stu ∧ (takeFlush s w).sheets = s.sheets ∧
    (takeFlush s w).tsq = s.tsq ∧ (takeFlush s w).ptk = s.ptk ∧ (takeFlush s w).gsc = s.gsc ∧
    (takeFlush s w).bnm = s.bnm ∧ (takeFlush s w).jam = s.jam ∧ (takeFlush s w).tsv = s.tsv ∧
    (takeFlush s w).profile = s.profile ∧ (takeFlush s w).cpt = s.cpt ∧ (takeFlush s w).lines = s.lines ∧
    (takeFlush s w).requests = s.requests := by
  unfold takeFlush
  (repeat' (first | split | (dsimp only; split))) <;> simp

@[simp] theorem takeSuspect_frame (s : State) (t : Tray) :
    (takeSuspect s t).pending = s.pending ∧ (takeSuspect s t).stu = s.stu ∧
    (takeSuspect s t).sheets = s.sheets ∧ (takeSuspect s t).tsq = s.tsq ∧ (takeSuspect s t).ptk = s.ptk ∧
    (takeSuspect s t).gsc = s.gsc ∧ (takeSuspect s t).bnm = s.bnm ∧ (takeSuspect s t).jam = s.jam ∧
    (takeSuspect s t).tsv = s.tsv ∧ (takeSuspect s t).profile = s.profile ∧
    (takeSuspect s t).lines = s.lines ∧ (takeSuspect s t).requests = s.requests := by
  unfold takeSuspect
  (repeat' (first | split | (dsimp only; split))) <;> simp

@[simp] theorem failTray_frame (s : State) (t : Tray) :
    (failTray s t).pending = s.pending ∧ (failTray s t).stu = s.stu ∧ (failTray s t).sheets = s.sheets ∧
    (failTray s t).tsq = s.tsq ∧ (failTray s t).ptk = s.ptk ∧ (failTray s t).gsc = s.gsc ∧
    (failTray s t).bnm = s.bnm ∧ (failTray s t).jam = s.jam ∧ (failTray s t).tsv = s.tsv ∧
    (failTray s t).profile = s.profile ∧ (failTray s t).lines = s.lines ∧
    (failTray s t).requests = s.requests := by
  unfold failTray
  (repeat' (first | split | (dsimp only; split))) <;> simp

@[simp] theorem claimWithEffect_frame (s : State) (slot : Slot) (r : Statement) (b : Bin) (d : Bool) :
    (claimWithEffect s slot r b d).pending = s.pending ∧ (claimWithEffect s slot r b d).stu = s.stu ∧
    (claimWithEffect s slot r b d).sheets = s.sheets ∧ (claimWithEffect s slot r b d).adm = s.adm ∧
    (claimWithEffect s slot r b d).tsq = s.tsq ∧ (claimWithEffect s slot r b d).ptk = s.ptk ∧
    (claimWithEffect s slot r b d).gsc = s.gsc ∧ (claimWithEffect s slot r b d).jam = s.jam ∧
    (claimWithEffect s slot r b d).tsv = s.tsv ∧ (claimWithEffect s slot r b d).profile = s.profile := by
  unfold claimWithEffect
  (repeat' (first | split | (dsimp only; split))) <;> simp

@[simp] theorem evaluateQueue_frame (s : State) (q : Queue) :
    (evaluateQueue s q).pending = s.pending ∧ (evaluateQueue s q).stu = s.stu ∧
    (evaluateQueue s q).sheets = s.sheets ∧ (evaluateQueue s q).tsq = s.tsq ∧
    (evaluateQueue s q).ptk = s.ptk ∧ (evaluateQueue s q).gsc = s.gsc ∧ (evaluateQueue s q).bnm = s.bnm ∧
    (evaluateQueue s q).jam = s.jam ∧ (evaluateQueue s q).tsv = s.tsv ∧
    (evaluateQueue s q).profile = s.profile ∧ (evaluateQueue s q).cpt = s.cpt ∧
    (evaluateQueue s q).lines = s.lines := by
  unfold evaluateQueue
  (repeat' (first | split | (dsimp only; split))) <;> simp

@[simp] theorem grantSteps_frame (s : State) (q : Queue) (e : Entry) (st : Statement) (b : Bin) (t : Tag) (starvation : Nat)
    (d : Bool) :
    (grantSteps s q e st b t starvation d).pending = s.pending ∧
    (grantSteps s q e st b t starvation d).ptk = s.ptk ∧ (grantSteps s q e st b t starvation d).gsc = s.gsc ∧
    (grantSteps s q e st b t starvation d).jam = s.jam ∧ (grantSteps s q e st b t starvation d).tsv = s.tsv ∧
    (grantSteps s q e st b t starvation d).profile = s.profile := by
  unfold grantSteps
  (repeat' (first | split | (dsimp only; split))) <;> simp

@[simp] theorem grantHead_frame (s : State) (q : Queue) (starvation : Nat) (d : Bool) :
    (grantHead s q starvation d).pending = s.pending ∧ (grantHead s q starvation d).ptk = s.ptk ∧
    (grantHead s q starvation d).gsc = s.gsc ∧ (grantHead s q starvation d).jam = s.jam ∧
    (grantHead s q starvation d).tsv = s.tsv ∧ (grantHead s q starvation d).profile = s.profile := by
  unfold grantHead
  (repeat' (first | split | (dsimp only; split))) <;> simp

@[simp] theorem pickDone_frame (s : State) (t : Tag) (tray : Tray) (c : Count) :
    (pickDone s t tray c).pending = s.pending ∧ (pickDone s t tray c).stu = s.stu ∧
    (pickDone s t tray c).ptk = s.ptk ∧ (pickDone s t tray c).gsc = s.gsc ∧
    (pickDone s t tray c).bnm = s.bnm ∧ (pickDone s t tray c).jam = s.jam ∧
    (pickDone s t tray c).tsv = s.tsv ∧ (pickDone s t tray c).profile = s.profile ∧
    (pickDone s t tray c).lines = s.lines := by
  unfold pickDone
  (repeat' (first | split | (dsimp only; split))) <;> simp

@[simp] theorem requeue_frame (s : State) (p : Pick) (r : Sheet) (answer : Option StatementState) :
    (requeue s p r answer).pending = s.pending ∧ (requeue s p r answer).stu = s.stu ∧
    (requeue s p r answer).sheets = s.sheets ∧ (requeue s p r answer).tsq = s.tsq ∧
    (requeue s p r answer).ptk = s.ptk ∧ (requeue s p r answer).gsc = s.gsc ∧
    (requeue s p r answer).bnm = s.bnm ∧ (requeue s p r answer).jam = s.jam ∧
    (requeue s p r answer).tsv = s.tsv ∧ (requeue s p r answer).profile = s.profile ∧
    (requeue s p r answer).lines = s.lines ∧ (requeue s p r answer).requests = s.requests := by
  cases answer with
  | none => simp only [requeue]; split <;> simp
  | some st => cases h : st.ended <;> simp only [requeue, h] <;> by_cases h3 : r.attempts + 1 = 3 <;> simp [h3]

@[simp] theorem misfeed_frame (s : State) (t : Tag) :
    (misfeed s t).pending = s.pending ∧ (misfeed s t).ptk.debounced = s.ptk.debounced ∧
    (misfeed s t).ptk.debounce = s.ptk.debounce ∧
    (misfeed s t).ptk.lists = s.ptk.lists ∧
    (misfeed s t).ptk.release = s.ptk.release ∧
    (misfeed s t).ptk.park = s.ptk.park ∧
    (misfeed s t).ptk.frozen = s.ptk.frozen ∧
    (misfeed s t).ptk.zeroOffset = s.ptk.zeroOffset ∧
    (misfeed s t).ptk.verdicts = s.ptk.verdicts ∧
    (misfeed s t).ptk.snapshot = s.ptk.snapshot ∧ (misfeed s t).gsc = s.gsc ∧
    (misfeed s t).jam = s.jam ∧ (misfeed s t).tsv = s.tsv ∧ (misfeed s t).profile = s.profile ∧
    (misfeed s t).lines = s.lines := by
  unfold misfeed
  cases s.adm.pick with
  | none => simp
  | some p =>
    by_cases h : p.tag = t
    · simp only [h, ne_eq, not_true_eq_false, if_false]
      (repeat' split) <;> simp
    · simp [h]

end Sys2Proof.Machine
end

