-- ==== Sys2Proof/Laws/FrameTracking.lean ====
section
/-! SUPPORT. Which blocks each operation of the Path Tracker leaves as they were. -/

namespace Sys2Proof.Machine

set_option Elab.async false
set_option linter.unusedSimpArgs false

@[simp] theorem setLevel_frame (s : State) (x : Sensor) (level : Bool) :
    (setLevel s x level).pending = s.pending ∧ (setLevel s x level).stu = s.stu ∧
    (setLevel s x level).sheets = s.sheets ∧ (setLevel s x level).adm = s.adm ∧
    (setLevel s x level).tsq = s.tsq ∧ (setLevel s x level).gsc = s.gsc ∧ (setLevel s x level).bnm = s.bnm ∧
    (setLevel s x level).jam = s.jam ∧ (setLevel s x level).tsv = s.tsv ∧
    (setLevel s x level).profile = s.profile ∧ (setLevel s x level).cpt = s.cpt ∧
    (setLevel s x level).lines = s.lines ∧ (setLevel s x level).requests = s.requests := by
  unfold setLevel
  (repeat' (first | split | (dsimp only; split))) <;> simp

@[simp] theorem setDebounce_frame (s : State) (x : Sensor) (c : Option Count) :
    (setDebounce s x c).pending = s.pending ∧ (setDebounce s x c).stu = s.stu ∧
    (setDebounce s x c).sheets = s.sheets ∧ (setDebounce s x c).adm = s.adm ∧
    (setDebounce s x c).tsq = s.tsq ∧ (setDebounce s x c).gsc = s.gsc ∧ (setDebounce s x c).bnm = s.bnm ∧
    (setDebounce s x c).jam = s.jam ∧ (setDebounce s x c).tsv = s.tsv ∧
    (setDebounce s x c).profile = s.profile ∧ (setDebounce s x c).cpt = s.cpt ∧
    (setDebounce s x c).lines = s.lines ∧ (setDebounce s x c).requests = s.requests := by
  unfold setDebounce
  (repeat' (first | split | (dsimp only; split))) <;> simp

@[simp] theorem settleDebounces_frame (s : State) :
    (settleDebounces s).pending = s.pending ∧ (settleDebounces s).stu = s.stu ∧
    (settleDebounces s).sheets = s.sheets ∧ (settleDebounces s).adm = s.adm ∧
    (settleDebounces s).tsq = s.tsq ∧ (settleDebounces s).gsc = s.gsc ∧ (settleDebounces s).bnm = s.bnm ∧
    (settleDebounces s).jam = s.jam ∧ (settleDebounces s).tsv = s.tsv ∧
    (settleDebounces s).profile = s.profile ∧ (settleDebounces s).cpt = s.cpt ∧
    (settleDebounces s).lines = s.lines ∧ (settleDebounces s).requests = s.requests := by
  unfold settleDebounces
  (repeat' (first | split | (dsimp only; split))) <;> simp

@[simp] theorem expect_frame (s : State) (x : Sensor) (e : Expectation) :
    (expect s x e).pending = s.pending ∧ (expect s x e).stu = s.stu ∧ (expect s x e).sheets = s.sheets ∧
    (expect s x e).adm = s.adm ∧ (expect s x e).tsq = s.tsq ∧ (expect s x e).gsc = s.gsc ∧
    (expect s x e).bnm = s.bnm ∧ (expect s x e).jam = s.jam ∧ (expect s x e).tsv = s.tsv ∧
    (expect s x e).profile = s.profile ∧ (expect s x e).cpt = s.cpt ∧ (expect s x e).lines = s.lines := by
  unfold expect
  (repeat' (first | split | (dsimp only; split))) <;> simp

@[simp] theorem dropEntry_frame (s : State) (x : Sensor) (e : Expectation) :
    (dropEntry s x e).pending = s.pending ∧ (dropEntry s x e).stu = s.stu ∧
    (dropEntry s x e).sheets = s.sheets ∧ (dropEntry s x e).adm = s.adm ∧ (dropEntry s x e).tsq = s.tsq ∧
    (dropEntry s x e).gsc = s.gsc ∧ (dropEntry s x e).bnm = s.bnm ∧ (dropEntry s x e).jam = s.jam ∧
    (dropEntry s x e).tsv = s.tsv ∧ (dropEntry s x e).profile = s.profile ∧ (dropEntry s x e).cpt = s.cpt ∧
    (dropEntry s x e).lines = s.lines ∧ (dropEntry s x e).requests = s.requests := by
  unfold dropEntry
  (repeat' (first | split | (dsimp only; split))) <;> simp

@[simp] theorem nextEntry_frame (s : State) (t : Tag) (o : Owner) (x : Sensor) (c : Count) :
    (nextEntry s t o x c).pending = s.pending ∧ (nextEntry s t o x c).stu = s.stu ∧
    (nextEntry s t o x c).sheets = s.sheets ∧ (nextEntry s t o x c).adm = s.adm ∧
    (nextEntry s t o x c).tsq = s.tsq ∧ (nextEntry s t o x c).gsc = s.gsc ∧ (nextEntry s t o x c).bnm = s.bnm ∧
    (nextEntry s t o x c).jam = s.jam ∧ (nextEntry s t o x c).tsv = s.tsv ∧
    (nextEntry s t o x c).profile = s.profile ∧ (nextEntry s t o x c).cpt = s.cpt ∧
    (nextEntry s t o x c).lines = s.lines := by
  unfold nextEntry
  (repeat' (first | split | (dsimp only; split))) <;> simp

@[simp] theorem startBurst_frame (s : State) (t : Tag) (before : Option Sheet) (c : Count) :
    (startBurst s t before c).pending = s.pending ∧ (startBurst s t before c).stu = s.stu ∧
    (startBurst s t before c).sheets = s.sheets ∧ (startBurst s t before c).adm = s.adm ∧
    (startBurst s t before c).tsq = s.tsq ∧ (startBurst s t before c).gsc = s.gsc ∧
    (startBurst s t before c).bnm = s.bnm ∧ (startBurst s t before c).jam = s.jam ∧
    (startBurst s t before c).tsv = s.tsv ∧ (startBurst s t before c).profile = s.profile ∧
    (startBurst s t before c).cpt = s.cpt ∧ (startBurst s t before c).lines = s.lines ∧
    (startBurst s t before c).requests = s.requests := by
  unfold startBurst
  (repeat' (first | split | (dsimp only; split))) <;> simp

@[simp] theorem handLead_frame (s : State) (t : Tag) (o : Owner) (x : Sensor) (before : Option Sheet) (c : Count) :
    (handLead s t o x before c).pending = s.pending ∧ (handLead s t o x before c).stu = s.stu ∧
    (handLead s t o x before c).bnm = s.bnm ∧ (handLead s t o x before c).jam = s.jam ∧
    (handLead s t o x before c).tsv = s.tsv ∧ (handLead s t o x before c).profile = s.profile ∧
    (handLead s t o x before c).lines = s.lines := by
  unfold handLead
  (repeat' (first | split | (dsimp only; split))) <;> simp

@[simp] theorem acceptLead_frame (s : State) (x : Sensor) (e : Expectation) (c : Count) :
    (acceptLead s x e c).pending = s.pending ∧ (acceptLead s x e c).stu = s.stu ∧
    (acceptLead s x e c).bnm = s.bnm ∧ (acceptLead s x e c).jam = s.jam ∧ (acceptLead s x e c).tsv = s.tsv ∧
    (acceptLead s x e c).profile = s.profile ∧ (acceptLead s x e c).lines = s.lines := by
  unfold acceptLead
  (repeat' (first | split | (dsimp only; split))) <;> simp

@[simp] theorem expireEntry_frame (s : State) (x : Sensor) (e : Expectation) :
    (expireEntry s x e).pending = s.pending ∧ (expireEntry s x e).gsc = s.gsc ∧
    (expireEntry s x e).jam = s.jam ∧ (expireEntry s x e).tsv = s.tsv ∧
    (expireEntry s x e).profile = s.profile ∧ (expireEntry s x e).lines = s.lines := by
  unfold expireEntry
  (repeat' (first | split | (dsimp only; split))) <;> simp

@[simp] theorem expireOverdue_frame (s : State) (x : Sensor) (c : Count) :
    (expireOverdue s x c).pending = s.pending ∧ (expireOverdue s x c).gsc = s.gsc ∧
    (expireOverdue s x c).jam = s.jam ∧ (expireOverdue s x c).tsv = s.tsv ∧
    (expireOverdue s x c).profile = s.profile ∧ (expireOverdue s x c).lines = s.lines := by
  unfold expireOverdue
  (repeat' (first | split | (dsimp only; split))) <;> simp [foldl_keeps]

@[simp] theorem lead_frame (s : State) (x : Sensor) (c : Count) :
    (lead s x c).pending = s.pending ∧ (lead s x c).jam = s.jam ∧ (lead s x c).tsv = s.tsv ∧
    (lead s x c).profile = s.profile ∧ (lead s x c).lines = s.lines := by
  unfold lead
  (repeat' (first | split | (dsimp only; split))) <;> simp

@[simp] theorem expireTrail_frame (s : State) (t : Tag) (r : Sheet) (w : TrailPending) :
    (expireTrail s t r w).pending = s.pending ∧ (expireTrail s t r w).stu = s.stu ∧
    (expireTrail s t r w).adm = s.adm ∧ (expireTrail s t r w).tsq = s.tsq ∧
    (expireTrail s t r w).ptk = s.ptk ∧ (expireTrail s t r w).gsc = s.gsc ∧
    (expireTrail s t r w).bnm = s.bnm ∧ (expireTrail s t r w).jam = s.jam ∧
    (expireTrail s t r w).tsv = s.tsv ∧ (expireTrail s t r w).profile = s.profile ∧
    (expireTrail s t r w).cpt = s.cpt ∧ (expireTrail s t r w).lines = s.lines := by
  unfold expireTrail
  (repeat' (first | split | (dsimp only; split))) <;> simp

@[simp] theorem acceptTrail_frame (s : State) (t : Tag) (o : Owner) (x : Sensor) (later : Bool) :
    (acceptTrail s t o x later).pending = s.pending ∧ (acceptTrail s t o x later).adm = s.adm ∧
    (acceptTrail s t o x later).ptk.debounced = s.ptk.debounced ∧
    (acceptTrail s t o x later).ptk.debounce = s.ptk.debounce ∧
    (acceptTrail s t o x later).ptk.lists = s.ptk.lists ∧
    (acceptTrail s t o x later).ptk.release = s.ptk.release ∧
    (acceptTrail s t o x later).ptk.park = s.ptk.park ∧
    (acceptTrail s t o x later).ptk.frozen = s.ptk.frozen ∧
    (acceptTrail s t o x later).ptk.zeroOffset = s.ptk.zeroOffset ∧
    (acceptTrail s t o x later).ptk.verdicts = s.ptk.verdicts ∧
    (acceptTrail s t o x later).ptk.snapshot = s.ptk.snapshot ∧ (acceptTrail s t o x later).gsc = s.gsc ∧ (acceptTrail s t o x later).tsv = s.tsv ∧
    (acceptTrail s t o x later).profile = s.profile ∧ (acceptTrail s t o x later).lines = s.lines := by
  unfold acceptTrail
  (repeat' (first | split | (dsimp only; split))) <;> simp

@[simp] theorem judgeTrail_frame (s : State) (t : Tag) (x : Sensor) (c : Count) (later : Bool) :
    (judgeTrail s t x c later).pending = s.pending ∧ (judgeTrail s t x c later).adm = s.adm ∧
    (judgeTrail s t x c later).ptk.debounced = s.ptk.debounced ∧
    (judgeTrail s t x c later).ptk.debounce = s.ptk.debounce ∧
    (judgeTrail s t x c later).ptk.lists = s.ptk.lists ∧
    (judgeTrail s t x c later).ptk.release = s.ptk.release ∧
    (judgeTrail s t x c later).ptk.park = s.ptk.park ∧
    (judgeTrail s t x c later).ptk.frozen = s.ptk.frozen ∧
    (judgeTrail s t x c later).ptk.zeroOffset = s.ptk.zeroOffset ∧
    (judgeTrail s t x c later).ptk.verdicts = s.ptk.verdicts ∧
    (judgeTrail s t x c later).ptk.snapshot = s.ptk.snapshot ∧ (judgeTrail s t x c later).gsc = s.gsc ∧ (judgeTrail s t x c later).tsv = s.tsv ∧
    (judgeTrail s t x c later).profile = s.profile ∧ (judgeTrail s t x c later).lines = s.lines := by
  unfold judgeTrail
  (repeat' (first | split | (dsimp only; split))) <;> simp

@[simp] theorem expireRelease_frame (s : State) (w : ReleaseWindow) :
    (expireRelease s w).pending = s.pending ∧ (expireRelease s w).stu = s.stu ∧
    (expireRelease s w).sheets = s.sheets ∧ (expireRelease s w).adm = s.adm ∧
    (expireRelease s w).tsq = s.tsq ∧ (expireRelease s w).gsc = s.gsc ∧ (expireRelease s w).bnm = s.bnm ∧
    (expireRelease s w).jam = s.jam ∧ (expireRelease s w).tsv = s.tsv ∧
    (expireRelease s w).profile = s.profile ∧ (expireRelease s w).cpt = s.cpt ∧
    (expireRelease s w).lines = s.lines := by
  unfold expireRelease
  (repeat' (first | split | (dsimp only; split))) <;> simp

@[simp] theorem judgeRelease_frame (s : State) (w : ReleaseWindow) (c : Count) :
    (judgeRelease s w c).pending = s.pending ∧ (judgeRelease s w c).stu = s.stu ∧
    (judgeRelease s w c).sheets = s.sheets ∧ (judgeRelease s w c).tsq = s.tsq ∧
    (judgeRelease s w c).gsc = s.gsc ∧ (judgeRelease s w c).bnm = s.bnm ∧ (judgeRelease s w c).jam = s.jam ∧
    (judgeRelease s w c).tsv = s.tsv ∧ (judgeRelease s w c).profile = s.profile ∧
    (judgeRelease s w c).cpt = s.cpt ∧ (judgeRelease s w c).lines = s.lines := by
  unfold judgeRelease
  (repeat' (first | split | (dsimp only; split))) <;> simp

@[simp] theorem matchTrail_frame (s : State) (x : Sensor) (c : Count) (later : Bool) :
    (matchTrail s x c later).pending = s.pending ∧ (matchTrail s x c later).adm = s.adm ∧ (matchTrail s x c later).ptk.debounced = s.ptk.debounced ∧
    (matchTrail s x c later).ptk.debounce = s.ptk.debounce ∧
    (matchTrail s x c later).ptk.lists = s.ptk.lists ∧
    (matchTrail s x c later).ptk.release = s.ptk.release ∧
    (matchTrail s x c later).ptk.park = s.ptk.park ∧
    (matchTrail s x c later).ptk.frozen = s.ptk.frozen ∧
    (matchTrail s x c later).ptk.zeroOffset = s.ptk.zeroOffset ∧
    (matchTrail s x c later).ptk.verdicts = s.ptk.verdicts ∧
    (matchTrail s x c later).ptk.snapshot = s.ptk.snapshot ∧
    (matchTrail s x c later).gsc = s.gsc ∧ (matchTrail s x c later).tsv = s.tsv ∧ (matchTrail s x c later).profile = s.profile ∧
    (matchTrail s x c later).lines = s.lines := by
  unfold matchTrail
  (repeat' (first | split | (dsimp only; split))) <;> simp

@[simp] theorem trail_frame (s : State) (x : Sensor) (c : Count) (later : Bool) :
    (trail s x c later).pending = s.pending ∧ (trail s x c later).gsc = s.gsc ∧ (trail s x c later).tsv = s.tsv ∧
    (trail s x c later).profile = s.profile ∧ (trail s x c later).lines = s.lines := by
  unfold trail
  (repeat' (first | split | (dsimp only; split))) <;> simp

@[simp] theorem acceptEdge_frame (s : State) (x : Sensor) (c : Count) (later : Bool) :
    (acceptEdge s x c later).pending = s.pending ∧ (acceptEdge s x c later).tsv = s.tsv ∧
    (acceptEdge s x c later).profile = s.profile ∧ (acceptEdge s x c later).lines = s.lines := by
  unfold acceptEdge
  (repeat' (first | split | (dsimp only; split))) <;> simp

@[simp] theorem widenAll_frame (s : State) :
    (widenAll s).pending = s.pending ∧ (widenAll s).stu = s.stu ∧ (widenAll s).adm = s.adm ∧
    (widenAll s).tsq = s.tsq ∧ (widenAll s).gsc = s.gsc ∧ (widenAll s).bnm = s.bnm ∧
    (widenAll s).jam = s.jam ∧ (widenAll s).tsv = s.tsv ∧ (widenAll s).profile = s.profile ∧
    (widenAll s).cpt = s.cpt ∧ (widenAll s).lines = s.lines ∧ (widenAll s).requests = s.requests := by
  unfold widenAll
  (repeat' (first | split | (dsimp only; split))) <;> simp

@[simp] theorem latch_frame (s : State) (cause : JamCause) (sensor : Sensor) (tag : Option Tag) (second : Bool) :
    (latch s cause sensor tag second).pending = s.pending ∧ (latch s cause sensor tag second).stu = s.stu ∧
    (latch s cause sensor tag second).sheets = s.sheets ∧ (latch s cause sensor tag second).adm = s.adm ∧
    (latch s cause sensor tag second).tsq = s.tsq ∧ (latch s cause sensor tag second).gsc = s.gsc ∧
    (latch s cause sensor tag second).bnm = s.bnm ∧ (latch s cause sensor tag second).jam = s.jam ∧
    (latch s cause sensor tag second).tsv = s.tsv ∧ (latch s cause sensor tag second).profile = s.profile ∧
    (latch s cause sensor tag second).cpt = s.cpt ∧ (latch s cause sensor tag second).lines = s.lines ∧
    (latch s cause sensor tag second).requests = s.requests := by
  unfold latch
  (repeat' (first | split | (dsimp only; split))) <;> simp

@[simp] theorem freezeTracker_frame (s : State) :
    (freezeTracker s).pending = s.pending ∧ (freezeTracker s).stu = s.stu ∧
    (freezeTracker s).sheets = s.sheets ∧ (freezeTracker s).adm = s.adm ∧ (freezeTracker s).tsq = s.tsq ∧
    (freezeTracker s).gsc = s.gsc ∧ (freezeTracker s).bnm = s.bnm ∧ (freezeTracker s).jam = s.jam ∧
    (freezeTracker s).tsv = s.tsv ∧ (freezeTracker s).profile = s.profile ∧ (freezeTracker s).cpt = s.cpt ∧
    (freezeTracker s).lines = s.lines ∧ (freezeTracker s).requests = s.requests := by
  unfold freezeTracker
  (repeat' (first | split | (dsimp only; split))) <;> simp

@[simp] theorem clearTracker_frame (s : State) :
    (clearTracker s).pending = s.pending ∧ (clearTracker s).stu = s.stu ∧ (clearTracker s).sheets = s.sheets ∧
    (clearTracker s).adm = s.adm ∧ (clearTracker s).tsq = s.tsq ∧ (clearTracker s).gsc = s.gsc ∧
    (clearTracker s).bnm = s.bnm ∧ (clearTracker s).jam = s.jam ∧ (clearTracker s).tsv = s.tsv ∧
    (clearTracker s).profile = s.profile ∧ (clearTracker s).cpt = s.cpt ∧ (clearTracker s).lines = s.lines ∧
    (clearTracker s).requests = s.requests := by
  unfold clearTracker
  (repeat' (first | split | (dsimp only; split))) <;> simp

@[simp] theorem moveToPurge_frame (s : State) (t : Tag) (lastLead : Count) :
    (moveToPurge s t lastLead).pending = s.pending ∧ (moveToPurge s t lastLead).stu = s.stu ∧
    (moveToPurge s t lastLead).sheets = s.sheets ∧ (moveToPurge s t lastLead).adm = s.adm ∧
    (moveToPurge s t lastLead).tsq = s.tsq ∧ (moveToPurge s t lastLead).gsc = s.gsc ∧
    (moveToPurge s t lastLead).bnm = s.bnm ∧ (moveToPurge s t lastLead).jam = s.jam ∧
    (moveToPurge s t lastLead).tsv = s.tsv ∧ (moveToPurge s t lastLead).profile = s.profile ∧
    (moveToPurge s t lastLead).cpt = s.cpt ∧ (moveToPurge s t lastLead).lines = s.lines := by
  unfold moveToPurge
  (repeat' (first | split | (dsimp only; split))) <;> simp

@[simp] theorem rerouteGates_frame (s : State) (g : Gate) (t : Tag) (o : Owner) (lastLead : Count) :
    (rerouteGates s g t o lastLead).pending = s.pending ∧ (rerouteGates s g t o lastLead).stu = s.stu ∧
    (rerouteGates s g t o lastLead).sheets = s.sheets ∧ (rerouteGates s g t o lastLead).adm = s.adm ∧
    (rerouteGates s g t o lastLead).tsq = s.tsq ∧ (rerouteGates s g t o lastLead).ptk = s.ptk ∧
    (rerouteGates s g t o lastLead).bnm = s.bnm ∧ (rerouteGates s g t o lastLead).jam = s.jam ∧
    (rerouteGates s g t o lastLead).tsv = s.tsv ∧ (rerouteGates s g t o lastLead).profile = s.profile ∧
    (rerouteGates s g t o lastLead).cpt = s.cpt ∧ (rerouteGates s g t o lastLead).lines = s.lines := by
  unfold rerouteGates
  (repeat' (first | split | (dsimp only; split))) <;> simp [foldl_keeps]

@[simp] theorem rerouteOne_frame (s : State) (t : Tag) :
    (rerouteOne s t).pending = s.pending ∧ (rerouteOne s t).stu = s.stu ∧ (rerouteOne s t).adm = s.adm ∧
    (rerouteOne s t).tsq = s.tsq ∧ (rerouteOne s t).jam = s.jam ∧ (rerouteOne s t).tsv = s.tsv ∧
    (rerouteOne s t).profile = s.profile ∧ (rerouteOne s t).cpt = s.cpt ∧
    (rerouteOne s t).lines = s.lines := by
  unfold rerouteOne
  (repeat' (first | split | (dsimp only; split))) <;> simp

@[simp] theorem takeReroute_frame (s : State) (q : RerouteRequest) :
    (takeReroute s q).pending = s.pending ∧ (takeReroute s q).stu = s.stu ∧ (takeReroute s q).adm = s.adm ∧
    (takeReroute s q).tsq = s.tsq ∧ (takeReroute s q).jam = s.jam ∧ (takeReroute s q).tsv = s.tsv ∧
    (takeReroute s q).profile = s.profile ∧ (takeReroute s q).cpt = s.cpt ∧
    (takeReroute s q).lines = s.lines := by
  unfold takeReroute
  (repeat' (first | split | (dsimp only; split))) <;> simp [foldl_keeps]

end Sys2Proof.Machine
end

