-- ==== Sys2Proof/Laws/FrameTransport.lean ====
section
/-! SUPPORT. Which blocks each operation of the Transport Supervisor leaves as they were. -/

namespace Sys2Proof.Machine

set_option Elab.async false
set_option linter.unusedSimpArgs false

@[simp] theorem enter_frame (s : State) (st : TransportState) (cause : TransportCause) (reason : StartReason) :
    (enter s st cause reason).pending = s.pending ∧ (enter s st cause reason).stu = s.stu ∧
    (enter s st cause reason).sheets = s.sheets ∧ (enter s st cause reason).adm = s.adm ∧
    (enter s st cause reason).tsq = s.tsq ∧ (enter s st cause reason).ptk = s.ptk ∧
    (enter s st cause reason).gsc = s.gsc ∧ (enter s st cause reason).bnm = s.bnm ∧
    (enter s st cause reason).jam = s.jam ∧ (enter s st cause reason).profile = s.profile ∧
    (enter s st cause reason).lines = s.lines ∧ (enter s st cause reason).requests = s.requests := by
  unfold enter
  (repeat' (first | split | (dsimp only; split))) <;> simp

@[simp] theorem withdrawBoth_frame (s : State) :
    (withdrawBoth s).pending = s.pending ∧ (withdrawBoth s).stu = s.stu ∧ (withdrawBoth s).sheets = s.sheets ∧
    (withdrawBoth s).adm = s.adm ∧ (withdrawBoth s).tsq = s.tsq ∧ (withdrawBoth s).gsc = s.gsc ∧
    (withdrawBoth s).bnm = s.bnm ∧ (withdrawBoth s).jam = s.jam ∧ (withdrawBoth s).profile = s.profile ∧
    (withdrawBoth s).cpt = s.cpt ∧ (withdrawBoth s).lines = s.lines ∧
    (withdrawBoth s).requests = s.requests := by
  unfold withdrawBoth
  (repeat' (first | split | (dsimp only; split))) <;> simp

@[simp] theorem beginDrain_frame (s : State) (cause : TransportCause) :
    (beginDrain s cause).pending = s.pending ∧ (beginDrain s cause).stu = s.stu ∧
    (beginDrain s cause).sheets = s.sheets ∧ (beginDrain s cause).adm = s.adm ∧
    (beginDrain s cause).tsq = s.tsq ∧ (beginDrain s cause).ptk = s.ptk ∧ (beginDrain s cause).gsc = s.gsc ∧
    (beginDrain s cause).bnm = s.bnm ∧ (beginDrain s cause).jam = s.jam ∧
    (beginDrain s cause).profile = s.profile ∧ (beginDrain s cause).lines = s.lines ∧
    (beginDrain s cause).requests = s.requests := by
  unfold beginDrain
  (repeat' (first | split | (dsimp only; split))) <;> simp

@[simp] theorem endStart_frame (s : State) (cause : TransportCause) (reason : StartReason) :
    (endStart s cause reason).pending = s.pending ∧ (endStart s cause reason).stu = s.stu ∧
    (endStart s cause reason).sheets = s.sheets ∧ (endStart s cause reason).adm = s.adm ∧
    (endStart s cause reason).tsq = s.tsq ∧ (endStart s cause reason).gsc = s.gsc ∧
    (endStart s cause reason).bnm = s.bnm ∧ (endStart s cause reason).jam = s.jam ∧
    (endStart s cause reason).profile = s.profile ∧ (endStart s cause reason).lines = s.lines ∧
    (endStart s cause reason).requests = s.requests := by
  unfold endStart
  (repeat' (first | split | (dsimp only; split))) <;> simp

@[simp] theorem stopEvent_frame (s : State) (cause : TransportCause) :
    (stopEvent s cause).pending = s.pending ∧ (stopEvent s cause).stu = s.stu ∧
    (stopEvent s cause).sheets = s.sheets ∧ (stopEvent s cause).adm = s.adm ∧
    (stopEvent s cause).tsq = s.tsq ∧ (stopEvent s cause).gsc = s.gsc ∧ (stopEvent s cause).bnm = s.bnm ∧
    (stopEvent s cause).jam = s.jam ∧ (stopEvent s cause).profile = s.profile ∧
    (stopEvent s cause).lines = s.lines ∧ (stopEvent s cause).requests = s.requests := by
  unfold stopEvent
  (repeat' (first | split | (dsimp only; split))) <;> simp

@[simp] theorem acceptStart_frame (s : State) :
    (acceptStart s).pending = s.pending ∧ (acceptStart s).stu = s.stu ∧ (acceptStart s).sheets = s.sheets ∧
    (acceptStart s).adm = s.adm ∧ (acceptStart s).tsq = s.tsq ∧ (acceptStart s).ptk = s.ptk ∧
    (acceptStart s).gsc = s.gsc ∧ (acceptStart s).bnm = s.bnm ∧ (acceptStart s).jam = s.jam ∧
    (acceptStart s).profile = s.profile ∧ (acceptStart s).lines = s.lines ∧
    (acceptStart s).requests = s.requests := by
  unfold acceptStart
  (repeat' (first | split | (dsimp only; split))) <;> simp

@[simp] theorem advance_frame (s : State) (n : Nat) :
    (advance s n).pending = s.pending ∧ (advance s n).stu = s.stu ∧ (advance s n).sheets = s.sheets ∧
    (advance s n).adm = s.adm ∧ (advance s n).tsq = s.tsq ∧ (advance s n).ptk = s.ptk ∧
    (advance s n).gsc = s.gsc ∧ (advance s n).bnm = s.bnm ∧ (advance s n).jam = s.jam ∧
    (advance s n).profile = s.profile ∧ (advance s n).cpt = s.cpt ∧ (advance s n).lines = s.lines ∧
    (advance s n).requests = s.requests := by
  unfold advance
  (repeat' (first | split | (dsimp only; split))) <;> simp

@[simp] theorem startComplete_frame (s : State) :
    (startComplete s).pending = s.pending ∧ (startComplete s).stu = s.stu ∧
    (startComplete s).sheets = s.sheets ∧ (startComplete s).adm = s.adm ∧ (startComplete s).tsq = s.tsq ∧
    (startComplete s).ptk = s.ptk ∧ (startComplete s).gsc = s.gsc ∧ (startComplete s).bnm = s.bnm ∧
    (startComplete s).jam = s.jam ∧ (startComplete s).profile = s.profile ∧
    (startComplete s).lines = s.lines ∧ (startComplete s).requests = s.requests := by
  unfold startComplete
  (repeat' (first | split | (dsimp only; split))) <;> simp

@[simp] theorem endSpan_frame (s : State) (time : Nat) :
    (endSpan s time).pending = s.pending ∧ (endSpan s time).stu = s.stu ∧ (endSpan s time).sheets = s.sheets ∧
    (endSpan s time).adm = s.adm ∧ (endSpan s time).tsq = s.tsq ∧ (endSpan s time).ptk = s.ptk ∧
    (endSpan s time).gsc = s.gsc ∧ (endSpan s time).bnm = s.bnm ∧ (endSpan s time).jam = s.jam ∧
    (endSpan s time).profile = s.profile ∧ (endSpan s time).lines = s.lines ∧
    (endSpan s time).requests = s.requests := by
  unfold endSpan
  (repeat' (first | split | (dsimp only; split))) <;> simp

@[simp] theorem measure_frame (s : State) (elapsed : Nat) :
    (measure s elapsed).pending = s.pending ∧ (measure s elapsed).stu = s.stu ∧
    (measure s elapsed).sheets = s.sheets ∧ (measure s elapsed).adm = s.adm ∧
    (measure s elapsed).tsq = s.tsq ∧ (measure s elapsed).ptk = s.ptk ∧ (measure s elapsed).gsc = s.gsc ∧
    (measure s elapsed).bnm = s.bnm ∧ (measure s elapsed).jam = s.jam ∧
    (measure s elapsed).profile = s.profile ∧ (measure s elapsed).lines = s.lines ∧
    (measure s elapsed).requests = s.requests := by
  unfold measure
  (repeat' (first | split | (dsimp only; split))) <;> simp

@[simp] theorem notePulse_frame (s : State) :
    (notePulse s).pending = s.pending ∧ (notePulse s).stu = s.stu ∧ (notePulse s).sheets = s.sheets ∧
    (notePulse s).adm = s.adm ∧ (notePulse s).tsq = s.tsq ∧ (notePulse s).ptk = s.ptk ∧
    (notePulse s).gsc = s.gsc ∧ (notePulse s).bnm = s.bnm ∧ (notePulse s).jam = s.jam ∧
    (notePulse s).profile = s.profile ∧ (notePulse s).cpt = s.cpt ∧ (notePulse s).lines = s.lines ∧
    (notePulse s).requests = s.requests := by
  unfold notePulse
  (repeat' (first | split | (dsimp only; split))) <;> simp

@[simp] theorem pulse_frame (s : State) (elapsed : Nat) :
    (pulse s elapsed).pending = s.pending ∧ (pulse s elapsed).stu = s.stu ∧
    (pulse s elapsed).sheets = s.sheets ∧ (pulse s elapsed).adm = s.adm ∧ (pulse s elapsed).tsq = s.tsq ∧
    (pulse s elapsed).ptk = s.ptk ∧ (pulse s elapsed).gsc = s.gsc ∧ (pulse s elapsed).bnm = s.bnm ∧
    (pulse s elapsed).jam = s.jam ∧ (pulse s elapsed).profile = s.profile ∧
    (pulse s elapsed).lines = s.lines ∧ (pulse s elapsed).requests = s.requests := by
  unfold pulse
  (repeat' (first | split | (dsimp only; split))) <;> simp

@[simp] theorem loseEncoder_frame (s : State) :
    (loseEncoder s).pending = s.pending ∧ (loseEncoder s).stu = s.stu ∧ (loseEncoder s).sheets = s.sheets ∧
    (loseEncoder s).adm = s.adm ∧ (loseEncoder s).tsq = s.tsq ∧ (loseEncoder s).ptk = s.ptk ∧
    (loseEncoder s).gsc = s.gsc ∧ (loseEncoder s).bnm = s.bnm ∧ (loseEncoder s).jam = s.jam ∧
    (loseEncoder s).profile = s.profile ∧ (loseEncoder s).cpt = s.cpt ∧ (loseEncoder s).lines = s.lines ∧
    (loseEncoder s).requests = s.requests := by
  unfold loseEncoder
  (repeat' (first | split | (dsimp only; split))) <;> simp

@[simp] theorem expireTrailOf_frame (s : State) (t : Tag) :
    (expireTrailOf s t).pending = s.pending ∧ (expireTrailOf s t).stu = s.stu ∧
    (expireTrailOf s t).adm = s.adm ∧ (expireTrailOf s t).tsq = s.tsq ∧
    (expireTrailOf s t).ptk = s.ptk ∧ (expireTrailOf s t).gsc = s.gsc ∧
    (expireTrailOf s t).bnm = s.bnm ∧ (expireTrailOf s t).jam = s.jam ∧
    (expireTrailOf s t).tsv = s.tsv ∧ (expireTrailOf s t).profile = s.profile ∧
    (expireTrailOf s t).cpt = s.cpt ∧ (expireTrailOf s t).lines = s.lines := by
  unfold expireTrailOf
  (repeat' (first | split | (dsimp only; split))) <;> simp

@[simp] theorem expireReleaseWindow_frame (s : State) :
    (expireReleaseWindow s).pending = s.pending ∧ (expireReleaseWindow s).stu = s.stu ∧
    (expireReleaseWindow s).sheets = s.sheets ∧ (expireReleaseWindow s).adm = s.adm ∧
    (expireReleaseWindow s).tsq = s.tsq ∧ (expireReleaseWindow s).gsc = s.gsc ∧
    (expireReleaseWindow s).bnm = s.bnm ∧ (expireReleaseWindow s).jam = s.jam ∧
    (expireReleaseWindow s).tsv = s.tsv ∧ (expireReleaseWindow s).profile = s.profile ∧
    (expireReleaseWindow s).cpt = s.cpt ∧ (expireReleaseWindow s).lines = s.lines := by
  unfold expireReleaseWindow
  (repeat' (first | split | (dsimp only; split))) <;> simp

@[simp] theorem takeExpiry_frame (s : State) (k : Expiry) :
    (takeExpiry s k).pending = s.pending ∧ (takeExpiry s k).gsc = s.gsc ∧
    (takeExpiry s k).jam = s.jam ∧ (takeExpiry s k).tsv = s.tsv ∧
    (takeExpiry s k).profile = s.profile ∧ (takeExpiry s k).lines = s.lines := by
  cases k
  · simp only [takeExpiry]
    split <;> simp
  all_goals simp [takeExpiry]

@[simp] theorem takeExpiries_frame (s : State) :
    (takeExpiries s).pending = s.pending ∧ (takeExpiries s).gsc = s.gsc ∧
    (takeExpiries s).jam = s.jam ∧ (takeExpiries s).tsv = s.tsv ∧
    (takeExpiries s).profile = s.profile ∧ (takeExpiries s).lines = s.lines := by
  unfold takeExpiries
  (repeat' (first | split | (dsimp only; split))) <;> simp [foldl_keeps]

@[simp] theorem beginBackup_frame (s : State) :
    (beginBackup s).pending = s.pending ∧ (beginBackup s).stu = s.stu ∧
    (beginBackup s).adm = s.adm ∧ (beginBackup s).gsc = s.gsc ∧
    (beginBackup s).bnm = s.bnm ∧ (beginBackup s).jam = s.jam ∧
    (beginBackup s).profile = s.profile ∧ (beginBackup s).lines = s.lines := by
  unfold beginBackup
  (repeat' (first | split | (dsimp only; split))) <;> simp

@[simp] theorem takeOver_frame (s : State) :
    (takeOver s).pending = s.pending ∧ (takeOver s).gsc = s.gsc ∧
    (takeOver s).jam = s.jam ∧ (takeOver s).profile = s.profile ∧
    (takeOver s).lines = s.lines := by
  unfold takeOver
  (repeat' (first | split | (dsimp only; split))) <;> simp

@[simp] theorem takeSilence_frame (s : State) :
    (takeSilence s).pending = s.pending ∧ (takeSilence s).gsc = s.gsc ∧
    (takeSilence s).jam = s.jam ∧ (takeSilence s).profile = s.profile ∧
    (takeSilence s).lines = s.lines := by
  unfold takeSilence
  (repeat' (first | split | (dsimp only; split))) <;> simp

@[simp] theorem completeDrain_frame (s : State) :
    (completeDrain s).pending = s.pending ∧ (completeDrain s).stu = s.stu ∧
    (completeDrain s).sheets = s.sheets ∧ (completeDrain s).adm = s.adm ∧ (completeDrain s).tsq = s.tsq ∧
    (completeDrain s).bnm = s.bnm ∧ (completeDrain s).jam = s.jam ∧ (completeDrain s).profile = s.profile ∧
    (completeDrain s).lines = s.lines ∧ (completeDrain s).requests = s.requests := by
  unfold completeDrain
  (repeat' (first | split | (dsimp only; split))) <;> simp

end Sys2Proof.Machine
end

