-- ==== Sys2Proof/Laws/FrameJams.lean ====
section
/-! SUPPORT. Which blocks each operation of jam handling leaves as they were. -/

namespace Sys2Proof.Machine

set_option Elab.async false
set_option linter.unusedSimpArgs false

@[simp] theorem recordJam_frame (s : State) (f : PathFault) :
    (recordJam s f).pending = s.pending ∧ (recordJam s f).stu = s.stu ∧ (recordJam s f).sheets = s.sheets ∧
    (recordJam s f).adm = s.adm ∧ (recordJam s f).tsq = s.tsq ∧ (recordJam s f).gsc = s.gsc ∧
    (recordJam s f).bnm = s.bnm ∧ (recordJam s f).tsv = s.tsv ∧ (recordJam s f).profile = s.profile ∧
    (recordJam s f).lines = s.lines ∧ (recordJam s f).requests = s.requests := by
  unfold recordJam
  (repeat' (first | split | (dsimp only; split))) <;> simp

@[simp] theorem haltAdmission_frame (s : State) :
    (haltAdmission s).pending = s.pending ∧ (haltAdmission s).stu = s.stu ∧
    (haltAdmission s).sheets = s.sheets ∧ (haltAdmission s).tsq = s.tsq ∧ (haltAdmission s).ptk = s.ptk ∧
    (haltAdmission s).gsc = s.gsc ∧ (haltAdmission s).bnm = s.bnm ∧ (haltAdmission s).jam = s.jam ∧
    (haltAdmission s).tsv = s.tsv ∧ (haltAdmission s).profile = s.profile ∧ (haltAdmission s).cpt = s.cpt ∧
    (haltAdmission s).lines = s.lines ∧ (haltAdmission s).requests = s.requests := by
  unfold haltAdmission
  (repeat' (first | split | (dsimp only; split))) <;> simp

@[simp] theorem stopMain_frame (s : State) :
    (stopMain s).pending = s.pending ∧ (stopMain s).stu = s.stu ∧ (stopMain s).sheets = s.sheets ∧
    (stopMain s).bnm = s.bnm ∧ (stopMain s).jam = s.jam ∧ (stopMain s).profile = s.profile ∧
    (stopMain s).cpt = s.cpt ∧ (stopMain s).lines = s.lines ∧ (stopMain s).requests = s.requests := by
  unfold stopMain
  (repeat' (first | split | (dsimp only; split))) <;> simp

@[simp] theorem endRunOut_frame (s : State) :
    (endRunOut s).pending = s.pending ∧ (endRunOut s).stu = s.stu ∧ (endRunOut s).sheets = s.sheets ∧
    (endRunOut s).adm = s.adm ∧ (endRunOut s).tsq = s.tsq ∧ (endRunOut s).bnm = s.bnm ∧
    (endRunOut s).jam = s.jam ∧ (endRunOut s).profile = s.profile ∧ (endRunOut s).lines = s.lines ∧
    (endRunOut s).requests = s.requests := by
  unfold endRunOut
  (repeat' (first | split | (dsimp only; split))) <;> simp

@[simp] theorem runOut_frame (s : State) :
    (runOut s).pending = s.pending ∧ (runOut s).stu = s.stu ∧ (runOut s).adm = s.adm ∧
    (runOut s).tsq = s.tsq ∧ (runOut s).bnm = s.bnm ∧ (runOut s).profile = s.profile ∧
    (runOut s).lines = s.lines ∧ (runOut s).requests = s.requests := by
  unfold runOut
  (repeat' (first | split | (dsimp only; split))) <;> simp

@[simp] theorem stopOutput_frame (s : State) :
    (stopOutput s).pending = s.pending ∧ (stopOutput s).stu = s.stu ∧ (stopOutput s).adm = s.adm ∧
    (stopOutput s).tsq = s.tsq ∧ (stopOutput s).bnm = s.bnm ∧ (stopOutput s).jam = s.jam ∧
    (stopOutput s).profile = s.profile ∧ (stopOutput s).lines = s.lines ∧
    (stopOutput s).requests = s.requests := by
  unfold stopOutput
  (repeat' (first | split | (dsimp only; split))) <;> simp

@[simp] theorem declareJam_frame (s : State) (f : PathFault) :
    (declareJam s f).pending = s.pending ∧ (declareJam s f).stu = s.stu ∧ (declareJam s f).bnm = s.bnm ∧
    (declareJam s f).profile = s.profile ∧ (declareJam s f).lines = s.lines ∧
    (declareJam s f).requests = s.requests := by
  unfold declareJam
  (repeat' (first | split | (dsimp only; split))) <;> simp

@[simp] theorem countFurther_frame (s : State) :
    (countFurther s).pending = s.pending ∧ (countFurther s).stu = s.stu ∧ (countFurther s).sheets = s.sheets ∧
    (countFurther s).adm = s.adm ∧ (countFurther s).tsq = s.tsq ∧ (countFurther s).ptk = s.ptk ∧
    (countFurther s).gsc = s.gsc ∧ (countFurther s).bnm = s.bnm ∧ (countFurther s).tsv = s.tsv ∧
    (countFurther s).profile = s.profile ∧ (countFurther s).cpt = s.cpt ∧ (countFurther s).lines = s.lines ∧
    (countFurther s).requests = s.requests := by
  unfold countFurther
  (repeat' (first | split | (dsimp only; split))) <;> simp

@[simp] theorem reportFurther_frame (s : State) (f : PathFault) :
    (reportFurther s f).pending = s.pending ∧ (reportFurther s f).stu = s.stu ∧
    (reportFurther s f).sheets = s.sheets ∧ (reportFurther s f).adm = s.adm ∧
    (reportFurther s f).tsq = s.tsq ∧ (reportFurther s f).gsc = s.gsc ∧ (reportFurther s f).bnm = s.bnm ∧
    (reportFurther s f).tsv = s.tsv ∧ (reportFurther s f).profile = s.profile ∧
    (reportFurther s f).lines = s.lines ∧ (reportFurther s f).requests = s.requests := by
  unfold reportFurther
  (repeat' (first | split | (dsimp only; split))) <;> simp

@[simp] theorem secondFault_frame (s : State) (f : PathFault) :
    (secondFault s f).pending = s.pending ∧ (secondFault s f).stu = s.stu ∧ (secondFault s f).adm = s.adm ∧
    (secondFault s f).tsq = s.tsq ∧ (secondFault s f).bnm = s.bnm ∧ (secondFault s f).profile = s.profile ∧
    (secondFault s f).lines = s.lines ∧ (secondFault s f).requests = s.requests := by
  unfold secondFault
  (repeat' (first | split | (dsimp only; split))) <;> simp

@[simp] theorem takeFault_frame (s : State) (f : PathFault) :
    (takeFault s f).pending = s.pending ∧ (takeFault s f).stu = s.stu ∧ (takeFault s f).bnm = s.bnm ∧
    (takeFault s f).profile = s.profile ∧ (takeFault s f).lines = s.lines ∧
    (takeFault s f).requests = s.requests := by
  unfold takeFault
  (repeat' (first | split | (dsimp only; split))) <;> simp

@[simp] theorem settleRequests_frame (s : State) :
    (settleRequests s).pending = s.pending ∧ (settleRequests s).stu = s.stu ∧ (settleRequests s).tsq = s.tsq ∧
    (settleRequests s).ptk = s.ptk ∧ (settleRequests s).gsc = s.gsc ∧ (settleRequests s).jam = s.jam ∧
    (settleRequests s).tsv = s.tsv ∧ (settleRequests s).profile = s.profile ∧
    (settleRequests s).lines = s.lines := by
  unfold settleRequests
  simp [foldl_keeps]

@[simp] theorem resolveLost_frame (s : State) (t : Tag) (r : Sheet) :
    (resolveLost s t r).pending = s.pending ∧ (resolveLost s t r).tsq = s.tsq ∧
    (resolveLost s t r).ptk.debounced = s.ptk.debounced ∧
    (resolveLost s t r).ptk.debounce = s.ptk.debounce ∧
    (resolveLost s t r).ptk.lists = s.ptk.lists ∧
    (resolveLost s t r).ptk.release = s.ptk.release ∧
    (resolveLost s t r).ptk.park = s.ptk.park ∧
    (resolveLost s t r).ptk.frozen = s.ptk.frozen ∧
    (resolveLost s t r).ptk.zeroOffset = s.ptk.zeroOffset ∧
    (resolveLost s t r).ptk.verdicts = s.ptk.verdicts ∧
    (resolveLost s t r).ptk.snapshot = s.ptk.snapshot ∧ (resolveLost s t r).gsc = s.gsc ∧ (resolveLost s t r).jam = s.jam ∧
    (resolveLost s t r).tsv = s.tsv ∧ (resolveLost s t r).profile = s.profile ∧
    (resolveLost s t r).lines = s.lines := by
  unfold resolveLost
  (repeat' (first | split | (dsimp only; split))) <;> simp

@[simp] theorem resolve_frame (s : State) (t : Tag) :
    (resolve s t).pending = s.pending ∧ (resolve s t).tsq = s.tsq ∧ (resolve s t).ptk.debounced = s.ptk.debounced ∧
    (resolve s t).ptk.debounce = s.ptk.debounce ∧
    (resolve s t).ptk.lists = s.ptk.lists ∧
    (resolve s t).ptk.release = s.ptk.release ∧
    (resolve s t).ptk.park = s.ptk.park ∧
    (resolve s t).ptk.frozen = s.ptk.frozen ∧
    (resolve s t).ptk.zeroOffset = s.ptk.zeroOffset ∧
    (resolve s t).ptk.verdicts = s.ptk.verdicts ∧
    (resolve s t).ptk.snapshot = s.ptk.snapshot ∧
    (resolve s t).gsc = s.gsc ∧ (resolve s t).jam = s.jam ∧ (resolve s t).tsv = s.tsv ∧
    (resolve s t).profile = s.profile ∧ (resolve s t).lines = s.lines := by
  unfold resolve
  (repeat' (first | split | (dsimp only; split))) <;> simp

@[simp] theorem clearPick_frame (s : State) :
    (clearPick s).pending = s.pending ∧ (clearPick s).stu = s.stu ∧ (clearPick s).sheets = s.sheets ∧
    (clearPick s).tsq = s.tsq ∧ (clearPick s).ptk = s.ptk ∧ (clearPick s).gsc = s.gsc ∧
    (clearPick s).bnm = s.bnm ∧ (clearPick s).jam = s.jam ∧ (clearPick s).tsv = s.tsv ∧
    (clearPick s).profile = s.profile ∧ (clearPick s).cpt = s.cpt ∧ (clearPick s).lines = s.lines ∧
    (clearPick s).requests = s.requests := by
  unfold clearPick
  (repeat' (first | split | (dsimp only; split))) <;> simp

@[simp] theorem clearPath_frame (s : State) :
    (clearPath s).pending = s.pending ∧ (clearPath s).profile = s.profile ∧
    (clearPath s).lines = s.lines := by
  unfold clearPath
  (repeat' (first | split | (dsimp only; split))) <;> simp [foldl_keeps]

end Sys2Proof.Machine
end

