-- ==== Sys2Proof/Laws/Finish.lean ====
section
/-! SUPPORT. What the end of a step can do, said once: the retirement claims that waited and the evaluation; and how a
command is answered. -/

namespace Sys2Proof.Machine

set_option Elab.async false

/-- A suspect claim changes the tray conditions and sends a TRAY notice, nothing else. -/
theorem takeSuspect_same (s : State) (t : Tray) :
    takeSuspect s t = { s with
      adm := { s.adm with conditions := (takeSuspect s t).adm.conditions }
      cpt := { s.cpt with
        notices := (takeSuspect s t).cpt.notices, noticeLost := (takeSuspect s t).cpt.noticeLost } } := by
  unfold takeSuspect State.notify State.setCondition
  split
  · split <;> rfl
  · rfl

theorem takeSuspects_fold (l : List Tray) (s : State) :
    l.foldl takeSuspect s = { s with
      adm := { s.adm with conditions := (l.foldl takeSuspect s).adm.conditions }
      cpt := { s.cpt with
        notices := (l.foldl takeSuspect s).cpt.notices
        noticeLost := (l.foldl takeSuspect s).cpt.noticeLost } } := by
  induction l generalizing s with
  | nil => rfl
  | cons a l ih =>
    rw [List.foldl_cons, ih (takeSuspect s a), takeSuspect_same s a]

/-- An evaluation writes the hold reason of its queue and may send BIN_OVERFLOW break requests, nothing else. -/
theorem evaluateQueue_same (s : State) (q : Queue) :
    evaluateQueue s q = { s with
      adm := { s.adm with
        newHold := (evaluateQueue s q).adm.newHold, restartHold := (evaluateQueue s q).adm.restartHold }
      requests := { s.requests with breaks := (evaluateQueue s q).requests.breaks } } := by
  cases q <;> (unfold evaluateQueue; (repeat' (first | split | (dsimp only; split))) <;> rfl)

theorem evaluateQueue_breaks (s : State) (q : Queue) :
    (evaluateQueue s q).requests.breaks = s.requests.breaks ++ overflowRequests s q := by
  unfold evaluateQueue overflowRequests
  cases (s.queue q).head? with
  | none => simp
  | some e =>
    dsimp only
    split <;> simp [State.askBreak]

theorem evaluateQueue_hold (s : State) (p q : Queue) :
    (evaluateQueue s p).hold q = if p = q then evaluate s p else s.hold q := by
  have h : (evaluateQueue s p).hold q = (s.setHold p (evaluate s p)).hold q := by
    unfold evaluateQueue
    dsimp only
    split
    · rfl
    · split
      · cases q <;> rfl
      · rfl
  rw [h, State.hold_setHold]

/-- An evaluation reads neither the hold reasons, nor the break requests, nor the notices, nor the suspect claims. -/
theorem evaluate_congr (s : State) (q : Queue) (n r : HoldReason) (b : List BreakRequest) (l : List Notice) (f : Bool)
    (ts : List Tray) :
    evaluate { s with
      adm := { s.adm with newHold := n, restartHold := r, suspects := ts }
      cpt := { s.cpt with notices := l, noticeLost := f }
      requests := { s.requests with breaks := b } } q = evaluate s q := by
  cases q <;> rfl

theorem overflowRequests_congr (s : State) (q : Queue) (n r : HoldReason) (b : List BreakRequest) (l : List Notice)
    (f : Bool) (ts : List Tray) :
    overflowRequests { s with
      adm := { s.adm with newHold := n, restartHold := r, suspects := ts }
      cpt := { s.cpt with notices := l, noticeLost := f }
      requests := { s.requests with breaks := b } } q = overflowRequests s q := by
  cases q <;> rfl

theorem evaluateChanged_same (before s : State) (q : Queue) :
    evaluateChanged before s q = { s with
      adm := { s.adm with
        newHold := (evaluateChanged before s q).adm.newHold
        restartHold := (evaluateChanged before s q).adm.restartHold }
      requests := { s.requests with breaks := (evaluateChanged before s q).requests.breaks } } := rfl

/-- Where nothing it depends on has changed, a queue is not evaluated. -/
theorem evaluateChanged_unseen (before s : State) (q : Queue) (h : evaluationView before q = evaluationView s q) :
    evaluateChanged before s q = s := by
  unfold evaluateChanged
  rw [if_pos h]

/-- Where something it depends on has changed, a queue is evaluated. -/
theorem evaluateChanged_seen (before s : State) (q : Queue) (h : evaluationView before q ≠ evaluationView s q) :
    evaluateChanged before s q = evaluateQueue s q := by
  unfold evaluateChanged
  rw [if_neg h]
  exact (evaluateQueue_same s q).symm

theorem evaluateChanged_breaks (before s : State) (q : Queue) :
    (evaluateChanged before s q).requests.breaks = s.requests.breaks ++ requestsAfter before s q := by
  unfold requestsAfter
  by_cases h : evaluationView before q = evaluationView s q
  · rw [evaluateChanged_unseen before s q h, if_pos h, List.append_nil]
  · rw [evaluateChanged_seen before s q h, if_neg h, evaluateQueue_breaks]

theorem evaluateChanged_hold (before s : State) (p q : Queue) :
    (evaluateChanged before s p).hold q = if p = q then holdAfter before s p else s.hold q := by
  unfold holdAfter
  by_cases h : evaluationView before p = evaluationView s p
  · rw [evaluateChanged_unseen before s p h, if_pos h]
    split
    · rename_i e; rw [e]
    · rfl
  · rw [evaluateChanged_seen before s p h, if_neg h, evaluateQueue_hold]

/-- What the evaluation of both queues does, said once. -/
theorem evaluateAfter_eq (before s : State) :
    evaluateAfter before s = { s with
      adm := { s.adm with newHold := holdAfter before s .new, restartHold := holdAfter before s .restart }
      requests := { s.requests with breaks :=
        s.requests.breaks ++ (requestsAfter before s .new ++ requestsAfter before s .restart) } } := by
  have hn := evaluateChanged_same before s .new
  have hr := evaluateChanged_same before (evaluateChanged before s .new) .restart
  have n1 : (evaluateChanged before s .new).adm.newHold = holdAfter before s .new :=
    evaluateChanged_hold before s .new .new
  have n2 : (evaluateChanged before s .new).adm.restartHold = s.adm.restartHold :=
    evaluateChanged_hold before s .new .restart
  have r1 : (evaluateChanged before (evaluateChanged before s .new) .restart).adm.newHold =
      (evaluateChanged before s .new).adm.newHold :=
    evaluateChanged_hold before _ .restart .new
  have r2 : (evaluateChanged before (evaluateChanged before s .new) .restart).adm.restartHold =
      holdAfter before (evaluateChanged before s .new) .restart :=
    evaluateChanged_hold before _ .restart .restart
  have b1 := evaluateChanged_breaks before s .new
  have b2 := evaluateChanged_breaks before (evaluateChanged before s .new) .restart
  have hv : evaluationView (evaluateChanged before s .new) .restart = evaluationView s .restart := by rw [hn]; rfl
  have he : evaluate (evaluateChanged before s .new) .restart = evaluate s .restart := by rw [hn]; rfl
  have ho : overflowRequests (evaluateChanged before s .new) .restart = overflowRequests s .restart := by rw [hn]; rfl
  have hh : holdAfter before (evaluateChanged before s .new) .restart = holdAfter before s .restart := by
    unfold holdAfter
    rw [hv, he]
    have : (evaluateChanged before s .new).hold .restart = s.hold .restart := n2
    rw [this]
  have hq : requestsAfter before (evaluateChanged before s .new) .restart = requestsAfter before s .restart := by
    unfold requestsAfter
    rw [hv, ho]
  unfold evaluateAfter
  rw [hr, r1, r2, b2, n1, hh, hq, b1, hn, List.append_assoc]

/-- With no suspect claim waiting before the step, none is taken. -/
theorem takeSuspects_none (before s : State) (h : before.adm.suspects = []) : takeSuspects before s = s := by
  simp [takeSuspects, h]

theorem takeSuspects_same (before s : State) :
    takeSuspects before s = { s with
      adm := { s.adm with
        conditions := (takeSuspects before s).adm.conditions
        suspects := s.adm.suspects.drop before.adm.suspects.length }
      cpt := { s.cpt with
        notices := (takeSuspects before s).cpt.notices
        noticeLost := (takeSuspects before s).cpt.noticeLost } } := by
  unfold takeSuspects
  dsimp only
  rw [takeSuspects_fold]

theorem condition_takeSuspect (s : State) (y z : Tray) :
    (takeSuspect s y).condition z = if s.condition z = .ok ∧ y = z then .suspect else s.condition z := by
  unfold takeSuspect
  split
  · rename_i h
    have : ((s.setCondition y .suspect).notify (.tray y .suspect)).condition z = (s.setCondition y .suspect).condition z := by
      unfold State.condition
      rw [State.notify_adm]
    rw [this, State.condition_setCondition]
    by_cases e : y = z
    · subst e; simp [h]
    · simp [e]
  · rename_i h
    rw [if_neg]
    rintro ⟨h1, rfl⟩
    exact h h1

theorem condition_takeSuspect_fold (l : List Tray) (s : State) (z : Tray) :
    (l.foldl takeSuspect s).condition z = if s.condition z = .ok ∧ z ∈ l then .suspect else s.condition z := by
  induction l generalizing s with
  | nil => simp
  | cons a l ih =>
    rw [List.foldl_cons, ih, condition_takeSuspect]
    by_cases ho : s.condition z = .ok
    · by_cases ha : a = z
      · subst ha; simp [ho]
      · have hz : ¬z = a := fun h => ha h.symm
        simp only [ho, ha, hz, List.mem_cons, true_and, and_false, false_or, if_false]
    · simp [ho]

theorem condition_takeSuspects (before s : State) (z : Tray) :
    (takeSuspects before s).condition z =
      if s.condition z = .ok ∧ z ∈ s.adm.suspects.take before.adm.suspects.length then .suspect else s.condition z :=
  condition_takeSuspect_fold _ _ z

theorem notices_takeSuspect (s : State) (y : Tray) :
    ∃ l, (takeSuspect s y).cpt.notices = s.cpt.notices ++ l ∧ ∀ n ∈ l, ∃ y, n = .tray y .suspect := by
  unfold takeSuspect State.notify
  split
  · dsimp only
    split
    · exact ⟨[.tray y .suspect], rfl, by simp⟩
    · exact ⟨[], by simp [State.setCondition], by simp⟩
  · exact ⟨[], by simp, by simp⟩

theorem notices_takeSuspect_fold (l : List Tray) (s : State) :
    ∃ k, (l.foldl takeSuspect s).cpt.notices = s.cpt.notices ++ k ∧ ∀ n ∈ k, ∃ y, n = .tray y .suspect := by
  induction l generalizing s with
  | nil => exact ⟨[], by simp, by simp⟩
  | cons a l ih =>
    obtain ⟨k, h, hk⟩ := ih (takeSuspect s a)
    obtain ⟨j, g, hj⟩ := notices_takeSuspect s a
    refine ⟨j ++ k, by rw [List.foldl_cons, h, g, List.append_assoc], ?_⟩
    intro n hn
    rcases List.mem_append.mp hn with hn | hn
    · exact hj n hn
    · exact hk n hn

/-- The suspect claims taken at the end of a step send TRAY notices, behind those of the command. -/
theorem notices_takeSuspects (before s : State) :
    ∃ k, (takeSuspects before s).cpt.notices = s.cpt.notices ++ k ∧ ∀ n ∈ k, ∃ y, n = .tray y .suspect :=
  notices_takeSuspect_fold _ _

/-- What the end of a step can do, said once. -/
theorem finish_spec (before u : State) : ∃ t, finish before u = .next t ∧ AfterStep before u t := by
  refine ⟨_, rfl, ?_⟩
  unfold AfterStep
  generalize takeRetirements before u = u
  by_cases hs : before.adm.suspects = []
  · rw [if_pos hs, evaluateAfter_eq]
    refine ⟨?_, ?_, ?_, ?_, ⟨[], by simp⟩, ?_⟩
    · simp [hs]
    · intro q
      rw [if_pos (by cases q <;> rfl)]
      cases q <;> rfl
    · have hn : evaluationView u .new = evaluationView { u with
          adm := { u.adm with newHold := holdAfter before u .new, restartHold := holdAfter before u .restart }
          requests := { u.requests with breaks :=
            u.requests.breaks ++ (requestsAfter before u .new ++ requestsAfter before u .restart) } } .new := rfl
      have hr : evaluationView u .restart = evaluationView { u with
          adm := { u.adm with newHold := holdAfter before u .new, restartHold := holdAfter before u .restart }
          requests := { u.requests with breaks :=
            u.requests.breaks ++ (requestsAfter before u .new ++ requestsAfter before u .restart) } } .restart := rfl
      rw [show requestsAfter u _ .new = [] from if_pos hn, show requestsAfter u _ .restart = [] from if_pos hr]
      simp
    · intro y
      simp [hs, State.condition]
    · intro _
      exact ⟨rfl, rfl, rfl⟩
  · rw [if_neg hs]
    generalize hw : evaluateAfter before u = w
    rw [evaluateAfter_eq before u] at hw
    have hv := takeSuspects_same before w
    have hc := condition_takeSuspects before w
    have hk := notices_takeSuspects before w
    generalize takeSuspects before w = v at hv hc hk
    rw [evaluateAfter_eq]
    generalize ht : ({ v with
      adm := { v.adm with newHold := holdAfter w v .new, restartHold := holdAfter w v .restart }
      requests := { v.requests with breaks :=
        v.requests.breaks ++ (requestsAfter w v .new ++ requestsAfter w v .restart) } } : State) = t
    have vw : ∀ q, evaluationView w q = evaluationView u q := by intro q; rw [← hw]; cases q <;> rfl
    have vt : ∀ q, evaluationView t q = evaluationView v q := by intro q; rw [← ht]; cases q <;> rfl
    have et : ∀ q, evaluate t q = evaluate v q := by intro q; rw [← ht]; cases q <;> rfl
    have ot : ∀ q, overflowRequests t q = overflowRequests v q := by intro q; rw [← ht]; cases q <;> rfl
    have hv' : ∀ q, v.hold q = holdAfter before u q := by
      intro q; rw [hv, ← hw]; cases q <;> rfl
    refine ⟨?_, ?_, ?_, ?_, by rw [← ht]; rw [← hw] at hk; exact hk, fun h => absurd h hs⟩
    · rw [← ht, hv, ← hw]
    · intro q
      have : t.hold q = holdAfter w v q := by rw [← ht]; cases q <;> rfl
      rw [this, vt, et]
      unfold holdAfter
      rw [vw, hv']
      rfl
    · have r : ∀ q, requestsAfter u t q = requestsAfter w v q := by
        intro q; unfold requestsAfter; rw [vt, vw, ot]
      rw [r, r]
      have : v.requests.breaks = u.requests.breaks ++ (requestsAfter before u .new ++ requestsAfter before u .restart) := by
        rw [hv, ← hw]
      rw [← this, ← ht]
    · intro y
      have h1 : t.condition y = v.condition y := by rw [← ht]; rfl
      have h2 : w.condition y = u.condition y := by rw [← hw]; rfl
      have h3 : w.adm.suspects = u.adm.suspects := by rw [← hw]
      rw [h1, hc, h2, h3]

/-- A command answers a next state that is its effect after the evaluation. -/
theorem runs_of_finish {c : Instr} {s u : State} (h : exec c s = finish s u) : Runs c s u := by
  obtain ⟨t, e, a⟩ := finish_spec s u
  exact ⟨t, h.trans e, a⟩

/-- A write to GO with the right number of words is handed to the owner and answered (R183, R184). -/
theorem command_taken {s : State} {ws : List Word} {n : Nat} (take : List Word → State → State × Answer)
    (h : PortHolds s ws) (hn : ws.length = n) : s.command n take = (take ws s).1.answer (take ws s).2 := by
  obtain ⟨hb, ho, hw⟩ := h
  simp [State.command, hb, ho, hw, hn]

/-- A write to GO with another number of words is answered BAD_ARGUMENT (R183). -/
theorem command_count {s : State} {ws : List Word} {n : Nat} (take : List Word → State → State × Answer)
    (h : PortHolds s ws) (hn : ws.length ≠ n) : s.command n take = s.answer (.badArgument, []) := by
  obtain ⟨hb, ho, hw⟩ := h
  simp [State.command, hb, hw, hn]

/-- An answered command of the index. -/
theorem answers_of_take {c : Instr} {s u : State} {ws : List Word} {n : Nat} {code : ResultCode}
    {values : List Word} (take : List Word → State → State × Answer) (hc : exec c s = finish s (s.command n take))
    (h : PortHolds s ws) (hn : ws.length = n) (ht : take ws s = (u, (code, values))) : Answers c s u code values := by
  apply runs_of_finish
  rw [hc, command_taken take h hn, ht]

/-- A command of the index with the right number of words, as its step. -/
theorem exec_of_take {c : Instr} {s : State} {ws : List Word} {n : Nat} (take : List Word → State → State × Answer)
    (hc : exec c s = finish s (s.command n take)) (h : PortHolds s ws) (hn : ws.length = n) :
    exec c s = finish s ((take ws s).1.answer (take ws s).2) := by
  rw [hc, command_taken take h hn]

/-- The next state of a step, and what it is. -/
theorem next_of_finish {c : Instr} {s u : State} (h : exec c s = finish s u) :
    ∃ t, exec c s = .next t ∧ AfterStep s u t := runs_of_finish h

/-- What the evaluation leaves. -/
theorem Evaluated.frame {s u t : State} (a : Evaluated s u t) :
    t.pending = u.pending ∧ t.stu = u.stu ∧ t.sheets = u.sheets ∧ t.tsq = u.tsq ∧ t.ptk = u.ptk ∧ t.gsc = u.gsc ∧
    t.bnm = u.bnm ∧ t.jam = u.jam ∧ t.tsv = u.tsv ∧ t.profile = u.profile ∧ t.lines = u.lines := by
  rw [a.same]; exact ⟨rfl, rfl, rfl, rfl, rfl, rfl, rfl, rfl, rfl, rfl, rfl⟩

/-- What the end of a step leaves, whatever retirement claims it takes: all but the retired records and what hangs on
them, the run-out count and the delivered list. -/
theorem AfterStep.frame {s u t : State} (a : AfterStep s u t) :
    t.pending = u.pending ∧ t.stu = u.stu ∧ t.tsq = u.tsq ∧ t.ptk.lists = u.ptk.lists ∧
    t.ptk.snapshot = u.ptk.snapshot ∧ t.gsc = u.gsc ∧ t.bnm = u.bnm ∧ t.tsv = u.tsv ∧ t.profile = u.profile ∧
    t.lines = u.lines := by
  have h := Evaluated.frame a
  have k := takeRetirements_frame s u
  simp only [h, k, and_self]

/-- With no retirement claim waiting, the end of a step is the evaluation. -/
theorem AfterStep.evaluated {s u t : State} (h : s.requests.retires = []) (a : AfterStep s u t) : Evaluated s u t := by
  unfold AfterStep at a
  rwa [takeRetirements_none h] at a

/-- What the end of a step leaves of the ADM. -/
theorem AfterStep.adm_frame {s u t : State} (a : AfterStep s u t) :
    t.adm.newQueue = u.adm.newQueue ∧ t.adm.restartQueue = u.adm.restartQueue ∧ t.adm.pick = u.adm.pick ∧
    t.adm.previous = u.adm.previous ∧ t.adm.starvation = u.adm.starvation ∧ t.adm.pickLines = u.adm.pickLines ∧
    t.adm.releaseLine = u.adm.releaseLine ∧ t.adm.suspects = u.adm.suspects.drop s.adm.suspects.length := by
  have k := (takeRetirements_frame s u).2.2.1
  rw [a.same, ← k]; exact ⟨rfl, rfl, rfl, rfl, rfl, rfl, rfl, rfl⟩

/-- What the end of a step leaves of the port. -/
theorem AfterStep.port_frame {s u t : State} (a : AfterStep s u t) :
    t.cpt.result = u.cpt.result ∧ t.cpt.cursor = u.cpt.cursor ∧ t.cpt.buffer = u.cpt.buffer ∧
    t.cpt.overrun = u.cpt.overrun ∧ t.cpt.busy = u.cpt.busy ∧ t.cpt.noticeBuffer = u.cpt.noticeBuffer ∧
    t.cpt.callBuffer = u.cpt.callBuffer ∧ t.cpt.select = u.cpt.select ∧ t.cpt.readData = u.cpt.readData := by
  have k : (takeRetirements s u).cpt = u.cpt := by simp
  rw [a.same, ← k]; exact ⟨rfl, rfl, rfl, rfl, rfl, rfl, rfl, rfl, rfl⟩

/-- What the evaluation leaves of the waiting requests: all but the break requests. -/
theorem Evaluated.requests_frame {s u t : State} (a : Evaluated s u t) :
    t.requests.faults = u.requests.faults ∧ t.requests.condemns = u.requests.condemns ∧
    t.requests.reroutes = u.requests.reroutes ∧ t.requests.flushes = u.requests.flushes ∧
    t.requests.bins = u.requests.bins ∧ t.requests.retires = u.requests.retires := by
  rw [a.same]; exact ⟨rfl, rfl, rfl, rfl, rfl, rfl⟩

end Sys2Proof.Machine
end

