-- ==== Sys2Proof/Laws/Tracking.lean ====
section
/-! SUPPORT. What an accepted edge does, said once: the step of a lead, of a trail and of an expiry in terms of the
operations of the Path Tracker, and what is read after them. -/

namespace Sys2Proof.Machine

set_option Elab.async false

/-! ## The level -/

theorem setLevel_eq (s : State) (x : Sensor) (level : Bool) :
    setLevel s x level = { s with ptk := { s.ptk with
      debounced := s.ptk.debounced.set x.idx level, debounce := s.ptk.debounce.set x.idx none } } := rfl

@[simp] theorem setLevel_ptk (s : State) (x : Sensor) (level : Bool) :
    (setLevel s x level).ptk.lists = s.ptk.lists ∧ (setLevel s x level).ptk.release = s.ptk.release ∧
    (setLevel s x level).ptk.park = s.ptk.park ∧ (setLevel s x level).ptk.burst = s.ptk.burst ∧
    (setLevel s x level).ptk.frozen = s.ptk.frozen ∧ (setLevel s x level).ptk.zeroOffset = s.ptk.zeroOffset ∧
    (setLevel s x level).ptk.verdicts = s.ptk.verdicts ∧ (setLevel s x level).ptk.snapshot = s.ptk.snapshot :=
  ⟨rfl, rfl, rfl, rfl, rfl, rfl, rfl, rfl⟩

theorem covered_setLevel (s : State) (x y : Sensor) (level : Bool) :
    (setLevel s x level).covered y = if x = y then level else s.covered y := by
  simp [State.covered, setLevel, Vector.getElem_set, State.sensor_idx]

/-! ## The step of an edge -/

/-- An accepted edge while the PTK takes arrivals is a lead or a trail (R89). -/
theorem exec_edge {s : State} {x : Sensor} {c : Count} {level : Bool} (h : EdgeAccepted s x c level)
    (later : Bool) :
    exec (.debounceComplete ⟨x, later⟩) s =
      finish s (if level then lead (setLevel s x level) x c else trail (setLevel s x level) x c later) := by
  obtain ⟨h1, h2, h3, h4⟩ := h
  have ht : (setLevel s x level).tracking = true ∨ (setLevel s x level).tsv.state = .runout := h3
  simp only [exec, execDebounceComplete, completeDebounce, h1, h2, acceptEdge, h4, if_pos ht, or_true, if_true]

/-- While every record is tracked, every entry of a list is watched (R89). -/
theorem watched_of_tracking {s : State} (h : s.tracking = true) (x : Sensor) : s.watched x = s.list x := by
  simp [State.watched, State.tracks, h]

/-- In RUNOUT the PTK does not track every record (R89). -/
theorem tracking_of_runout {s : State} (h : s.tsv.state = .runout) : s.tracking = false := by
  simp [State.tracking, State.drivesRun, h]

/-- With no window of its list closed before it, a lead is judged at once (R93). -/
theorem expireOverdue_none {s : State} {x : Sensor} {c : Count}
    (hl : ∀ f ∈ s.watched x, isLater c f.closes = false) : expireOverdue s x c = s := by
  have : ((s.watched x).filter fun e => isLater c e.closes) = [] := by
    rw [List.filter_eq_nil_iff]
    intro f hf
    simp [hl f hf]
  simp [expireOverdue, this]

/-- The step of an accepted lead (R94). -/
theorem exec_lead {s : State} {x : Sensor} {c : Count} {e : Expectation} {rest : List Expectation}
    (h : LeadTaken s x c e rest) (later : Bool) :
    exec (.debounceComplete ⟨x, later⟩) s = finish s (acceptLead (setLevel s x true) x e c) := by
  obtain ⟨he, hl, ht, hn, hp⟩ := h
  have hw : (setLevel s x true).watched x = e :: rest := hl
  have hover : expireOverdue (setLevel s x true) x c = setLevel s x true :=
    expireOverdue_none (by rw [hw]; exact ht)
  have hpark : ¬(x = .dup2 ∧ (setLevel s x true).parkedTag.isSome = true) := by
    intro hc
    have : (setLevel s x true).parkedTag = none := hp hc.1
    rw [this] at hc
    exact absurd hc.2 (by simp)
  rw [exec_edge he]
  simp [lead, hover, hw, hpark, hn]

/-- A trail that no release window takes first is judged against the first record that awaits it (R96, R108). -/
theorem trail_found {s : State} {x : Sensor} {c : Count} {tag : Tag}
    (hr : s.tracking = true → x = .dup2 → s.ptk.release = none)
    (hf : s.firstTag (takesTrail s x) = some tag) (later : Bool) :
    trail s x c later = judgeTrail s tag x c later := by
  unfold trail
  by_cases ht : s.tracking = true
  · have he : (takesTrail s x) = fun q => q.awaitsTrail x := by
      funext q; simp [takesTrail, ht]
    rw [he] at hf
    have hm : matchTrail s x c later = judgeTrail s tag x c later := by simp [matchTrail, hf]
    rw [if_pos ht]
    split
    · rename_i w hw; rw [hr ht rfl] at hw; exact absurd hw (by simp)
    · exact hm
  · have he : (takesTrail s x) = fun q => q.runOut && q.awaitsTrail x := by
      funext q; simp [takesTrail, ht]
    rw [he] at hf
    rw [if_neg ht, hf]

/-- The step of an accepted trail of a record (R96, case 2). -/
theorem exec_trail {s : State} {x : Sensor} {c : Count} {tag : Tag} {r : Sheet} {w : TrailPending}
    (h : TrailTaken s x c tag r w) (later : Bool) :
    exec (.debounceComplete ⟨x, later⟩) s = finish s (acceptTrail (setLevel s x false) tag r.owner x later) := by
  obtain ⟨he, hr, hf, hs, hw, ho, hc⟩ := h
  have hs' : (setLevel s x false).sheet tag = some r := hs
  have ht : trail (setLevel s x false) x c later = judgeTrail (setLevel s x false) tag x c later :=
    trail_found (s := setLevel s x false) hr hf later
  rw [exec_edge he]
  simp [ht, judgeTrail, hs', hw, ho, hc]

/-! ## Claims -/

/-- What a claim on one record can do: the record of its tag, where the pair is the one the claim names, becomes what the
claim makes of it; every other record stays (R22, R39). -/
theorem sheet_claim (s : State) (t u : Tag) (o : Owner) (f : Sheet → Option Sheet) :
    (s.claim t o f).sheet u = if t = u then
        (s.sheet t).map fun r => if r.owner = o then (f r).getD r else r
      else s.sheet u := by
  unfold State.claim State.claimed
  by_cases h : t = u
  · subst h
    rw [if_pos rfl]
    cases hs : s.sheet t with
    | none => simp [hs]
    | some r =>
      by_cases ho : r.owner = o
      · simp only [Option.filter_some, ho, decide_true, if_true, Option.bind_some, Option.map_some]
        cases hf : f r with
        | none => exact hs
        | some q => rw [State.sheet_setSheet, if_pos rfl]; rfl
      · simp only [Option.filter_some, ho, decide_false, Bool.false_eq_true, if_false, Option.bind_none, Option.map_some]
        exact hs
  · rw [if_neg h]
    split
    · rfl
    · rw [State.sheet_setSheet, if_neg h]

/-! ## Reading after an accepted lead -/

theorem list_dropEntry (s : State) (x y : Sensor) (e : Expectation) :
    (dropEntry s x e).list y = if x = y then (s.list x).erase e else s.list y := State.list_setList ..

theorem sheet_claimLead (s : State) (t u : Tag) (o : Owner) (x : Sensor) (c : Count) :
    (claimLead s t o x c).sheet u = if t = u then
        (s.sheet t).map fun r => if r.owner = o then (match leadState x r with
          | none => r
          | some st => { r with
              state := st
              lastSensor := some x
              lastLead := some c
              trail := if r.trail.isSome then r.trail else some (trailWindow s r x c) }) else r
      else s.sheet u := by
  unfold claimLead
  rw [sheet_claim]
  congr 1
  congr 1
  funext r
  by_cases ho : r.owner = o
  · cases hl : leadState x r <;> simp [ho]
  · simp [ho]

theorem list_expect (s : State) (x y : Sensor) (e : Expectation) :
    (expect s x e).list y =
      if x = y ∧ (s.list x).length < 4 then insertByOpen e (s.list x) else s.list y := by
  unfold expect
  split
  · rename_i h; rw [State.list_setList]; simp [h]
  · rename_i h; rw [if_neg fun hc => h hc.2]; rfl

theorem faults_expect (s : State) (x : Sensor) (e : Expectation) :
    (expect s x e).requests.faults = s.requests.faults ++
      if (s.list x).length < 4 then [] else [{ cause := .trackFull, sensor := x, tag := some e.tag }] := by
  unfold expect
  split <;> simp [State.handFault]

/-- The next entry of a route is not at the sensor of the lead (R91). -/
theorem nextHop_ne {r : Sheet} {x y : Sensor} {l : Leg} (h : nextHop r x = some (y, l)) : y ≠ x := by
  rintro rfl
  revert h
  cases y <;> simp [nextHop] <;> (try split) <;> (try cases r.target) <;> simp [entryOf]

/-- The requests joined to a gate's list (R113, R116). -/
theorem gate_addRequest (s : State) (g h : Gate) (q : GateRequest) :
    (addRequest s g q).gate h = if g = h ∧ (s.gate g).waiting.length < 2 then
      { s.gate g with waiting := insertRequest q (s.gate g).waiting } else s.gate h := by
  unfold addRequest
  dsimp only
  split
  · rename_i hl; rw [State.gate_setGate]; simp [hl]
  · rename_i hl; rw [if_neg fun hc => hl hc.2]; rfl

theorem faults_addRequest (s : State) (g : Gate) (q : GateRequest) :
    (addRequest s g q).requests.faults = s.requests.faults ++
      if (s.gate g).waiting.length < 2 then [] else
        [{ cause := .gateConflict, sensor := leadSensor g, tag := some q.tag }] := by
  unfold addRequest
  dsimp only
  split <;> simp [State.handFault]

end Sys2Proof.Machine
end

