-- ==== Sys2Proof/Laws/Effects.lean ====
section
/-! SUPPORT. What each shared operation writes, read through the accessors of State. What an operation leaves stands in the
files of frames. -/

namespace Sys2Proof.Machine

set_option Elab.async false

/-! ## Sheets -/

theorem sheet_of_eq {s t : State} (h : t.sheets = s.sheets) (u : Tag) : t.sheet u = s.sheet u := by
  simp [State.sheet, h]

theorem statement_of_eq {s t : State} (h : t.stu = s.stu) (slot : Slot) : t.statement slot = s.statement slot := by
  simp [State.statement, h]

theorem bin_of_eq {s t : State} (h : t.bnm = s.bnm) (b : Bin) : t.bin b = s.bin b := by
  simp [State.bin, h]

theorem gate_of_eq {s t : State} (h : t.gsc = s.gsc) (g : Gate) : t.gate g = s.gate g := by
  simp [State.gate, h]

theorem list_of_eq {s t : State} (h : t.ptk.lists = s.ptk.lists) (x : Sensor) : t.list x = s.list x := by
  simp [State.list, h]

theorem sheet_retire (s : State) (t u : Tag) : (retire s t).sheet u = if t = u then none else s.sheet u :=
  State.sheet_setSheet s t u none

theorem sheet_claimTrail (s : State) (t u : Tag) (o : Owner) (x : Sensor) :
    (claimTrail s t o x).sheet u = if t = u then
        (s.sheet t).map fun r => if r.owner = o ∧ r.moving then { r with trail := trailAfter s r x } else r
      else s.sheet u := by
  unfold claimTrail
  rw [sheet_claim]
  congr 1
  congr 1
  funext r
  by_cases ho : r.owner = o <;> by_cases hm : r.moving <;> simp [ho, hm]

theorem sheet_claimSide (s : State) (t u : Tag) (slot : Slot) (generation : Nat) (side : Side) (v : SideState) :
    (claimSide s t slot generation side v).sheet u = if t = u then
        (s.sheet t).map fun r => if r.owner = { slot, generation } then
          (match side with
            | .front => { r with front := v }
            | .back => { r with back := some v }) else r
      else s.sheet u := by
  unfold claimSide
  rw [sheet_claim]
  cases side <;> rfl

theorem sheet_claimCommit (s : State) (t u : Tag) (o : Owner) :
    (claimCommit s t o).sheet u = if t = u then
        (s.sheet t).map fun r => if r.owner = o ∧ (r.state = .output ∨ r.state = .stranded) then
          { r with divert := true } else r
      else s.sheet u := by
  unfold claimCommit
  rw [sheet_claim]
  congr 1
  congr 1
  funext r
  by_cases ho : r.owner = o <;> by_cases hm : r.state = .output ∨ r.state = .stranded <;> simp [ho, hm]

theorem sheet_claimGauge (s : State) (t u : Tag) (o : Owner) (g : GaugeResult) :
    (claimGauge s t o g).sheet u = if t = u then
        (s.sheet t).map fun r => if r.owner = o ∧ r.state = .main then { r with gauge := some g } else r
      else s.sheet u := by
  unfold claimGauge
  rw [sheet_claim]
  congr 1
  congr 1
  funext r
  by_cases ho : r.owner = o <;> by_cases hm : r.state = .main <;> simp [ho, hm]

theorem sheet_takeCondemn (s : State) (c : CondemnClaim) (u : Tag) :
    (takeCondemn s c).sheet u = (s.sheet u).map fun r =>
      if r.slot = c.slot ∧ r.generation = c.generation ∧ (c.tag = none ∨ c.tag = some u) then r.condemn c.cause
      else r := by
  unfold takeCondemn
  cases hc : c.tag with
  | none => rw [State.sheet_mapSheets]; simp
  | some t =>
    dsimp only
    rw [sheet_claim]
    by_cases h : t = u
    · subst h
      simp [Sheet.owner]
    · simp [h]

/-- A retirement takes a record, the burst and the claims on its tag, nothing else (R23, R32). -/
theorem retire_eq (s : State) (t : Tag) :
    retire s t = { s with
      sheets := s.sheets.set t none
      ptk := { s.ptk with burst := s.ptk.burst.filter fun b => b.tag != t }
      requests := { s.requests with condemns := s.requests.condemns.filter fun c => c.tag != some t } } := rfl

/-! ## Bins -/

theorem bin_reserve (s : State) (b c : Bin) :
    (reserve s b).bin c = if b = c then { s.bin b with reserved := (s.bin b).reserved + 1 } else s.bin c :=
  State.bin_setBin ..

theorem bin_release (s : State) (b c : Bin) :
    (release s b).bin c = if b = c then { s.bin b with reserved := (s.bin b).reserved - 1 } else s.bin c :=
  State.bin_setBin ..

theorem bin_countIn (s : State) (b c : Bin) :
    (countIn s b).bin c = if b = c then
      { s.bin b with fill := (s.bin b).fill + 1, reserved := (s.bin b).reserved - 1 } else s.bin c :=
  State.bin_setBin ..

theorem bin_moveJog (s : State) (b c : Bin) (o : Owner) :
    (moveJog s b o).bin c = if b = c then
      { s.bin b with
        jogRight := if (s.bin b).last = some o then (s.bin b).jogRight else !(s.bin b).jogRight
        last := some o } else s.bin c :=
  State.bin_setBin ..

theorem bin_removeStacked (s : State) (b c : Bin) (slot : Slot) (generation : Nat) :
    (removeStacked s b slot generation).bin c = if b = c then
      { s.bin b with stacking := (s.bin b).stacking.filter fun o => o != { slot, generation } } else s.bin c :=
  State.bin_setBin ..

theorem bin_evaluateFence (s : State) (b c : Bin) :
    (evaluateFence s b).bin c =
      if b = c ∧ (s.bin b).state = .ready ∧ (s.bin b).spoil ≠ [] ∧ 4 ≤ fenceCount s b then
        { s.bin b with state := .fenced } else s.bin c := by
  unfold evaluateFence
  split
  · rename_i h
    rw [bin_of_eq (State.notify_bnm ..), State.bin_setBin]
    by_cases hb : b = c <;> simp [hb]
    subst hb
    exact fun h' => absurd (h' h.1 h.2.1) (Nat.not_lt.mpr h.2.2)
  · rename_i h
    rw [if_neg fun hc => h hc.2]

theorem bin_fillUp (s : State) (b c : Bin) :
    (fillUp s b).bin c =
      if b = c ∧ (s.bin b).fill = s.capacity b ∧ ((s.bin b).state = .ready ∨ (s.bin b).state = .fenced) then
        { s.bin b with state := .full } else s.bin c := by
  unfold fillUp
  dsimp only
  split
  · rename_i h
    rw [bin_of_eq (State.notify_bnm ..), State.bin_setBin]
    by_cases hb : b = c <;> simp [hb]
    subst hb
    intro h'
    exact absurd h.2 (by simp [h' h.1])
  · rename_i h
    rw [if_neg fun hc => h hc.2]

theorem bin_setRole (s : State) (b c : Bin) (role : BinRole) :
    (setRole s b role).bin c = if b = c then
      { s.bin b with
        role := role
        state := if role = .off then .off
          else if (s.bin b).role = .off then (if s.lines.doors[b.idx] then .doorOpen else .check)
          else (s.bin b).state } else s.bin c :=
  State.bin_setBin ..

/-! ## Gates -/

theorem gate_dropRequest (s : State) (g h : Gate) (q : GateRequest) :
    (dropRequest s g q).gate h =
      if g = h then { s.gate g with waiting := (s.gate g).waiting.erase q } else s.gate h :=
  State.gate_setGate ..

theorem lines_policyG (s : State) :
    (policyG s).gsc.records = s.gsc.records ∧ (policyG s).gsc.frozen = s.gsc.frozen ∧
    (policyG s).gsc.lines = if s.restPolicy then
      (((s.gsc.lines.set 1 false).set 2 false).set 3 false).set 4 false else s.gsc.lines := by
  unfold policyG
  split <;> exact ⟨rfl, rfl, rfl⟩

theorem lines_policyD (s : State) :
    (policyD s).gsc.records = s.gsc.records ∧ (policyD s).gsc.frozen = s.gsc.frozen ∧
    (policyD s).gsc.lines = if s.restPolicy then s.gsc.lines.set 0 false else s.gsc.lines := by
  unfold policyD
  split <;> exact ⟨rfl, rfl, rfl⟩

/-! ## Transport and jams -/

theorem tsv_enter (s : State) (st : TransportState) (cause : TransportCause) (reason : StartReason) :
    (enter s st cause reason).tsv = { s.tsv with state := st, cause := some cause } := by
  simp [enter]

theorem tsv_withdrawBoth (s : State) :
    (withdrawBoth s).tsv = { s.tsv with
      mainRun := false, outputRun := false, span := none, silenceWatch := false } := by
  simp [withdrawBoth]

theorem tsv_endStart (s : State) (cause : TransportCause) (reason : StartReason) :
    (endStart s cause reason).tsv = { s.tsv with
      state := .stopped
      cause := some cause
      mainRun := false
      outputRun := false
      startCount := none
      span := none
      silenceWatch := false } := by
  unfold endStart
  dsimp only
  rw [tsv_enter]
  dsimp only
  rw [tsv_withdrawBoth]

theorem tsv_endRunOut (s : State) :
    (endRunOut s).tsv = { s.tsv with
      state := .jammed
      cause := some .runoutComplete
      mainRun := false
      outputRun := false
      span := none
      silenceWatch := false } := by
  have h : (endRunOut s).tsv = (enter (withdrawBoth s) .jammed .runoutComplete .none_).tsv := by simp [endRunOut]
  rw [h, tsv_enter, tsv_withdrawBoth]

theorem tsv_stopMain (s : State) :
    (stopMain s).tsv = { s.tsv with mainRun := false, startCount := none } := by
  simp [stopMain]

theorem tsv_stopOutput (s : State) :
    (stopOutput s).tsv = { s.tsv with
      state := .jammed
      cause := some .jam
      mainRun := false
      outputRun := false
      span := none
      silenceWatch := false } := by
  have h : (stopOutput s).tsv = (enter (strandAll (withdrawBoth s)) .jammed .jam .none_).tsv := by simp [stopOutput]
  have h2 : (strandAll (withdrawBoth s)).tsv = (withdrawBoth s).tsv := by simp
  rw [h, tsv_enter, h2, tsv_withdrawBoth]

/-- The latch of a request, locked or not (R109). -/
theorem snapshot_latch (s : State) (cause : JamCause) (sensor : Sensor) (tag : Option Tag) (second : Bool) :
    (latch s cause sensor tag second).ptk = { s.ptk with snapshot :=
      if s.ptk.snapshot.locked then { s.ptk.snapshot with second := true } else
        { levels := s.ptk.debounced
          count := s.now
          cause := some cause
          sensor := sensor
          tag := tag
          second := second
          locked := true } } := by
  unfold latch
  split <;> rfl

/-! ## Statements -/

/-- The closing request sends a request of the BNM at most (R10). -/
theorem closeIfClear_bins (s : State) (slot : Slot) :
    (closeIfClear s slot).requests.bins = s.requests.bins ∨
    ∃ b r, s.statement slot = some r ∧ r.bin = some b ∧ r.state.ended = true ∧ r.inFlight = 0 ∧
      (closeIfClear s slot).requests.bins = s.requests.bins ++ [.closing b slot r.generation r.ident] := by
  unfold closeIfClear
  cases hs : s.statement slot with
  | none => exact .inl rfl
  | some r =>
    dsimp only
    cases hb : r.bin with
    | none => exact .inl rfl
    | some b =>
      dsimp only
      split
      · rename_i h
        exact .inr ⟨b, r, rfl, hb, h.1, h.2, rfl⟩
      · exact .inl rfl

theorem stu_breakNow (s : State) (slot : Slot) (generation : Nat) (cause : BreakCause) (j : Slot) :
    (breakNow s slot generation cause).statement j = if slot = j then
        (s.statement slot).map fun r => if r.generation = generation ∧ r.state.ended = false then
          { r with state := if r.generation < 3 then .broken else .abandoned, cause := some cause } else r
      else s.statement j := by
  unfold breakNow State.ofPair
  cases hs : s.statement slot with
  | none =>
    by_cases h : slot = j
    · subst h; simp [hs]
    · simp [h]
  | some r =>
    dsimp only
    by_cases hg : r.generation = generation
    · rw [if_pos hg]
      dsimp only
      cases he : r.state.ended with
      | true =>
        by_cases h : slot = j
        · subst h; simp [hs, he]
        · simp [h]
      | false =>
        rw [if_neg (by simp)]
        have hst : ∀ u v : State, (closeIfClear (breakRequests u slot r cause) slot).statement j = u.statement j := by
          intro u _
          exact statement_of_eq (by simp) j
        rw [hst _ s, State.statement_setStatement]
        by_cases h : slot = j <;> simp [h, hg, he]
    · rw [if_neg hg]
      by_cases h : slot = j
      · subst h; simp [hs, hg]
      · simp [h]

/-- A second break changes nothing (R12). -/
theorem Statement.broken_idem (generation : Nat) (cause : BreakCause) (r : Statement) :
    (r.broken generation cause).broken generation cause = r.broken generation cause := by
  unfold Statement.broken
  by_cases h : r.generation = generation ∧ r.state.ended = false
  · simp only [h, and_self, if_true]
    split <;> simp [StatementState.ended]
  · simp only [h, if_false]

theorem openingOf_breakNow (s : State) (slot j : Slot) (generation : Nat) (cause : BreakCause) :
    (breakNow s slot generation cause).openingOf j = s.openingOf j := by
  unfold breakNow State.openingOf
  split
  · rfl
  · split
    · rfl
    · simp [State.setStatement]

theorem openingOf_takeBreak (s : State) (q : BreakRequest) (j : Slot) :
    (takeBreak s q).openingOf j = s.openingOf j := by
  unfold takeBreak
  split
  · exact openingOf_breakNow s q.slot j q.generation q.cause
  · rfl

theorem statement_takeBreaks (slot : Slot) (generation : Nat) (cause : BreakCause) (l : List BreakRequest)
    (hl : ∀ q ∈ l, q.names slot generation cause = true) (s : State) (j : Slot) :
    (l.foldl takeBreak s).statement j = if slot = j ∧ (l.any fun q => q.opening.all fun n => n == s.openingOf slot)
      then (s.statement slot).map (Statement.broken generation cause) else s.statement j := by
  induction l generalizing s with
  | nil => simp
  | cons q l ih =>
    have hq := hl q List.mem_cons_self
    have hl' : ∀ p ∈ l, p.names slot generation cause = true := fun p hp => hl p (List.mem_cons_of_mem _ hp)
    simp only [BreakRequest.names, Bool.and_eq_true, decide_eq_true_eq] at hq
    obtain ⟨⟨h1, h2⟩, h3⟩ := hq
    rw [List.foldl_cons, ih hl', openingOf_takeBreak, List.any_cons]
    unfold takeBreak
    rw [h1, h2, h3]
    by_cases ho : (q.opening.all fun n => n == s.openingOf slot) = true
    · rw [if_pos ho, stu_breakNow, stu_breakNow, if_pos rfl]
      by_cases hj : slot = j
      · subst hj
        simp only [ho, Bool.true_or, and_self, if_true, true_and]
        split
        · rw [Option.map_map]
          congr 1
          funext r
          exact Statement.broken_idem generation cause r
        · rfl
      · simp [hj]
    · rw [if_neg ho]
      simp only [Bool.not_eq_true] at ho
      simp [ho]

/-- The break requests of a pair taken ahead of a report break its statement where one of them is not dropped (R2,
R12). -/
theorem statement_takeBreaksOf (s : State) (slot : Slot) (generation : Nat) (cause : BreakCause) (j : Slot) :
    (takeBreaksOf s slot generation cause).statement j =
      if slot = j ∧ breakWaits s slot generation cause then
        (s.statement slot).map (Statement.broken generation cause) else s.statement j := by
  unfold takeBreaksOf
  rw [statement_takeBreaks slot generation cause _ (fun q hq => (List.mem_filter.mp hq).2)]
  have h : ((s.requests.breaks.filter fun q => q.names slot generation cause).any fun q =>
      q.opening.all fun n => n == s.openingOf slot) = breakWaits s slot generation cause := by
    unfold breakWaits
    rw [List.any_filter]
  exact congrArg (fun w : Bool => if slot = j ∧ w = true then
    (s.statement slot).map (Statement.broken generation cause) else s.statement j) h

/-! ### Doors -/

/-- A stacker's door opens alike at a grant and by itself (R138). -/
theorem openDoor_stacker {s : State} {b : Bin} (h : b ≠ .p) : openDoor s b = openStacker s b := by
  simp only [openDoor, openStacker, openWith, afterOpening, if_neg h]

/-- An opening outside a grant decision is the opening of the door. -/
@[simp] theorem meetDoor_plain (s : State) (b : Bin) : meetDoor s ⟨b, false⟩ = openDoor s b := by simp [meetDoor]

/-- An opening within a grant decision that claims the bin is that grant, with the door opening at its claim. -/
theorem meetDoor_claim {s : State} {b : Bin} (h : s.lines.doors[b.idx] = false) (c : grantClaim s = some b) :
    meetDoor s ⟨b, true⟩ = trayGrant true s := by
  simp [meetDoor, h, c]

/-- An opening within no such decision is the opening of the door. -/
theorem meetDoor_alone {s : State} {b : Bin} {m : Bool} (h : grantClaim s ≠ some b) :
    meetDoor s ⟨b, m⟩ = openDoor s b := by
  simp [meetDoor, h]

end Sys2Proof.Machine
end

