-- ==== Sys2Proof/Laws/FrameSettle.lean ====
section
/-! SUPPORT. Which blocks the operations that take waiting requests together leave as they were: the settling of a broken
statement, the opening of a slot; and what the settling does where nothing waits. -/

namespace Sys2Proof.Machine

set_option Elab.async false
set_option linter.unusedSimpArgs false

@[simp] theorem takeBin_frame_all (s : State) (l : List BinRequest) :
    (l.foldl takeBin s).pending = s.pending ∧ (l.foldl takeBin s).stu = s.stu ∧
    (l.foldl takeBin s).sheets = s.sheets ∧ (l.foldl takeBin s).adm = s.adm ∧ (l.foldl takeBin s).tsq = s.tsq ∧
    (l.foldl takeBin s).ptk = s.ptk ∧ (l.foldl takeBin s).gsc = s.gsc ∧ (l.foldl takeBin s).jam = s.jam ∧
    (l.foldl takeBin s).tsv = s.tsv ∧ (l.foldl takeBin s).profile = s.profile ∧
    (l.foldl takeBin s).lines = s.lines ∧ (l.foldl takeBin s).requests = s.requests := by
  simp [foldl_keeps]

@[simp] theorem settleStatement_frame (s : State) (o : Owner) :
    (settleStatement s o).pending = s.pending ∧ (settleStatement s o).stu = s.stu ∧
    (settleStatement s o).tsq = s.tsq ∧ (settleStatement s o).jam = s.jam ∧ (settleStatement s o).tsv = s.tsv ∧
    (settleStatement s o).profile = s.profile ∧ (settleStatement s o).lines = s.lines := by
  unfold settleStatement
  simp [foldl_keeps]

theorem upToClosing_none {o : Owner} {l : List BinRequest} (h : l.any (BinRequest.closes o) = false) :
    upToClosing o l = [] := by
  cases l with
  | nil => rfl
  | cons q l => simp [upToClosing, h]

/-- Where no request of a pair waits, the settling changes nothing. -/
theorem settleStatement_none {s : State} {o : Owner} (hc : ∀ c ∈ s.requests.condemns, c.names o = false)
    (hr : ∀ q ∈ s.requests.reroutes, q.names o = false) (hf : o ∉ s.requests.flushes)
    (hb : s.requests.bins.any (BinRequest.closes o) = false) : settleStatement s o = s := by
  have c1 : (s.requests.condemns.filter fun c => c.names o) = [] := by
    rw [List.filter_eq_nil_iff]; intro c h; simp [hc c h]
  have c2 : (s.requests.condemns.filter fun c => !c.names o) = s.requests.condemns := by
    rw [List.filter_eq_self]; intro c h; simp [hc c h]
  have r1 : (s.requests.reroutes.filter fun q => q.names o) = [] := by
    rw [List.filter_eq_nil_iff]; intro q h; simp [hr q h]
  have r2 : (s.requests.reroutes.filter fun q => !q.names o) = s.requests.reroutes := by
    rw [List.filter_eq_self]; intro q h; simp [hr q h]
  have f1 : (s.requests.flushes.filter fun q => q = o) = [] := by
    rw [List.filter_eq_nil_iff]; intro q h; simp only [decide_eq_true_eq]; rintro rfl; exact hf h
  have f2 : (s.requests.flushes.filter fun q => q ≠ o) = s.requests.flushes := by
    rw [List.filter_eq_self]; intro q h; simp only [ne_eq, decide_eq_true_eq]; rintro rfl; exact hf h
  unfold settleStatement
  simp only [c1, c2, r1, r2, f1, f2, upToClosing_none hb, List.foldl_nil, List.length_nil, List.drop_zero]

end Sys2Proof.Machine
end

