-- ==== Sys2Proof/Laws/Operands.lean ====
section
/-! SUPPORT. The codes of R185 read back. -/

namespace Sys2Proof.Machine

set_option Elab.async false

theorem word_toNat (n : Nat) (h : n < 65536) : (word n).toNat = n := by
  simp [word, BitVec.toNat_ofNat, Nat.mod_eq_of_lt h]

theorem argSlot_code (i : Slot) : argSlot (slotCode i) = some i := by
  have h : (slotCode i).toNat = i.val := word_toNat _ (by omega)
  simp [argSlot, h]

theorem argTag_code (t : Tag) : argTag (tagCode t) = some t := by
  have h : (tagCode t).toNat = t.val := word_toNat _ (by omega)
  simp [argTag, h]

theorem argTray_code (t : Tray) : argTray (trayCode t) = some t := by cases t <;> decide

theorem argSensor_code (x : Sensor) : argSensor (sensorCode x) = some x := by cases x <;> decide

theorem argBin_code (b : Bin) : argBin (binCode b) = some b := by cases b <;> decide

theorem argGate_code (g : Gate) : argGate (word g.idx) = some g := by cases g <;> decide

theorem argLeg_code (l : Leg) : argLeg (word l.idx) = some l := by cases l <;> decide

theorem argLimit_code (l : Limit) : argLimit (word l.idx) = some l := by cases l <;> decide

theorem argPlex_code (p : Plex) : argPlex p.code = some p := by cases p <;> decide

theorem argSide_code (x : Side) : argSide x.code = some x := by cases x <;> decide

theorem argPolarity_code (p : Polarity) : argPolarity p.code = some p := by cases p <;> decide

theorem argBool_code (b : Bool) : argBool (yesNo b) = some b := by cases b <;> decide

theorem argIn_word (n lo hi : Nat) (h1 : lo ≤ n) (h2 : n ≤ hi) (h : hi < 65536) :
    argIn (word n) lo hi = some n := by
  have e : (word n).toNat = n := word_toNat n (by omega)
  simp [argIn, e, h1, h2]

end Sys2Proof.Machine
end

