-- ==== Sys2Proof/Tests/Slice0.lean ====
section
/-! SUPPORT. Tests: the well-formedness checks, and for every statement with hypotheses a state and operands that meet
them, clause by clause, with what the command then does. -/

namespace Sys2Proof.Tests

open Sys2Proof Sys2Proof.Machine

set_option Elab.async false

set_option synthInstance.maxSize 2000

/-! ## Well-formedness -/

theorem test_wellFormed_badCommand : WellFormed (.badCommand 0x1E) = false ∧ WellFormed (.badCommand 0x1F) = true ∧
    WellFormed (.badCommand 0) = true ∧ WellFormed (.badCommand 1) = false := by decide

theorem test_wellFormed_ignoredWrite : WellFormed (.ignoredRegisterWrite 0x10 0) = false ∧
    WellFormed (.ignoredRegisterWrite 0x03 0) = false ∧ WellFormed (.ignoredRegisterWrite 0x00 0) = true := by decide

theorem test_wellFormed_leadWindow : WellFormed (.leadWindowExpiry .f2) = false ∧
    WellFormed (.leadWindowExpiry .reg) = true := by decide

theorem test_wellFormed_pulse : WellFormed (.encoderPulse 0) = false ∧
    WellFormed (.encoderPulse 250000) = true := by decide

/-! ## Small states -/

/-- The state after a command. -/
def after (c : Instr) (s : State) : Option State :=
  match exec c s with
  | .next t => some t
  | .fault _ => none
  | .refused _ => none

/-- A result of a command read from its next state. -/
def shows {α : Type} (c : Instr) (s : State) (f : State → α) : Option α := (after c s).map f

/-- The part after power-on. -/
def s0 : State := State.reset

/-- The argument words `ws` in the buffer. -/
def words (s : State) (ws : List Word) : State := { s with cpt := { s.cpt with buffer := ws } }

/-- The transport in a state, with both run lines as `on`, at path count 10000. -/
def moved (s : State) (st : TransportState) (on : Bool) : State :=
  { s with tsv := { s.tsv with state := st, mainRun := on, outputRun := on, pathCount := 10000 } }

/-- RUNNING with every bin READY. -/
def running : State :=
  { moved s0 .running true with bnm := { s0.bnm with records := s0.bnm.records.map fun r => { r with state := .ready } } }

/-- A statement of three pages, one admitted, bound for B1. -/
def stA : Statement where
  state := .opened
  ident := 7
  account := 9
  plex := .simplex
  binClass := .standard
  declared := some 3
  generation := 0
  nextPage := 3
  queued := 2
  admitted := 1
  delivered := 0
  inFlight := 1
  bin := some .b1
  firstPos := none
  lastPos := none
  cause := none
  lastSeen := false

/-- The statement broken. -/
def stB : Statement := { stA with state := .broken, cause := some .blank }

/-- A sheet of that statement on the main path. -/
def shA : Sheet where
  state := .main
  slot := 0
  generation := 0
  page := 1
  last := false
  plex := .simplex
  tray := .t1
  length := 1118
  target := .b1
  condemned := none
  front := .called
  back := none
  lastSensor := none
  lastLead := none
  trail := none
  attempts := 0
  gauge := none
  divert := false
  runOut := false

/-- Its feed queue entry. -/
def enA : Entry := { slot := 0, generation := 0, page := 1, last := false, tray := .t1, attempts := 0 }

/-- Its front pitch. -/
def piA : Pitch where
  call := 0
  tag := 0
  slot := 0
  generation := 0
  page := 1
  side := .front
  state := .called
  deadline := 20000
  reason := none
  registered := false
  read := false

/-- RUNNING with the statement in slot 0. -/
def runA : State := running.setStatement 0 (some stA)

/-- RUNNING with the statement, and the sheet as record 0. -/
def runS (r : Sheet) : State := runA.setSheet 0 (some r)

/-- A debounce at a sensor, begun 100 counts ago, with the line at `level`. -/
def edge (s : State) (x : Sensor) (level : Bool) : State :=
  { s with
    lines := { s.lines with sensors := s.lines.sensors.set x.idx level }
    ptk := { s.ptk with
      debounced := s.ptk.debounced.set x.idx (!level), debounce := s.ptk.debounce.set x.idx (some 9900) } }

/-- An entry of record 0 around count 9900. -/
def exA : Expectation where
  tag := 0
  owner := { slot := 0, generation := 0 }
  opens := 9840
  closes := 9960
  widened := false

/-- A trail window of record 0 around count 9900. -/
def wiA (x : Sensor) : TrailPending := { sensor := x, opens := 9860, closes := 9940, widened := false, expired := false }

/-! ## The queue and the resets -/

theorem witness_StepTakesTheFrontCommand :
    ({ s0 with pending := [.start, .stop] } : State).pending = .start :: [.stop] ∧ s0.pending = [] := by decide

theorem witness_WarmReset : PortHolds s0 [] ∧ PortHolds (runS shA) [] ∧
    shows .warmReset (runS shA) (fun t => (t.sheet 0, (t.statement 0).map fun r => (r.state, r.inFlight), t.tsv.pathCount))
      = some (none, some (.broken, 0), 10000) := by
  refine ⟨⟨rfl, rfl, rfl⟩, ⟨rfl, rfl, rfl⟩, ?_⟩
  decide +kernel

theorem test_withFetchWord : s0.withFetchWord 16 0x12 = s0 := rfl

/-! ## Statements -/

/-- A full statement table. -/
def fullTable : State := { s0 with stu := { s0.stu with table := Vector.replicate 16 (some stA) } }

theorem witness_OpenStatement :
    PortHolds (words s0 [7, 0, 9, 0, 2, 3, 0]) [7, 0, 9, 0, 2, 3, 0] ∧ 1 < (2 : Word).toNat ∧
    shows .openStatement (words s0 [7, 0, 9, 0, 2, 3, 0]) (fun t => t.cpt.result) = some [0x0102] ∧
    4095 < (4096 : Word).toNat ∧
    shows .openStatement (words s0 [7, 0, 9, 0, 0, 4096, 0]) (fun t => t.cpt.result) = some [0x0102] ∧
    (words { s0 with profile := { s0.profile with enabled := { s0.profile.enabled with duplex := false } } }
      [7, 0, 9, 0, 1, 3, 0]).profile.enabled.duplex = false ∧
    (∃ slot r, (words runA [7, 0, 9, 0, 0, 4095, 1]).statement slot = some r ∧ r.ident = (0 : Word) ++ (7 : Word)) ∧
    shows .openStatement (words runA [7, 0, 9, 0, 0, 4095, 1]) (fun t => t.cpt.result) = some [0x0105] ∧
    (∀ slot, (words fullTable [8, 0, 9, 0, 0, 0, 0]).statement slot ≠ none) ∧
    shows .openStatement (words fullTable [8, 0, 9, 0, 0, 0, 0]) (fun t => t.cpt.result) = some [0x010D] ∧
    (words runA [8, 0, 9, 0, 1, 0, 1]).statement 1 = none ∧
    (∀ j, j < (1 : Slot) → (words runA [8, 0, 9, 0, 1, 0, 1]).statement j ≠ none) ∧
    shows .openStatement (words runA [8, 0, 9, 0, 1, 0, 1]) (fun t => (t.cpt.result, t.openingOf 1))
      = some ([0x0200, 1], 1) := by
  refine ⟨⟨rfl, rfl, rfl⟩, by decide, by decide +kernel, by decide, by decide +kernel, rfl,
    ⟨0, stA, by decide +kernel, by decide +kernel⟩, ?_⟩
  decide +kernel

theorem witness_Page :
    PortHolds (words runA [0, 7, 0, 3, 1, 0]) [slotCode 0, 7, 0, word 3, yesNo true, trayCode .t1] ∧
    runA.statement 0 = some stA ∧ stA.ident = (0 : Word) ++ (7 : Word) ∧ stA.state = .opened ∧ 3 = stA.nextPage ∧
    stA.declared = some 3 ∧ (words runA [0, 7, 0, 3, 1, 0]).queueHasRoom .new = true ∧
    shows .page (words runA [0, 7, 0, 3, 1, 0]) (fun t => (t.cpt.result, t.adm.newQueue.length,
      (t.statement 0).map fun r => r.state)) = some ([0x0300, 0, 4], 1, some .closed) ∧
    shows .page (words runA [0, 8, 0, 3, 1, 0]) (fun t => t.cpt.result) = some [0x0104] ∧
    shows .page (words (s0.setStatement 0 (some stB)) [0, 7, 0, 3, 1, 0]) (fun t => t.cpt.result) = some [0x0109] ∧
    shows .page (words (s0.setStatement 0 (some { stA with state := .closed })) [0, 7, 0, 3, 1, 0])
      (fun t => t.cpt.result) = some [0x0103] ∧
    shows .page (words runA [0, 7, 0, 2, 0, 0]) (fun t => t.cpt.result) = some [0x0107] ∧
    shows .page (words (s0.setStatement 0 (some { stA with declared := some 5 })) [0, 7, 0, 3, 1, 0])
      (fun t => t.cpt.result) = some [0x0102] ∧
    (words (runA.setQueue .new (List.replicate 16 enA)) [0, 7, 0, 3, 1, 0]).queueHasRoom .new = false ∧
    shows .page (words (runA.setQueue .new (List.replicate 16 enA)) [0, 7, 0, 3, 1, 0]) (fun t => t.cpt.result)
      = some [0x0108] := by
  refine ⟨⟨rfl, rfl, by decide⟩, ?_⟩
  decide +kernel

/-- A broken statement with nothing in flight. -/
def broken : State := s0.setStatement 0 (some { stB with inFlight := 0, cause := some .binOverflow })

theorem witness_Restart :
    PortHolds (words broken [0, 7, 0]) [0, 7, 0] ∧ 15 < (16 : Word).toNat ∧ (0 : Slot).val = (0 : Word).toNat ∧
    shows .restartStatement (words broken [16, 7, 0]) (fun t => t.cpt.result) = some [0x0102] ∧
    shows .restartStatement (words broken [15, 7, 0]) (fun t => t.cpt.result) = some [0x0104] ∧
    shows .restartStatement (words broken [0, 7, 0]) (fun t => (t.cpt.result, (t.statement 0).map fun r =>
      (r.state, r.generation, r.binClass))) = some ([0x0200, 1], some (.opened, 1, .oversize)) ∧
    shows .restartStatement (words runA [0, 7, 0]) (fun t => t.cpt.result) = some [0x0103] ∧
    shows .restartStatement (words (s0.setStatement 0 (some stB)) [0, 7, 0]) (fun t => t.cpt.result)
      = some [0x010B] := by
  refine ⟨⟨rfl, rfl, rfl⟩, ?_⟩
  decide +kernel

theorem witness_Discard :
    PortHolds (words broken [0, 7, 0]) [0, 7, 0] ∧
    shows .discardStatement (words broken [0, 7, 0]) (fun t => (t.cpt.result, t.statement 0)) = some ([0x0100], none) ∧
    shows .discardStatement (words runA [0, 7, 0]) (fun t => t.cpt.result) = some [0x0103] ∧
    shows .discardStatement (words (s0.setStatement 0 (some stB)) [0, 7, 0]) (fun t => t.cpt.result)
      = some [0x010B] := by
  refine ⟨⟨rfl, rfl, rfl⟩, ?_⟩
  decide +kernel

theorem witness_Queries :
    PortHolds (words runA [0, slotCode 0, 0]) [0, slotCode 0, 0] ∧ PortHolds (words runA [1, 7, 0]) [1, 7, 0] ∧
    PortHolds (words runA [tagCode 47]) [tagCode 47] ∧ PortHolds (words runA [0x7F, 0, 0]) [0x7F, 0, 0] ∧
    PortHolds (words runA [0x7F, 1, slotCode 15]) [0x7F, 1, slotCode 15] ∧ PortHolds (words runA [1]) [1] ∧
    PortHolds (words runA [binCode .p]) [binCode .p] ∧
    shows .queryStatement (words runA [1, 7, 0]) (fun t => t.cpt.result.length) = some 26 ∧
    shows .findSheets (words (runS shA) [4, 1, 0]) (fun t => t.cpt.result) = some [0x0400, 1, 1, 0] ∧
    shows .queryTransport runA (fun t => t.cpt.result.length) = some 48 ∧
    groupWords s0 6 = some [1, 1, 1, 1, 1, 1, 0, 0, 0] := by
  refine ⟨⟨rfl, rfl, rfl⟩, ⟨rfl, rfl, rfl⟩, ⟨rfl, rfl, rfl⟩, ⟨rfl, rfl, rfl⟩, ⟨rfl, rfl, rfl⟩, ⟨rfl, rfl, rfl⟩,
    ⟨rfl, rfl, rfl⟩, ?_⟩
  decide +kernel

/-- A break request waiting. -/
def asked (s : State) (generation : Nat) (opening : Option Word) : State := s.askBreak 0 generation .gauge opening

theorem witness_Break :
    (asked runA 0 none).requests.breaks[0]? = some { slot := 0, generation := 0, cause := .gauge, opening := none } ∧
    (asked runA 0 none).statement 0 = some stA ∧
    shows (.breakStatement 0) (asked runA 0 none) (fun t => ((t.statement 0).map fun r => (r.state, r.cause),
      t.requests.condemns.length, t.requests.flushes.length)) = some (some (.broken, some .gauge), 1, 1) ∧
    shows (.breakStatement 0) (asked runA 1 none) (fun t => t.statement 0) = some (some stA) ∧
    (5 : Word) ≠ (asked runA 0 (some 5)).openingOf 0 ∧
    shows (.breakStatement 0) (asked runA 0 (some 5)) (fun t => t.statement 0) = some (some stA) ∧
    shows (.breakStatement 0) (asked (runA.setStatement 0 (some { stA with
        state := .closed, generation := 3, delivered := 2, firstPos := some 4, lastPos := some 5, inFlight := 0 })) 3 (some 0))
      (fun t => ((t.statement 0).map fun r => r.state, t.requests.bins)) =
      some (some .abandoned, [.opening .b1 7 4 5, .closing .b1 0 3 7]) := by decide +kernel

/-! ## Sheets and admission -/

theorem witness_Condemn :
    ((runS shA).claimCondemn { tag := none, slot := 0, generation := 0, cause := .broken }).requests.condemns[0]? =
      some { tag := none, slot := 0, generation := 0, cause := .broken } ∧
    shows (.condemn 0) ((runS shA).claimCondemn { tag := some 0, slot := 0, generation := 0, cause := .gauge })
      (fun t => (t.sheet 0).bind fun r => r.condemned) = some (some .gauge) ∧
    shows (.condemn 0) ((runS { shA with condemned := some .blank }).claimCondemn
        { tag := none, slot := 0, generation := 0, cause := .broken })
      (fun t => (t.sheet 0).bind fun r => r.condemned) = some (some .blank) := by decide +kernel

theorem witness_Trays :
    PortHolds (words s0 [2]) [trayCode .t3] ∧ 2 < (3 : Word).toNat ∧
    shows .trayResume (words (s0.setCondition .t3 .failed) [2]) (fun t => t.condition .t3) = some .ok ∧
    shows .trayResume (words s0 [3]) (fun t => t.cpt.result) = some [0x0102] ∧
    (words s0 [2]).condition .t3 = .ok ∧
    shows .trayResume (words ((moved s0 .running true).setQueue .new
        [{ slot := 0, generation := 0, page := 1, last := false, tray := .t1, attempts := 0 }]) [0])
      (fun t => (t.adm.newHold, t.adm.restartHold)) = some (.bin, .transport) ∧
    shows (.trayReadyChange .t2) s0 (fun t => t.lines.trayReady.toList) = some [true, false, true] := by
  refine ⟨⟨rfl, rfl, by decide⟩, ?_⟩
  decide +kernel

/-- RUNNING with a page of the statement at the head of a queue. -/
def fed (q : Queue) : State := (running.setStatement 0 (some { stA with inFlight := 0, admitted := 0 })).setQueue q [enA]

theorem witness_TrayGrant :
    (fed .new).tsv.state = .running ∧ (fed .new).slotFree = true ∧ releaseClaimant (fed .new) = none ∧
    evaluate (fed .new) .new = .none_ ∧ evaluate (fed .new) .restart ≠ .none_ ∧
    (fed .new).queue .new = enA :: [] ∧ (fed .new).statement 0 = some { stA with inFlight := 0, admitted := 0 } ∧
    binFor (fed .new) { stA with inFlight := 0, admitted := 0 } = some .b1 ∧ (fed .new).sheet 0 = none ∧
    shows .trayGrant (fed .new) (fun t => ((t.sheet 0).map fun r => (r.state, r.target), (t.bin .b1).reserved,
      t.tsq.pitches.length, t.adm.pick.map fun p => p.launch)) =
      some (some (.picking, .b1), 1, 1, some 10000) ∧
    evaluate (fed .restart) .restart = .none_ ∧ evaluate (fed .restart) .new ≠ .none_ ∧
    shows .trayGrant (fed .restart) (fun t => (t.adm.restartQueue, t.adm.starvation)) = some ([], 0) := by
  decide +kernel

/-- A parked duplex sheet. -/
def parked : State := runS { shA with
  state := .parked, plex := .duplex, front := .done, back := some .none_, lastSensor := some .dup2, lastLead := some 9000 }

theorem witness_ReleaseGrant :
    parked.tsv.state = .running ∧ parked.slotFree = true ∧ parked.parkedTag = some 0 ∧
    releaseDue parked { shA with
      state := .parked, plex := .duplex, front := .done, back := some .none_, lastSensor := some .dup2
      lastLead := some 9000 } = true ∧ (parked.list .reg).length < 4 ∧
    shows .releaseGrant parked (fun t => ((t.sheet 0).map fun r => (r.state, r.back), t.adm.releaseLine,
      (t.list .reg).map fun e => (e.opens, e.closes))) =
      some (some (.main, some .called), true, [(10540, 10660)]) := by decide +kernel

/-- A pick of record 0 from T1 launched or waiting. -/
def picking (issued : Bool) : State :=
  let s := runS { shA with state := .picking }
  { s with adm := { s.adm with
      pick := some { entry := enA, source := .new, tag := 0, launch := 10000, issued := issued } } }

theorem witness_PickLaunch :
    (picking false).adm.pick = some { entry := enA, source := .new, tag := 0, launch := 10000, issued := false } ∧
    (picking false).tsv.state = .running ∧ reaches (picking false).now 10000 = true ∧
    ((picking false).list .f1).length < 4 ∧
    shows .pickLaunch (picking false) (fun t => (t.adm.pickLines.toList, (t.list .f1).map fun e => (e.opens, e.closes)))
      = some ([true, false, false], [(10220, 10380)]) := by decide +kernel

theorem witness_Flush :
    ((fed .new).askFlush 0 0).requests.flushes = { slot := 0, generation := 0 } :: [] ∧
    shows .flush ((fed .new).askFlush 0 0) (fun t => (t.adm.newQueue, t.requests.flushes)) = some ([], []) := by
  decide +kernel

theorem witness_PickWindowExpiry :
    ((picking true).setList .f1 [exA]).tracking = true ∧ ((picking true).setList .f1 [exA]).debouncing .f1 = none ∧
    ((picking true).setList .f1 [exA]).list (exitOf .t1) = [exA] ∧ reaches (picking true).now exA.closes = true ∧
    ((picking true).setList .f1 [exA]).sheet 0 = some { shA with state := .picking } ∧
    ((picking true).setList .f1 [exA]).statement 0 = some stA ∧
    shows (.pickWindowExpiry .t1) ((picking true).setList .f1 [exA]) (fun t => (t.sheet 0, t.adm.newQueue,
      (t.statement 0).map fun r => (r.admitted, r.inFlight))) =
      some (none, [{ enA with attempts := 1 }], some (0, 0)) ∧
    shows (.pickWindowExpiry .t1) (((picking true).setList .f1 [exA]).setSheet 0
        (some { shA with state := .picking, attempts := 2 })) (fun t => (t.adm.newQueue, t.condition .t1)) =
      some ([enA], .failed) := by decide +kernel

/-- A pick of a side already MISSED, whose BLANK break has not been taken. -/
def missedPick : State :=
  (((picking true).setList .f1 [exA]).setSheet 0 (some { shA with state := .picking, front := .missed })).askBreak 0 0
    .blank none

theorem witness_PickWindowExpiry_missed :
    breakWaits missedPick 0 0 .blank = true ∧
    shows (.pickWindowExpiry .t1) missedPick (fun t => (t.adm.newQueue, t.requests.breaks,
      (t.statement 0).map fun r => (r.state, r.cause, r.admitted, r.inFlight))) =
      some ([], [], some (.broken, some .blank, 0, 0)) := by decide +kernel

/-! ## Transfer Sequence -/

/-- RUNNING with the sheet and its pitch. -/
def pitched (p : Pitch) : State := (runS { shA with lastSensor := some .f1 }).setPitches [p]

theorem witness_SideReady :
    PortHolds (words (pitched piA) [0, 0, 0]) [0, tagCode 0, Side.front.code] ∧
    47 < (48 : Word).toNat ∧ 1 < (2 : Word).toNat ∧
    shows .sideReady (words (pitched piA) [0, 48, 0]) (fun t => t.cpt.result) = some [0x0102] ∧
    shows .sideFail (words (pitched piA) [0, 0, 2]) (fun t => t.cpt.result) = some [0x0102] ∧
    (pitched piA).calledPitch 0 0 .front = some piA ∧
    shows .sideReady (words (pitched piA) [0, 0, 0]) (fun t => (t.cpt.result, t.tsq.pitches.map fun p => p.state,
      (t.sheet 0).map fun r => r.front)) = some ([0x0100], [.ready], some .ready) ∧
    shows .sideReady (words (pitched piA) [1, 0, 0]) (fun t => t.cpt.result) = some [0x0106] ∧
    shows .sideReady (words (pitched { piA with state := .missed, reason := some .deadline }) [0, 0, 0])
      (fun t => t.cpt.result) = some [0x010A] ∧
    shows .sideReady (words (pitched { piA with state := .missed, reason := some .fail }) [0, 0, 0])
      (fun t => t.cpt.result) = some [0x0106] ∧
    shows .sideReady (words (pitched { piA with state := .ready }) [0, 0, 0]) (fun t => t.cpt.result)
      = some [0x0106] := by
  refine ⟨⟨rfl, rfl, by decide⟩, ?_⟩
  decide +kernel

theorem witness_Missed :
    shows .sideFail (words (pitched { piA with state := .ready }) [0, 0, 0]) (fun t => (t.cpt.result,
      t.tsq.pitches.map fun p => (p.state, p.reason), t.requests.breaks.length)) =
      some ([0x0100], [(.missed, some .fail)], 1) ∧
    shows .sideFail (words (pitched { piA with state := .imaging }) [0, 0, 0]) (fun t => t.cpt.result)
      = some [0x0103] ∧
    (pitched { piA with deadline := 10000 }).pitchOf 0 = some { piA with deadline := 10000 } ∧
    reaches (pitched piA).now 10000 = true ∧ (pitched piA).tsq.halted = false ∧
    shows (.deadlineExpiry 0) (pitched { piA with deadline := 10000 }) (fun t =>
      t.tsq.pitches.map fun p => (p.state, p.reason)) = some [(.missed, some .deadline)] ∧
    shows (.deadlineExpiry 0) (pitched { piA with deadline := 10001 }) (fun t => t.tsq.pitches.map fun p => p.state)
      = some [.called] := by decide +kernel

/-! ## Path tracking -/

theorem edgeAccepted_of (s : State) (x : Sensor) (level : Bool) (h1 : s.debouncing x = some 9900)
    (h2 : reaches s.now (plus 9900 (s.limit .debounceDistance)) = true) (h3 : s.tracking = true ∨ s.tsv.state = .runout)
    (h4 : s.lineCovered x = level) : EdgeAccepted s x 9900 level := ⟨h1, h2, h3, h4⟩

/-- RUNNING with a debounce of the REG line begun at a count. -/
def bouncing (c : Count) : State := setDebounce (edge runA .reg true) .reg (some c)

theorem witness_SensorLine :
    s0.lineCovered .reg = false ∧ s0.covered .reg = false ∧ s0.runs = false ∧ s0.tracking = false ∧
    s0.tsv.state ≠ .runout ∧ runA.runs = true ∧
    shows (.sensorLineChange .reg) s0 (fun t => (t.covered .reg, t.debouncing .reg)) = some (true, none) ∧
    shows (.sensorLineChange .reg) runA (fun t => (t.covered .reg, t.debouncing .reg)) = some (false, some 10000) ∧
    (bouncing 9993).debouncing .reg = some 9993 ∧
    reaches (bouncing 9993).now (plus 9993 ((bouncing 9993).limit .debounceDistance)) = false ∧
    shows (.sensorLineChange .reg) (bouncing 9993) (fun t => (t.covered .reg, t.debouncing .reg)) =
      some (false, none) ∧
    reaches (bouncing 9992).now (plus 9992 ((bouncing 9992).limit .debounceDistance)) = true ∧
    shows (.sensorLineChange .reg) (bouncing 9992) (fun t => (t.covered .reg, t.debouncing .reg,
      t.requests.faults.length)) = some (true, some 10000, 1) := by
  (repeat' apply And.intro) <;> decide +kernel

theorem witness_Edges :
    runA.debouncing .reg = none ∧ (edge runA .reg true).debouncing .reg = some 9900 ∧
    EdgeAccepted (edge runA .reg true) .reg 9900 true ∧ (edge runA .reg true).watched .reg = [] ∧
    shows (.debounceComplete ⟨.reg, false⟩) (edge runA .reg true) (fun t => t.requests.faults) =
      some [{ cause := .unexpected, sensor := .reg, tag := none }] ∧
    reaches (10000 : Count) (plus 9993 (runA.limit .debounceDistance)) = false ∧
    (∀ f ∈ [exA], isLater (9900 : Count) f.closes = false) ∧ liesBefore (9900 : Count) 9901 = true ∧
    shows (.debounceComplete ⟨.reg, false⟩) ((edge runA .reg true).setList .reg [{ exA with opens := 9901 }])
      (fun t => t.requests.faults) = some [{ cause := .early, sensor := .reg, tag := some 0 }] ∧
    shows (.debounceComplete ⟨.dup2, false⟩) ((edge parked .dup2 true).setList .dup2 [exA]) (fun t => t.requests.faults) =
      some [{ cause := .loopOverrun, sensor := .dup2, tag := some 0 }] ∧
    ((edge parked .dup2 true).setList .dup2 [exA]).watched .dup2 = [exA] ∧
    (edge s0 .reg true).tracking = false ∧
    shows (.debounceComplete ⟨.reg, false⟩) (edge s0 .reg true) (fun t => (t.covered .reg, t.requests.faults)) =
      some (true, []) := by
  refine ⟨by decide +kernel, by decide +kernel, ?_, ?_⟩
  · apply edgeAccepted_of <;> decide +kernel
  (repeat' apply And.intro) <;> decide +kernel

/-- The lead of record 0 under debounce at a sensor, with its entry. -/
def led (s : State) (x : Sensor) : State := (edge s x true).setList x [exA]

theorem leadTaken_led (s : State) (x : Sensor) (h1 : (led s x).debouncing x = some 9900)
    (h2 : reaches (led s x).now (plus 9900 ((led s x).limit .debounceDistance)) = true)
    (h3 : (led s x).tracking = true ∨ (led s x).tsv.state = .runout)
    (h4 : (led s x).lineCovered x = true) (h5 : (led s x).watched x = [exA])
    (h6 : x = .dup2 → (led s x).parkedTag = none) : LeadTaken (led s x) x 9900 exA [] :=
  ⟨⟨h1, h2, h3, h4⟩, h5, by decide, by decide, h6⟩

theorem witness_AcceptedLead :
    LeadTaken (led (runS { shA with state := .picking }) .f1) .f1 9900 exA [] ∧
    shows (.debounceComplete ⟨.f1, false⟩) (led (runS { shA with state := .picking }) .f1) (fun t =>
      ((t.sheet 0).map fun r => (r.state, r.lastSensor, r.lastLead), (t.list .reg).map fun e => (e.opens, e.closes))) =
      some (some (.main, some .f1, some 9900), [(11240, 11360)]) ∧
    LeadTaken (led (runS { shA with plex := .duplex, back := some .none_ }) .dup1) .dup1 9900 exA [] ∧
    shows (.debounceComplete ⟨.dup1, false⟩) (led (runS { shA with plex := .duplex, back := some .none_ }) .dup1) (fun t =>
      ((t.sheet 0).map fun r => r.state, (t.list .dup2).map fun e => e.opens)) = some (some .loop, [12240]) ∧
    LeadTaken (led (runS shA) .out) .out 9900 exA [] ∧
    shows (.debounceComplete ⟨.out, false⟩) (led (runS shA) .out) (fun t => ((t.sheet 0).map fun r => r.state,
      (t.list .b1).map fun e => e.opens)) = some (some .output, [10340]) ∧
    LeadTaken (led (runS { shA with state := .loop }) .dup2) .dup2 9900 exA [] ∧
    shows (.debounceComplete ⟨.dup2, false⟩) (led (runS { shA with state := .loop }) .dup2) (fun t => t.ptk.park) =
      some (some { tag := 0, owner := { slot := 0, generation := 0 }, count := 10050 }) ∧
    nextHop shA .xfer = some (.fuse, .xferFuse) ∧
    4 ≤ (((led (runS shA) .xfer).setList .fuse (List.replicate 4 exA)).list .fuse).length ∧
    shows (.debounceComplete ⟨.xfer, false⟩) ((led (runS shA) .xfer).setList .fuse (List.replicate 4 exA)) (fun t =>
      t.requests.faults) = some [{ cause := .trackFull, sensor := .fuse, tag := some 0 }] := by
  refine ⟨?_, by decide +kernel, ?_, by decide +kernel, ?_, by decide +kernel, ?_, ?_⟩
  any_goals (apply leadTaken_led <;> decide +kernel)
  (repeat' apply And.intro) <;> decide +kernel

/-- The lead of a picked sheet at F1. -/
def exitLead : State := led ((picking true).setPitches [piA]) .f1

theorem witness_TrayExitLead :
    LeadTaken exitLead .f1 9900 exA [] ∧ exitLead.sheet 0 = some { shA with state := .picking } ∧
    exitLead.adm.pick = some { entry := enA, source := .new, tag := 0, launch := 10000, issued := true } ∧
    exitLead.pitchOf 0 = some piA ∧ reaches exitLead.now (minus (plus 9900 1400) exitLead.margin) = false ∧
    shows (.debounceComplete ⟨.f1, false⟩) exitLead (fun t => (t.adm.pick, t.tsq.pitches.map fun p => p.deadline)) =
      some (none, [10900]) := by
  refine ⟨?_, ?_⟩
  · apply leadTaken_led <;> decide +kernel
  · (repeat' apply And.intro) <;> decide +kernel

theorem witness_RegLead :
    LeadTaken (led (pitched { piA with state := .ready }) .reg) .reg 9900 exA [] ∧
    (led (pitched { piA with state := .ready }) .reg).pitchOf 0 = some { piA with state := .ready } ∧
    (led (pitched piA) .reg).profile.enabled.gauge = true ∧ some Sensor.f1 = some (exitOf .t1) ∧
    shows (.debounceComplete ⟨.reg, false⟩) (led (pitched { piA with state := .ready }) .reg) (fun t =>
      (t.tsq.pitches.map fun p => (p.state, p.registered), t.tsq.transferEnable, t.ptk.burst.map fun b => b.regLead)) =
      some ([(.imaging, true)], true, some 9900) ∧
    shows (.debounceComplete ⟨.reg, false⟩) (led (pitched piA) .reg) (fun t =>
      (t.tsq.pitches.map fun p => (p.state, p.reason), t.tsq.transferEnable)) =
      some ([(.missed, some .deadline)], false) ∧
    shows (.debounceComplete ⟨.reg, false⟩) (led (pitched { piA with state := .missed, reason := some .fail }) .reg) (fun t =>
      (t.tsq.pitches.map fun p => p.registered, t.tsq.transferEnable)) = some ([true], false) := by
  refine ⟨?_, ?_⟩
  · apply leadTaken_led <;> decide +kernel
  · (repeat' apply And.intro) <;> decide +kernel

/-- A gate request of record 0. -/
def reqA (kind : RequestKind) (count : Count) : GateRequest :=
  { tag := 0, owner := { slot := 0, generation := 0 }, kind := kind, count := count }

theorem witness_LeadsSchedule :
    LeadTaken (led (runS shA) .fuse) .fuse 9900 exA [] ∧ LeadTaken (led (runS shA) .out) .out 9900 exA [] ∧
    LeadTaken (led (runS { shA with state := .output }) .b1) .b1 9900 exA [] ∧
    shows (.debounceComplete ⟨.fuse, false⟩) (led (runS shA) .fuse) (fun t => (t.gate .d).waiting) =
      some [reqA .passage 10130] ∧
    shows (.debounceComplete ⟨.fuse, false⟩) (led (runS { shA with plex := .duplex, back := some .none_ }) .fuse)
      (fun t => (t.gate .d).waiting) = some [reqA .throw 10130] ∧
    2 ≤ (((led (runS shA) .fuse).setGate .d { hold := none, waiting := [reqA .throw 1, reqA .throw 2] }).gate .d
      ).waiting.length ∧
    shows (.debounceComplete ⟨.fuse, false⟩) ((led (runS shA) .fuse).setGate .d
        { hold := none, waiting := [reqA .throw 1, reqA .throw 2] }) (fun t => t.requests.faults) =
      some [{ cause := .gateConflict, sensor := .fuse, tag := some 0 }] ∧
    (Gate.g1, RequestKind.throw) ∈ routeGates .b1 ∧ (Gate.g4, RequestKind.passage) ∈ routeGates .p ∧
    shows (.debounceComplete ⟨.out, false⟩) (led (runS { shA with target := .b2 }) .out) (fun t =>
      ((t.gate .g1).waiting, (t.gate .g2).waiting)) = some ([reqA .passage 10030], [reqA .throw 10430]) ∧
    shows (.debounceComplete ⟨.b1, false⟩) ((led (runS { shA with state := .output }) .b1).setBin .b1
        { runA.bin .b1 with state := .doorOpen }) (fun t => t.requests.faults) =
      some [{ cause := .binOpen, sensor := .b1, tag := some 0 }] ∧
    shows (.debounceComplete ⟨.b1, false⟩) (led (runS { shA with state := .output }) .b1) (fun t => t.requests.faults) =
      some [] := by
  refine ⟨?_, ?_, ?_, ?_⟩
  any_goals (apply leadTaken_led <;> decide +kernel)
  (repeat' apply And.intro) <;> decide +kernel

/-- The trail of record 0 under debounce at a sensor. -/
def trailed (r : Sheet) (x : Sensor) : State := edge (runS r) x false

/-- A release window of record 0. -/
def reA : ReleaseWindow := { tag := 0, opens := 9860, closes := 9940, widened := false, expired := false }

theorem witness_Trails :
    EdgeAccepted (trailed { shA with lastSensor := some .reg, trail := some (wiA .reg) } .reg) .reg 9900 false ∧
    (trailed { shA with lastSensor := some .reg, trail := some (wiA .reg) } .reg).firstTag
      (takesTrail (trailed { shA with lastSensor := some .reg, trail := some (wiA .reg) } .reg) .reg) = some 0 ∧
    shows (.debounceComplete ⟨.reg, false⟩) (trailed { shA with lastSensor := some .reg, trail := some (wiA .reg) } .reg)
      (fun t => (t.sheet 0).map fun r => r.trail) = some (some none) ∧
    shows (.debounceComplete ⟨.reg, false⟩) (trailed { shA with
        lastSensor := some .xfer, lastLead := some 9000, trail := some (wiA .reg) } .reg)
      (fun t => (t.sheet 0).bind fun r => r.trail.map fun w => (w.sensor, w.opens, w.closes)) =
      some (some (.xfer, 10078, 10158)) ∧
    shows (.debounceComplete ⟨.reg, false⟩) (trailed { shA with trail := some { wiA .reg with opens := 9901 } } .reg)
      (fun t => t.requests.faults) = some [{ cause := .short, sensor := .reg, tag := some 0 }] ∧
    shows (.debounceComplete ⟨.f1, false⟩) (trailed { shA with trail := some { wiA .f1 with closes := 9899 } } .f1)
      (fun t => t.requests.faults) = some [{ cause := .overlap, sensor := .f1, tag := some 0 }] ∧
    shows (.debounceComplete ⟨.reg, false⟩) (trailed { shA with trail := some { wiA .reg with closes := 9899 } } .reg)
      (fun t => t.requests.faults) = some [{ cause := .stall, sensor := .reg, tag := some 0 }] ∧
    shows (.debounceComplete ⟨.dup2, false⟩) (edge parked .dup2 false) (fun t => t.requests.faults) =
      some [{ cause := .short, sensor := .dup2, tag := some 0 }] ∧
    shows (.debounceComplete ⟨.reg, false⟩) (trailed { shA with lastSensor := some .reg, trail := some (wiA .f1) } .reg)
      (fun t => t.requests.faults) = some [{ cause := .short, sensor := .reg, tag := some 0 }] ∧
    shows (.debounceComplete ⟨.reg, false⟩) (trailed shA .reg) (fun t => t.requests.faults) = some [] ∧
    shows (.debounceComplete ⟨.dup2, false⟩)
      ({ edge runA .dup2 false with
        ptk := { (edge runA .dup2 false).ptk with release := some reA }
        adm := { runA.adm with releaseLine := true } })
      (fun t => (t.ptk.release, t.adm.releaseLine, t.requests.faults)) = some (none, false, []) := by
  refine ⟨?_, ?_⟩
  · apply edgeAccepted_of <;> decide +kernel
  (repeat' apply And.intro) <;> decide +kernel

theorem trailTaken_trailed (s : State) (x : Sensor) (r : Sheet) (w : TrailPending)
    (h1 : s.debouncing x = some 9900) (h2 : reaches s.now (plus 9900 (s.limit .debounceDistance)) = true)
    (h3 : s.tracking = true ∨ s.tsv.state = .runout) (h4 : s.lineCovered x = false) (h5 : s.ptk.release = none)
    (h6 : s.firstTag (takesTrail s x) = some 0) (h7 : s.sheet 0 = some r) (h8 : r.trail = some w)
    (h9 : liesBefore 9900 w.opens = false) (h10 : reaches w.closes 9900 = true) : TrailTaken s x 9900 0 r w :=
  ⟨⟨h1, h2, h3, h4⟩, fun _ _ => h5, h6, h7, h8, h9, h10⟩

/-- The trail of a sheet at XFER with its pitch. -/
def xferTrail (p : Pitch) : State :=
  (trailed { shA with lastSensor := some .xfer, trail := some (wiA .xfer) } .xfer).setPitches [p]

theorem witness_XferTrail :
    TrailTaken (xferTrail { piA with state := .imaging, registered := true }) .xfer 9900 0
      { shA with lastSensor := some .xfer, trail := some (wiA .xfer) } (wiA .xfer) ∧
    (xferTrail { piA with state := .imaging, registered := true }).pitchOf 0 =
      some { piA with state := .imaging, registered := true } ∧
    shows (.debounceComplete ⟨.xfer, false⟩) (xferTrail { piA with state := .imaging, registered := true }) (fun t =>
      (t.tsq.pitches, (t.sheet 0).map fun r => r.front)) = some ([], some .done) ∧
    shows (.debounceComplete ⟨.xfer, false⟩) (xferTrail { piA with state := .ready }) (fun t => t.tsq.pitches.length)
      = some 1 := by
  refine ⟨?_, ?_⟩
  · apply trailTaken_trailed <;> decide +kernel
  · (repeat' apply And.intro) <;> decide +kernel

/-- A committed sheet whose trail is under debounce at the entry of a bin. -/
def arriving (b : Bin) (st : Statement) (r : Sheet) : State :=
  (trailed { r with
    state := .output, target := b, lastSensor := some (entryOf b), trail := some (wiA (entryOf b)) } (entryOf b)
  ).setStatement 0 (some st)

/-- The statement with one page left to deliver. -/
def stC : Statement := { stA with state := .closed, queued := 1, lastSeen := true }

theorem witness_DeliveryIntoAStacker :
    TrailTaken (arriving .b1 stC shA) .b1 9900 0
      { shA with state := .output, target := .b1, lastSensor := some .b1, trail := some (wiA .b1) } (wiA .b1) ∧
    ((arriving .b1 stC shA).bin .b1).state ≠ .off ∧ (arriving .b1 stC shA).statement 0 = some stC ∧
    shows (.debounceComplete ⟨.b1, false⟩) (arriving .b1 stC shA) (fun t => (t.sheet 0, t.statement 0, (t.bin .b1).fill,
      t.cpt.notices)) = some (none, none, 1, [.reset .cold, .stmtComplete 0 7 .b1 1 1]) ∧
    shows (.debounceComplete ⟨.b1, false⟩) (arriving .b1 stA shA) (fun t => (t.statement 0).map fun r =>
      (r.delivered, r.inFlight, r.firstPos, r.lastPos)) = some (some (1, 0, some 1, some 1)) ∧
    openRange ((arriving .b1 stB shA).bin .b1) 7 = none ∧
    shows (.debounceComplete ⟨.b1, false⟩) (arriving .b1 stB shA) (fun t => (t.bin .b1).spoil) =
      some [{ first := 1, last := 1, ident := 7, isOpen := true }] ∧
    shows (.debounceComplete ⟨.b1, false⟩) ((arriving .b1 stB shA).setBin .b1 { runA.bin .b1 with
        fill := 1499, spoil := [{ first := 3, last := 3, ident := 7, isOpen := true }] })
      (fun t => ((t.bin .b1).spoil, (t.bin .b1).state)) =
      some ([{ first := 3, last := 1500, ident := 7, isOpen := true }], .full) ∧
    shows (.debounceComplete ⟨.b1, false⟩) (arriving .b1 { stA with generation := 1 } shA) (fun t =>
      ((t.statement 0).map fun r => r.delivered, (t.bin .b1).spoil, (t.bin .b1).fill)) = some (some 0, [], 1) ∧
    breakWaits ((arriving .b1 stC shA).askBreak 0 0 .binOpened (some 0)) 0 0 .binOpened = true ∧
    shows (.debounceComplete ⟨.b1, false⟩) ((arriving .b1 stC shA).askBreak 0 0 .binOpened (some 0)) (fun t =>
      ((t.statement 0).map fun r => (r.state, r.cause, r.delivered, r.inFlight), (t.bin .b1).spoil)) =
      some (some (.broken, some .binOpened, 0, 0), [{ first := 1, last := 1, ident := 7, isOpen := true }]) := by
  refine ⟨?_, ?_⟩
  · apply trailTaken_trailed <;> decide +kernel
  · (repeat' apply And.intro) <;> decide +kernel

theorem witness_DeliveryIntoThePurgeBin :
    TrailTaken (arriving .p stA shA) .bp 9900 0
      { shA with state := .output, target := .p, lastSensor := some .bp, trail := some (wiA .bp) } (wiA .bp) ∧
    stA.bin ≠ some .p ∧
    shows (.debounceComplete ⟨.bp, false⟩) (arriving .p stA shA) (fun t => (t.sheet 0, (t.bin .p).fill,
      (t.statement 0).map fun r => (r.delivered, r.inFlight))) = some (none, 1, some (0, 0)) ∧
    shows (.debounceComplete ⟨.bp, false⟩) ((arriving .p stA shA).setBin .p { runA.bin .p with fill := 499 }) (fun t =>
      (t.bin .p).state) = some .full := by
  refine ⟨?_, ?_⟩
  · apply trailTaken_trailed <;> decide +kernel
  · (repeat' apply And.intro) <;> decide +kernel

theorem witness_Windows :
    (runA.setList .reg [exA]).tracking = true ∧ (runA.setList .reg [exA]).debouncing .reg = none ∧
    (((runA.setList .reg [exA]).watched .reg).find? fun f => reaches (runA.setList .reg [exA]).now f.closes) = some exA ∧
    shows (.leadWindowExpiry .reg) (runA.setList .reg [exA]) (fun t => (t.list .reg, t.requests.faults)) =
      some ([], [{ cause := .late, sensor := .reg, tag := some 0 }]) ∧
    (∀ f ∈ (runA.setList .reg [{ exA with closes := 10001 }]).watched .reg, reaches (10000 : Count) f.closes = false) ∧
    shows (.trailWindowExpiry 0) (runS { shA with trail := some (wiA .f1) }) (fun t => t.requests.faults) =
      some [{ cause := .overlap, sensor := .f1, tag := some 0 }] ∧
    shows (.trailWindowExpiry 0) (runS { shA with trail := some (wiA .out) }) (fun t => t.requests.faults) =
      some [{ cause := .stall, sensor := .out, tag := some 0 }] ∧
    shows (.trailWindowExpiry 0) (runS { shA with trail := some { wiA .out with closes := 10001 } }) (fun t =>
      t.requests.faults) = some [] ∧
    shows .releaseWindowExpiry { runA with ptk := { runA.ptk with release := some reA } } (fun t =>
      (t.requests.faults, t.ptk.release.map fun w => w.expired)) =
      some ([{ cause := .stall, sensor := .dup2, tag := some 0 }], some true) := by
  (repeat' apply And.intro) <;> decide +kernel

/-- RUNNING with a looping sheet and its park watch. -/
def looping (count : Count) : State :=
  let s := runS { shA with state := .loop, plex := .duplex, back := some .none_, trail := some (wiA .dup2) }
  { s with ptk := { s.ptk with park := some { tag := 0, owner := { slot := 0, generation := 0 }, count := count } } }

theorem witness_Park :
    (looping 10000).ptk.park = some { tag := 0, owner := { slot := 0, generation := 0 }, count := 10000 } ∧ (looping 10000).parkedTag = none ∧
    (looping 10000).tracking = true ∧ reaches (looping 10000).now 10000 = true ∧
    shows .park (looping 10000) (fun t => (t.ptk.park, (t.sheet 0).map fun r => (r.state, r.trail))) =
      some (none, some (.parked, none)) ∧
    reaches (looping 10001).now 10001 = false ∧
    shows .park (looping 10001) (fun t => (t.sheet 0).map fun r => r.state) = some (some .loop) := by
  (repeat' apply And.intro) <;> decide +kernel

/-- RUNNING with a burst that has taken some readings. -/
def gauging (readings : List Nat) (verdicts : Nat) : State :=
  let s := (runS shA).setVerdicts .t1 verdicts
  { s with ptk := { s.ptk with
      burst := some
        { tag := 0, owner := { slot := 0, generation := 0 }, tray := .t1, regLead := 9600, readings := readings }
      zeroOffset := 10 } }

theorem witness_Gauge :
    (gauging [] 0).ptk.burst = some
      { tag := 0, owner := { slot := 0, generation := 0 }, tray := .t1, regLead := 9600, readings := [] } ∧
    reaches (gauging [] 0).now (plus 9600 100) = true ∧ reaches (gauging [1, 2, 3, 4] 0).now (plus 9600 500) = false ∧
    shows (.gaugeReading 230 false) (gauging [] 0) (fun t => t.ptk.burst.map fun b => b.readings) =
      some (some [230]) ∧
    (((230 + 230 + 230 : Nat) + 230) / 4 : Nat) - (10 : Int) ≤ 260 ∧
    shows (.gaugeReading 230 false) (gauging [230, 230, 230] 1) (fun t => ((t.sheet 0).bind fun r => r.gauge,
      t.ptk.verdicts.toList)) =
      some (some { readings := [230, 230, 230, 230], verdict := .normal }, [0, 0, 0]) ∧
    shows (.gaugeReading 271 false) (gauging [271, 271, 271] 1) (fun t => (((t.sheet 0).bind fun r => r.gauge).map
      fun g => g.verdict, t.ptk.verdicts.toList, t.condition .t1, t.requests.breaks.length)) =
      some (some .double, [2, 0, 0], .suspect, 1) ∧
    shows (.gaugeReading 189 true) (gauging [189, 189, 189] 1) (fun t => (((t.sheet 0).bind fun r => r.gauge).map
      fun g => g.verdict, t.adm.suspects, t.condition .t1)) = some (some .thin, [.t1], .ok) ∧
    shows (.gaugeReading 190 false) (gauging [190, 190, 190] 0) (fun t => ((t.sheet 0).bind fun r => r.gauge).map
      fun g => g.verdict) = some (some .normal) := by
  (repeat' apply And.intro) <;> decide +kernel

theorem witness_CalibrateZeroAndReadSnapshot :
    PortHolds s0 [] ∧ s0.tsv.state = .stopped ∧ (∀ tag, s0.sheet tag = none) ∧ s0.profile.enabled.gauge = true ∧
    s0.covered .reg = false ∧
    shows (.calibrateZero 10 11 12 14) s0 (fun t => (t.ptk.zeroOffset, t.cpt.result)) =
      some (11, [0x0600, 10, 11, 12, 14, 11]) ∧
    shows (.calibrateZero 10 11 12 14) running (fun t => t.cpt.result) = some [0x0103] ∧
    shows (.calibrateZero 10 11 12 14) (setLevel s0 .reg true) (fun t => t.cpt.result) = some [0x010C] ∧
    shows .readSnapshot (latch s0 .late .reg (some 5) false) (fun t => (t.ptk.snapshot.locked, t.cpt.result)) =
      some (false, [0x0800, 0, 0, 0, 0, 3, 5, 13]) := by
  refine ⟨⟨rfl, rfl, rfl⟩, ?_⟩
  (repeat' apply And.intro) <;> decide +kernel

/-! ## Gates -/

/-- A gate with requests and a holder, in a state. -/
def gated (s : State) (g : Gate) (hold : Option Hold) (waiting : List GateRequest) : State :=
  s.setGate g { hold := hold, waiting := waiting }

theorem witness_Throw :
    runA.tsv.state = .running ∧ runA.gsc.frozen = false ∧
    ((gated (runS { shA with state := .output }) .g1 none [reqA .throw 10000]).gate .g1).waiting =
      reqA .throw 10000 :: [] ∧
    shows (.gateThrow .g1) (gated (runS { shA with state := .output }) .g1 none [reqA .throw 10000]) (fun t =>
      ((t.gate .g1).hold, (t.sheet 0).map fun r => r.divert, t.gsc.lines.toList)) =
      some (some { tag := 0, clearance := 11278 }, some true, [false, true, false, false, false]) ∧
    reaches runA.now 10001 = false ∧
    shows (.gateThrow .g1) (gated (runS shA) .g1 none [reqA .throw 10001]) (fun t => (t.gate .g1).hold) = some none ∧
    (gated runA .d none [reqA .throw 10000]).sheet 0 = none ∧
    shows (.gateThrow .d) (gated runA .d none [reqA .throw 10000]) (fun t => t.gate .d) =
      some { hold := none, waiting := [] } := by
  (repeat' apply And.intro) <;> decide +kernel

theorem witness_PassageAndClearance :
    shows (.gatePassage .g1) (gated (runS shA) .g1 (some { tag := 1, clearance := 10001 }) [reqA .passage 10000])
      (fun t => ((t.gate .g1).waiting, t.requests.faults)) =
      some ([], [{ cause := .gateConflict, sensor := .out, tag := some 0 }]) ∧
    shows (.gatePassage .g1) (gated (runS shA) .g1 (some { tag := 1, clearance := 10000 }) [reqA .passage 10000])
      (fun t => ((t.gate .g1).waiting, t.requests.faults)) = some ([], []) ∧
    reaches runA.now 10001 = false ∧ reaches runA.now 10000 = true ∧
    shows (.gateClearance .d) (gated runA .d (some { tag := 1, clearance := 10000 }) []) (fun t => (t.gate .d).hold) =
      some none ∧
    shows (.gateClearance .d) (gated runA .d (some { tag := 1, clearance := 10001 }) []) (fun t =>
      (t.gate .d).hold.isSome) = some true := by
  (repeat' apply And.intro) <;> decide +kernel

/-- A reroute request for record 0 or for its pair. -/
def rerouting (s : State) (tag : Option Tag) : State := s.askReroute { tag := tag, slot := 0, generation := 0 }

theorem witness_Reroute :
    (rerouting (runS shA) (some 0)).requests.reroutes = { tag := some 0, slot := 0, generation := 0 } :: [] ∧
    gateOf shA.target = some .g1 ∧ shA.divert = false ∧
    shows .reroute (rerouting (gated ((runS { shA with state := .output, lastLead := some 9000 }).setList .b1 [exA])
        .g1 none [reqA .throw 10000]) (some 0)) (fun t => ((t.sheet 0).map fun r => r.target, (t.bin .p).reserved,
        (t.gate .g1).waiting, (t.gate .g4).waiting)) =
      some (some .p, 1, [reqA .passage 10000], [reqA .passage 10330]) ∧
    shows .reroute (rerouting ((runS { shA with state := .output, lastLead := some 9000 }).setList .b1 [exA]) (some 0))
      (fun t => (t.list .b1, (t.list .bp).map fun e => (e.opens, e.closes))) = some ([], [(11040, 11160)]) ∧
    shows .reroute (rerouting (runS { shA with divert := true }) (some 0)) (fun t => (t.sheet 0).map fun r => r.target) =
      some (some .b1) ∧
    shows .reroute (rerouting ((runS shA).setSheet 47 (some shA)) none) (fun t =>
      ((t.sheet 0).map fun r => r.target, (t.sheet 47).map fun r => r.target)) = some (some .p, some .p) := by
  (repeat' apply And.intro) <;> decide +kernel

/-! ## Bins -/

/-- A bin in a state with a fill. -/
def bin1 (s : State) (b : Bin) (state : BinState) (fill : Nat) : State :=
  s.setBin b { s.bin b with state := state, fill := fill }

theorem witness_BinAccept :
    PortHolds (words s0 [0, 1500]) [0, 1500] ∧ binCode .b1 = 0 ∧ 4 < (5 : Word).toNat ∧
    s0.capacity .b1 = 1500 ∧ (s0.bin .b1).state = .check ∧ (s0.bin .b1).reserved = 0 ∧
    shows .binAccept (words s0 [0, 1500]) (fun t => (t.cpt.result, (t.bin .b1).fill, (t.bin .b1).state)) =
      some ([0x0200, 1], 1500, .full) ∧
    shows .binAccept (words s0 [0, 1499]) (fun t => (t.cpt.result, (t.bin .b1).state)) = some ([0x0200, 0], .ready) ∧
    shows .binAccept (words s0 [0, 1501]) (fun t => t.cpt.result) = some [0x0102] ∧
    shows .binAccept (words s0 [5, 0]) (fun t => t.cpt.result) = some [0x0102] ∧
    shows .binAccept (words running [0, 0]) (fun t => t.cpt.result) = some [0x0103] ∧
    shows .binAccept (words (reserve s0 .b1) [0, 0]) (fun t => t.cpt.result) = some [0x010B] ∧
    shows .binAccept (words (s0.setSheet 0 (some shA)) [4, 500]) (fun t => t.cpt.result) = some [0x010D] ∧
    shows .binAccept (words (s0.setSheet 0 (some shA)) [4, 499]) (fun t => t.cpt.result) = some [0x0200, 0] := by
  (repeat' apply And.intro) <;> decide +kernel

theorem witness_BinRole :
    PortHolds (words s0 [0, 2]) [0, 2] ∧ s0.tsv.state = .stopped ∧ (∀ tag, s0.sheet tag = none) ∧
    binCode .b1 = 0 ∧ BinRole.off.code = 2 ∧ (s0.bin .b1).stacking = [] ∧
    shows .binRole (words s0 [0, 2]) (fun t => (t.cpt.result, (t.bin .b1).role, (t.bin .b1).state)) =
      some ([0x0100], .off, .off) ∧
    shows .binRole (words (setRole s0 .b1 .off) [0, 1]) (fun t => ((t.bin .b1).role, (t.bin .b1).state)) =
      some (.oversize, .check) ∧
    shows .binRole (words running [0, 1]) (fun t => t.cpt.result) = some [0x0103] ∧
    shows .binRole (words s0 [4, 1]) (fun t => t.cpt.result) = some [0x0102] ∧
    shows .binRole (words s0 [0, 3]) (fun t => t.cpt.result) = some [0x0102] ∧
    shows .binRole (words (setFourBins { s0 with profile := { s0.profile with
        enabled := { s0.profile.enabled with fourBins := false } } } false) [2, 0]) (fun t => t.cpt.result) =
      some [0x0103] ∧
    shows .binRole (words (appendStacked s0 .b1 0 0) [0, 2]) (fun t => t.cpt.result) = some [0x0103] := by
  (repeat' apply And.intro) <;> decide +kernel

/-- The doors of RUNNING with the statement stacked in B1. -/
def stacked : State := appendStacked runA .b1 0 0

theorem witness_Doors :
    stacked.lines.doors[Bin.b1.idx] = false ∧ (stacked.bin .b1).state ≠ .off ∧ (stacked.bin .b1).state ≠ .doorOpen ∧
    shows (.binDoorOpened ⟨.b1, false⟩) stacked (fun t => ((t.bin .b1).state, t.requests.breaks)) =
      some (.doorOpen, [{ slot := 0, generation := 0, cause := .binOpened, opening := some 0 }]) ∧
    shows (.binDoorOpened ⟨.p, false⟩) running (fun t => (t.tsv.state, t.tsv.cause)) = some (.draining, some .purgeDoor) ∧
    shows (.binDoorOpened ⟨.b1, false⟩) (setRole running .b1 .off) (fun t => (t.bin .b1).state) = some .off ∧
    (setDoor (bin1 running .b1 .doorOpen 7) .b1 true).lines.doors[Bin.b1.idx] = true ∧
    shows (.binDoorClosed .b1 true) (setDoor (bin1 running .b1 .doorOpen 7) .b1 true) (fun t =>
      ((t.bin .b1).state, (t.bin .b1).fill)) = some (.ready, 0) ∧
    shows (.binDoorClosed .b1 false) (setDoor (bin1 running .b1 .doorOpen 7) .b1 true) (fun t =>
      ((t.bin .b1).state, (t.bin .b1).fill)) = some (.check, 7) ∧
    shows (.binDoorClosed .b1 true) (setDoor (setRole running .b1 .off) .b1 true) (fun t =>
      ((t.bin .b1).state, t.lines.doors.toList)) = some (.off, [false, false, false, false, false]) := by
  (repeat' apply And.intro) <;> decide +kernel

/-- B1 with three ranges and a statement that holds none. -/
def ranged : State :=
  stacked.setBin .b1 { stacked.bin .b1 with spoil :=
    [ { first := 1, last := 2, ident := 1, isOpen := false }, { first := 5, last := 6, ident := 2, isOpen := true },
      { first := 7, last := 8, ident := 3, isOpen := false } ] }

theorem witness_SpoilRanges :
    (ranged.askBin (.opening .b1 2 3 5)).requests.bins = .opening .b1 2 3 5 :: [] ∧
    openRange (ranged.bin .b1) 2 = some { first := 5, last := 6, ident := 2, isOpen := true } ∧
    shows .spoilRangeOpening (ranged.askBin (.opening .b1 2 3 5)) (fun t => ((t.bin .b1).spoil.map fun g =>
      (g.first, g.last), (t.bin .b1).state)) = some ([(1, 2), (3, 6), (7, 8)], .ready) ∧
    openRange (ranged.bin .b1) 7 = none ∧
    shows .spoilRangeOpening (ranged.askBin (.opening .b1 7 9 9)) (fun t => ((t.bin .b1).spoil.length,
      (t.bin .b1).state)) = some (4, .fenced) ∧
    shows .closingRequest (ranged.askBin (.closing .b1 0 0 2)) (fun t => ((t.bin .b1).spoil.map fun g => g.isOpen,
      (t.bin .b1).stacking)) = some ([false, false, false], []) ∧
    shows .closingRequest (ranged.askBin (.closing .b1 9 0 2)) (fun t => ((t.bin .b1).spoil.map fun g => g.isOpen,
      (t.bin .b1).stacking)) = some ([false, false, false], (ranged.bin .b1).stacking) := by
  (repeat' apply And.intro) <;> decide +kernel

/-! ## Jams -/

/-- A fault handed to jam handling. -/
def faulted (s : State) (x : Sensor) : State := s.handFault .late x (some 0)

/-- A sheet wholly past OUT, bound for B2. -/
def shO : Sheet := { shA with state := .output, target := .b2 }

theorem witness_OutputFault :
    (faulted (runS shO) .out).requests.faults[0]? = some { cause := .late, sensor := .out, tag := some 0 } ∧
    shows (.jam 0) (faulted (runS shO) .out) (fun t => (t.tsv.state, t.tsv.mainRun, t.tsv.outputRun,
      (t.sheet 0).map fun r => r.state, t.jam.section_, t.ptk.snapshot.locked)) =
      some (.jammed, false, false, some .stranded, .output, true) := by
  (repeat' apply And.intro) <;> decide +kernel

theorem witness_MainFault :
    (faulted (runS shO) .bp).requests.faults[0]? = some { cause := .late, sensor := .bp, tag := some 0 } ∧
    (tags.filter fun tag => ((faulted (runS shO) .reg).sheet tag).any Sheet.clearOfOut).length = 1 ∧
    shows (.jam 0) (faulted (runS shO) .reg) (fun t => (t.tsv.state, t.tsv.mainRun, t.tsv.outputRun,
      (t.sheet 0).map fun r => (r.state, r.runOut), t.jam.runOutCount)) =
      some (.runout, false, true, some (.output, true), 1) ∧
    shows (.jam 0) (faulted (runS shA) .dup2) (fun t => (t.tsv.state, t.tsv.cause, t.tsv.outputRun,
      (t.sheet 0).map fun r => r.state)) =
      some (.jammed, some .runoutComplete, false, some .stranded) := by
  (repeat' apply And.intro) <;> decide +kernel

/-- RUNOUT with one run-out record. -/
def runningOut (n : Nat) : State :=
  let s := moved (runS { shO with runOut := true }) .runout true
  { s with tsv := { s.tsv with mainRun := false }, jam := { s.jam with runOutCount := n } }

theorem witness_Runout :
    (faulted (runningOut 1) .b2).requests.faults[0]? = some { cause := .late, sensor := .b2, tag := some 0 } ∧
    (runningOut 1).tsv.state = .runout ∧
    shows (.jam 0) (faulted (runningOut 1) .b2) (fun t => (t.tsv.state, t.tsv.cause, t.jam.further, t.jam.runOutCount,
      (t.sheet 0).map fun r => (r.state, r.runOut))) =
      some (.jammed, some .secondFault, 1, 0, some (.stranded, false)) ∧
    (runningOut 0).jam.runOutCount = 0 ∧
    shows .runoutComplete (runningOut 0) (fun t => (t.tsv.state, t.tsv.cause, t.tsv.outputRun)) =
      some (.jammed, some .runoutComplete, false) ∧
    shows .runoutComplete (runningOut 1) (fun t => t.tsv.state) = some .runout := by
  (repeat' apply And.intro) <;> decide +kernel

/-- JAMMED with a stranded sheet of the statement. -/
def jammed : State := moved (runS { shA with state := .stranded }) .jammed false

theorem witness_FurtherFault :
    (faulted jammed .reg).requests.faults[0]? = some { cause := .late, sensor := .reg, tag := some 0 } ∧
    (faulted jammed .reg).tsv.state = .jammed ∧
    shows (.jam 0) (faulted { jammed with jam := { jammed.jam with further := 255 } } .reg) (fun t =>
      (t.jam.further, t.tsv.state, t.ptk.snapshot.second)) = some (255, .jammed, true) := by
  (repeat' apply And.intro) <;> decide +kernel

theorem witness_ClearJam :
    PortHolds jammed [] ∧ jammed.tsv.state = .jammed ∧ jammed.ptk.debounced.toList.all (fun b => !b) = true ∧
    shows .clearJam jammed (fun t => (t.cpt.result, t.sheet 0, (t.statement 0).map fun r =>
      (r.state, r.cause, r.inFlight), t.tsv.state)) =
      some ([0x0100], none, some (.broken, some .jam, 0), .stopped) ∧
    shows .clearJam { jammed with jam := { jammed.jam with delivered := [0] } } (fun t => (t.sheet 0,
      (t.statement 0).map fun r => r.state)) = some (none, some .opened) ∧
    shows .clearJam running (fun t => t.cpt.result) = some [0x0103] ∧
    shows .clearJam (setLevel jammed .reg true) (fun t => t.cpt.result) = some [0x010C] := by
  (repeat' apply And.intro) <;> decide +kernel

/-! ## Transport -/

/-- STOPPED with the supply warning asserted. -/
def warned : State := { s0 with lines := { s0.lines with supplyWarning := true } }

/-- STOPPED with ENCODER LOST set. -/
def lost : State := { s0 with tsv := { s0.tsv with encoderLost := true } }

theorem witness_Start :
    PortHolds s0 [] ∧ s0.tsv.state = .stopped ∧ s0.lines.supplyWarning = false ∧ s0.tsv.encoderLost = false ∧
    shows .start s0 (fun t => (t.tsv.state, t.tsv.mainRun, t.tsv.outputRun, t.tsv.startCount)) =
      some (.starting, true, true, some 0) ∧
    shows .start running (fun t => t.cpt.result) = some [0x0103] ∧
    shows .start warned (fun t => t.cpt.result) = some [0x010B] ∧
    shows .start lost (fun t => t.cpt.result) = some [0x0103] := by
  (repeat' apply And.intro) <;> decide +kernel

theorem witness_Stop :
    PortHolds running [] ∧ running.tsv.state = .running ∧
    shows .stop running (fun t => (t.tsv.state, t.tsv.cause, t.tsv.mainRun)) = some (.draining, some .stop, true) ∧
    shows .stop (moved s0 .starting true) (fun t => (t.tsv.state, t.tsv.cause, t.tsv.mainRun)) =
      some (.stopped, some .stop, false) ∧
    shows .stop s0 (fun t => t.cpt.result) = some [0x0100] ∧
    shows .stop (moved s0 .draining true) (fun t => (t.cpt.result, t.tsv.cause)) = some ([0x0100], none) ∧
    shows .stop (runningOut 1) (fun t => t.cpt.result) = some [0x0103] ∧
    shows .stop jammed (fun t => t.cpt.result) = some [0x0103] := by
  (repeat' apply And.intro) <;> decide +kernel

/-- A transport state with an open span of some counts. -/
def spanned (st : TransportState) (counts time : Nat) : State :=
  let s := moved s0 st true
  { s with tsv := { s.tsv with span := some { counts := counts, time := time } } }

theorem witness_Pulse :
    (running.tsv.mainRun = true ∨ running.tsv.outputRun = true) ∧ running.tsv.backup = false ∧
    running.tsv.span = none ∧ (s0.tsv.mainRun = false ∧ s0.tsv.outputRun = false) ∧
    shows (.encoderPulse 250000) running (fun t => (t.tsv.pathCount, t.tsv.span)) =
      some (10001, some { counts := 1, time := 0 }) ∧
    shows (.encoderPulse 250000) lost (fun t => (t.tsv.pathCount, t.tsv.pulseSince)) = some (0, true) ∧
    shows (.encoderPulse 250000) (spanned .starting 498 0) (fun t => t.tsv.span) =
      some (some { counts := 499, time := 250000 }) ∧
    shows (.encoderPulse 250000) (spanned .starting 499 124750000) (fun t => (t.tsv.rate, t.tsv.state)) =
      some (some 4000, .running) ∧
    500000000000 / (131313131 + 250000) = 3800 ∧
    shows (.encoderPulse 250000) (spanned .starting 499 131313131) (fun t => (t.tsv.rate, t.tsv.state)) =
      some (some 3800, .running) ∧
    shows (.encoderPulse 250000) (spanned .starting 499 131361000) (fun t => (t.tsv.rate, t.tsv.state)) =
      some (some 3799, .starting) := by
  (repeat' apply And.intro) <;> decide +kernel

/-- A transport state with the silence watched, the rate 4000 and an entry at REG. -/
def silent (st : TransportState) : State :=
  let s := (moved (pitched piA) st true).setList .reg [exA, { exA with closes := 10041 }]
  { s with tsv := { s.tsv with silenceWatch := true, rate := some 4000 } }

theorem witness_Silence :
    (silent .running).tsv.silenceWatch = true ∧ (silent .running).runs = true ∧ (silent .running).tsv.backup = false ∧
    shows .encoderSilence (silent .running) (fun t => (t.tsv.state, t.tsv.cause, t.tsv.backup, t.tsv.pathCount,
      (t.list .reg).map fun e => (e.opens, e.closes), t.tsq.pitches.map fun p => p.deadline)) =
      some (.draining, some .encoderLost, true, 10100, [(9780, 10101)], [19600]) ∧
    plus (silent .running).tsv.pathCount (silent .running).catchUp = 10100 ∧
    reaches 10100 10020 = true ∧ reaches 10100 10101 = false ∧
    shows .encoderSilence (silent .running) (fun t => (t.requests.faults, t.cpt.notices.getLast?)) =
      some ([{ cause := .late, sensor := .reg, tag := some 0 }],
        some (.transport .draining .encoderLost .none_)) ∧
    shows .encoderSilence ((silent .running).setSheet 0 (some { shA with trail := some (wiA .out) })) (fun t =>
      ((t.sheet 0).bind fun r => r.trail.map fun w => (w.opens, w.closes, w.widened, w.expired),
        t.requests.faults.map fun f => f.cause)) =
      some (some (9820, 9980, true, true), [.stall, .late]) ∧
    shows .encoderSilence ((silent .running).setSheet 0
        (some { shA with trail := some { wiA .out with closes := 10061 } })) (fun t =>
      (t.sheet 0).bind fun r => r.trail.map fun w => (w.closes, w.expired)) = some (some (10101, false)) ∧
    shows .encoderSilence { silent .running with
        ptk := { (silent .running).ptk with release := some { reA with closes := 10061 } } } (fun t =>
      t.ptk.release.map fun w => (w.opens, w.closes, w.expired)) = some (some (9820, 10101, false)) ∧
    shows .encoderSilence { silent .running with
        ptk := { (silent .running).ptk with release := some reA } } (fun t =>
      t.ptk.release.map fun w => w.expired) = some (some true) ∧
    shows .encoderSilence ((silent .running).setPitches [{ piA with deadline := 10500 }]) (fun t =>
      t.tsq.pitches.map fun p => (p.state, p.deadline)) = some [(.missed, 10100)] ∧
    shows .encoderSilence ((silent .running).setPitches [{ piA with deadline := 10501 }]) (fun t =>
      t.tsq.pitches.map fun p => (p.state, p.deadline)) = some [(.called, 10101)] ∧
    shows .encoderSilence ((silent .running).setPitches [{ piA with state := .ready }]) (fun t =>
      t.tsq.pitches.map fun p => (p.state, p.deadline)) = some [(.ready, 20000)] ∧
    shows .encoderSilence (silent .starting) (fun t => (t.tsv.state, t.tsv.cause, t.tsv.encoderLost)) =
      some (.stopped, some .startFailed, true) ∧
    shows .encoderSilence (silent .runout) (fun t => t.tsv.state) = some .runout ∧
    shows .encoderSilence running (fun t => t.tsv.state) = some .running ∧
    shows .backupBaseTick { running with tsv := { running.tsv with backup := true } } (fun t => t.tsv.pathCount) =
      some 10001 ∧
    shows .backupBaseTick running (fun t => t.tsv.pathCount) = some 10000 := by
  (repeat' apply And.intro) <;> decide +kernel

theorem witness_StartLimitSupplyDrain :
    (moved s0 .starting true).tsv.state = .starting ∧
    shows .startLimitExpiry (moved s0 .starting true) (fun t => (t.tsv.state, t.tsv.cause, t.cpt.notices.getLast?)) =
      some (.stopped, some .startFailed, some (.transport .stopped .startFailed .timeout)) ∧
    shows .startLimitExpiry running (fun t => t.tsv.state) = some .running ∧
    running.lines.supplyWarning = false ∧
    shows .supplyWarningAsserted running (fun t => (t.tsv.state, t.cpt.notices)) =
      some (.draining, [.reset .cold, .supply true .running, .transport .draining .supply .none_]) ∧
    shows .supplyWarningAsserted (moved s0 .starting true) (fun t => t.tsv.state) = some .stopped ∧
    shows .supplyWarningAsserted s0 (fun t => t.tsv.state) = some .stopped ∧
    warned.lines.supplyWarning = true ∧
    shows .supplyWarningCleared warned (fun t => (t.lines.supplyWarning, t.cpt.notices)) =
      some (false, [.reset .cold, .supply false .stopped]) ∧
    (∀ tag, (moved s0 .draining true).sheet tag = none) ∧
    shows .drainComplete (moved s0 .draining true) (fun t => (t.tsv.state, t.tsv.mainRun)) = some (.stopped, false) ∧
    shows .drainComplete (moved (runS shA) .draining true) (fun t => t.tsv.state) = some .draining := by
  (repeat' apply And.intro) <;> decide +kernel

/-! ## Profile -/

theorem witness_Settings :
    PortHolds (words s0 [word Leg.park.idx, 151]) [word Leg.park.idx, 151] ∧ s0.tsv.state = .stopped ∧
    (∀ tag, s0.sheet tag = none) ∧ s0.profile.relationsHold = true ∧
    shows .setLeg (words s0 [14, 151]) (fun t => (t.cpt.result, t.leg .park)) = some ([0x0100], 151) ∧
    shows .setLeg (words s0 [14, 49]) (fun t => t.cpt.result) = some [0x0102] ∧
    shows .setLeg (words s0 [14, 1000]) (fun t => (t.cpt.result, t.leg .park)) = some ([0x010D], 150) ∧
    PortHolds (words s0 [trayCode .t3, 1200, 180, 260]) [trayCode .t3, 1200, 180, 260] ∧
    shows .setTray (words s0 [2, 1199, 180, 260]) (fun t => (t.cpt.result, (t.traySettings .t3).length)) =
      some ([0x0100], 1199) ∧
    shows .setTray (words s0 [2, 1200, 180, 260]) (fun t => t.cpt.result) = some [0x010D] ∧
    shows .setTray (words s0 [2, 1200, 261, 260]) (fun t => t.cpt.result) = some [0x0102] ∧
    shows .setTray (words s0 [2, 4000, 180, 260]) (fun t => t.cpt.result) = some [0x010D] ∧
    PortHolds (words s0 [word Gate.g1.idx, 251]) [word Gate.g1.idx, 251] ∧
    shows .setGate (words s0 [1, 251]) (fun t => (t.cpt.result, t.offset .g1)) = some ([0x0100], 251) ∧
    shows .setGate (words s0 [1, 49]) (fun t => t.cpt.result) = some [0x0102] ∧
    shows .setGate (words s0 [1, 120]) (fun t => t.cpt.result) = some [0x010D] ∧
    PortHolds (words s0 [word Limit.holdPolicy.idx, 1]) [word Limit.holdPolicy.idx, 1] ∧
    shows .setLimits (words s0 [2, 1]) (fun t => (t.cpt.result, t.limit .holdPolicy)) = some ([0x0100], 1) ∧
    shows .setLimits (words s0 [2, 2]) (fun t => t.cpt.result) = some [0x0102] ∧
    shows .setLimits (words s0 [6, 500]) (fun t => t.cpt.result) = some [0x010D] ∧
    shows .setLeg (words running [14, 151]) (fun t => t.cpt.result) = some [0x0103] ∧
    shows .setTray (words (s0.setSheet 0 (some shA)) [2, 1200, 180, 260]) (fun t => t.cpt.result) = some [0x0103] := by
  (repeat' apply And.intro) <;> decide +kernel

/-- A part whose straps leave the units out. -/
def unfitted : State :=
  State.afterColdReset [] { Lines.atPowerOn with straps := { duplex := false, fourBins := false, gauge := false } }

theorem witness_SensorsCapacitiesUnits :
    PortHolds (words s0 [sensorCode .reg, Polarity.low.code]) [sensorCode .reg, Polarity.low.code] ∧
    shows .setSensor (words s0 [3, 1]) (fun t => (t.cpt.result, t.covered .reg, t.covered .xfer)) =
      some ([0x0100], true, false) ∧
    PortHolds (words s0 [binCode .b1, 100]) [binCode .b1, 100] ∧
    shows .setCapacity (words (bin1 s0 .b1 .ready 100) [0, 100]) (fun t => (t.capacity .b1, (t.bin .b1).state)) =
      some (100, .full) ∧
    shows .setCapacity (words (bin1 s0 .b1 .ready 101) [0, 100]) (fun t => t.cpt.result) = some [0x010D] ∧
    shows .setCapacity (words s0 [0, 99]) (fun t => t.cpt.result) = some [0x0102] ∧
    PortHolds (words s0 [yesNo true, yesNo false, yesNo true]) [yesNo true, yesNo false, yesNo true] ∧
    shows .setUnits (words s0 [1, 0, 1]) (fun t => (t.cpt.result, t.profile.enabled.fourBins, (t.bin .b4).role,
      (t.bin .b4).state)) = some ([0x0100], false, .off, .off) ∧
    unfitted.profile.fitted.duplex = false ∧
    shows .setUnits (words unfitted [1, 0, 0]) (fun t => t.cpt.result) = some [0x0102] ∧
    shows .setUnits (words (s0.setStatement 0 (some { stA with plex := .duplex })) [0, 1, 1]) (fun t =>
      t.cpt.result) = some [0x0103] ∧
    shows .setUnits (words (appendStacked s0 .b4 0 0) [1, 0, 1]) (fun t => t.cpt.result) = some [0x0103] := by
  (repeat' apply And.intro) <;> decide +kernel

/-! ## The port -/

/-- A port with an answer, a notice being read and a call being read. -/
def reading : State :=
  { pitched piA with cpt := { s0.cpt with
      result := [0x0200, 5], cursor := 1, noticeBuffer := [3], callBuffer := [4] } }

theorem witness_Reads :
    reading.cpt.busy = false ∧ reading.cpt.result[reading.cpt.cursor]? = some 5 ∧ s0.cpt.result[0]? = none ∧
    ({ s0.cpt with busy := true } : Port).busy = true ∧
    shows .result reading (fun t => (t.cpt.readData, t.cpt.cursor)) = some (5, 2) ∧
    shows .result s0 (fun t => t.cpt.readData) = some 0 ∧
    s0.cpt.notices = .reset .cold :: [] ∧
    shows .notice s0 (fun t => (t.cpt.readData, t.cpt.noticeBuffer, t.cpt.notices)) = some (0x020B, [0], []) ∧
    shows .notice { s0 with cpt := { s0.cpt with notices := [] } } (fun t => t.cpt.readData) = some 0 ∧
    shows .noticeData reading (fun t => (t.cpt.readData, t.cpt.noticeBuffer)) = some (3, []) ∧
    shows .noticeData s0 (fun t => t.cpt.readData) = some 0 ∧
    (reading.tsq.pitches.find? fun q => !q.read) = some piA ∧
    shows .call reading (fun t => (t.cpt.readData, t.tsq.pitches.map fun p => p.read, t.cpt.callBuffer)) =
      some (0x0C01, [true], [0, 0, 0, 0, 20000, 0, 0, 7, 0, 0, 1]) ∧
    shows .call s0 (fun t => t.cpt.readData) = some 0 ∧
    shows .callData reading (fun t => (t.cpt.readData, t.cpt.callBuffer)) = some (4, []) ∧
    shows .callData s0 (fun t => t.cpt.readData) = some 0 := by
  (repeat' apply And.intro) <;> decide +kernel

theorem witness_Writes :
    shows (.commandData 9) s0 (fun t => t.cpt.buffer) = some [9] ∧
    shows (.commandData 9) (words s0 [1, 2, 3, 4, 5, 6, 7]) (fun t => (t.cpt.buffer.length, t.cpt.overrun)) =
      some (8, false) ∧
    shows (.commandData 9) (words s0 [1, 2, 3, 4, 5, 6, 7, 8]) (fun t => (t.cpt.buffer.length, t.cpt.overrun)) =
      some (8, true) ∧
    shows (.commandData 9) { s0 with cpt := { s0.cpt with busy := true } } (fun t => t.cpt.buffer) = some [] ∧
    shows (.badCommand 0x1F) s0 (fun t => t.cpt.result) = some [0x0101] ∧
    shows .start (words s0 [1]) (fun t => (t.cpt.result, t.tsv.state)) = some ([0x0102], .stopped) ∧
    shows .clearNoticeLost { s0 with cpt := { s0.cpt with noticeLost := true } } (fun t => t.cpt.noticeLost) =
      some false ∧
    (6 : Word).toNat ≤ 6 ∧ 6 < (7 : Word).toNat ∧
    shows (.snapshotSelect 6) s0 (fun t => t.cpt.select) = some 6 ∧
    shows (.snapshotSelect 7) { s0 with cpt := { s0.cpt with select := 3 } } (fun t => t.cpt.select) = some 0 := by
  (repeat' apply And.intro) <;> decide +kernel

theorem test_status : s0.status = 0x0124 ∧ s0.attention = true ∧ s0.plainRead 0 = some 0x0124 ∧
    s0.plainRead 0x0A = none ∧ s0.cpt.notices.length ≤ 32 := by
  (repeat' apply And.intro) <;> decide +kernel

/-! ## Further forms: the resets and the statements -/

/-- The statement stacked in B1 with a range, its sheet in flight, its pages queued, and a BIN_OPENED break of another
slot waiting. -/
def settled : State :=
  let s := ((stacked.setSheet 0 (some shA)).setQueue .new [enA, { enA with slot := 1 }]).setStatement 1
    (some { stA with ident := 8, inFlight := 0 })
  (s.setBin .b1 { s.bin .b1 with
    stacking := [{ slot := 0, generation := 0 }, { slot := 1, generation := 0 }]
    spoil := [{ first := 1, last := 1, ident := 7, isOpen := true }] }).setStatement 0
      (some { stA with delivered := 1, firstPos := some 2, lastPos := some 3 })

/-- The same with an OPEN range of the other slot, whose break request still waits. -/
def opened : State :=
  settled.setBin .b1 { settled.bin .b1 with
    spoil := (settled.bin .b1).spoil ++ [{ first := 4, last := 4, ident := 8, isOpen := true }] }

/-- The same with no sheet in flight. -/
def reopened : State :=
  opened.setStatement 0 (some { stA with delivered := 1, firstPos := some 2, lastPos := some 3, inFlight := 0 })

theorem witness_WarmReset_kept :
    PortHolds settled [] ∧ settled.requests.breaks = [] ∧ settled.requests.bins = [] ∧
    (∀ g ∈ (settled.bin .b1).spoil, g.isOpen = true → settled.statement 0 = some
      { stA with delivered := 1, firstPos := some 2, lastPos := some 3 } ∧ g.ident = 7) ∧
    shows .warmReset settled (fun t => (t.adm.newQueue, (t.bin .b1).stacking, (t.bin .b1).spoil, t.requests.bins)) =
      some ([{ enA with slot := 1 }], [{ slot := 1, generation := 0 }],
        [{ first := 1, last := 3, ident := 7, isOpen := false }], []) ∧
    shows .warmReset settled (fun t => t.cpt.notices) = some
      [.reset .warm, .stmtBroken 0 7 .reset 1] ∧
    shows .warmReset ((settled.askBreak 1 0 .binOpened none).askBreak 0 0 .gauge none) (fun t =>
      ((t.statement 0).map fun r => r.cause, (t.statement 1).map fun r => r.state, (t.bin .b1).stacking,
        t.requests.breaks.map fun q => q.slot)) =
      some (some (some .reset), some .opened, [{ slot := 1, generation := 0 }], [1, 0]) ∧
    openRange (opened.bin .b1) 8 = some { first := 4, last := 4, ident := 8, isOpen := true } ∧
    shows .warmReset (opened.askBreak 1 0 .binOpened none) (fun t => ((t.statement 1).map fun r => (r.state, r.cause),
      (t.bin .b1).stacking, (t.bin .b1).spoil.map fun g => g.isOpen, t.requests.breaks.map fun q => q.slot)) =
      some (some (.opened, none), [{ slot := 1, generation := 0 }], [false, false], [1]) ∧
    shows .warmReset reopened (fun t => ((t.statement 0).map fun r => r.state, (t.bin .b1).stacking, (t.bin .b1).spoil)) =
      some (some .opened, [{ slot := 0, generation := 0 }, { slot := 1, generation := 0 }],
        [{ first := 1, last := 1, ident := 7, isOpen := false }, { first := 4, last := 4, ident := 8, isOpen := false }]) ∧
    openRange (settled.setBin .b1 { settled.bin .b1 with spoil := [] } |>.bin .b1) 7 = none ∧
    shows .warmReset (settled.setBin .b1 { settled.bin .b1 with spoil := [] }) (fun t => (t.bin .b1).spoil) =
      some [{ first := 2, last := 3, ident := 7, isOpen := false }] ∧
    shows .warmReset { s0 with profile := { s0.profile with enabled := { s0.profile.enabled with fourBins := false } } }
      (fun t => ((t.bin .b3).role, (t.bin .b4).role, t.profile.enabled.fourBins)) =
      some (.standard, .oversize, true) := by
  refine ⟨⟨by decide +kernel, by decide +kernel, by decide +kernel⟩, ?_⟩
  (repeat' apply And.intro) <;> decide +kernel

theorem witness_OpenStatement_breaks :
    (words (asked s0 0 none) [8, 0, 9, 0, 0, 0, 0]).statement 0 = none ∧
    shows .openStatement (words (asked s0 0 none) [8, 0, 9, 0, 0, 0, 0]) (fun t => (t.cpt.result, t.requests.breaks)) =
      some ([0x0200, 0], []) ∧
    shows .openStatement (words (asked s0 0 (some 0)) [8, 0, 9, 0, 0, 0, 0]) (fun t => t.requests.breaks.length) =
      some 1 := by
  (repeat' apply And.intro) <;> decide +kernel

theorem witness_Page_arguments :
    PortHolds (words runA [16, 7, 0, 3, 1, 0]) [16, 7, 0, 3, 1, 0] ∧ 15 < (16 : Word).toNat ∧
    shows .page (words runA [16, 7, 0, 3, 1, 0]) (fun t => t.cpt.result) = some [0x0102] ∧
    shows .page (words runA [0, 7, 0, 0, 1, 0]) (fun t => t.cpt.result) = some [0x0102] ∧
    shows .page (words runA [0, 7, 0, 4096, 1, 0]) (fun t => t.cpt.result) = some [0x0102] ∧
    shows .page (words runA [0, 7, 0, 3, 2, 0]) (fun t => t.cpt.result) = some [0x0102] ∧
    shows .page (words runA [0, 7, 0, 3, 1, 3]) (fun t => t.cpt.result) = some [0x0102] ∧
    shows .page (words (s0.setStatement 15 (some { stA with
        declared := none, nextPage := 4095, queued := 4094, generation := 1 })) [15, 7, 0, 4095, 0, 2]) (fun t =>
      (t.cpt.result, t.adm.restartQueue, (t.statement 15).map fun r => (r.state, r.lastSeen))) =
      some ([0x0300, 15, 4096],
        [{ slot := 15, generation := 1, page := 4095, last := true, tray := .t3, attempts := 0 }],
        some (.closed, true)) := by
  refine ⟨⟨rfl, rfl, rfl⟩, ?_⟩
  decide +kernel

/-- A broken statement whose requests still wait, with a later closing request of another slot behind them. -/
def unsettled : State :=
  let s := (broken.setQueue .new [enA, { enA with slot := 1 }]).setBin .b1 { broken.bin .b1 with
    stacking := [{ slot := 0, generation := 0 }], spoil := [{ first := 1, last := 1, ident := 7, isOpen := true }] }
  (((s.askFlush 0 0).askBin (.closing .b1 0 0 7)).askBin (.closing .b1 1 0 8)).claimCondemn
    { tag := none, slot := 0, generation := 0, cause := .broken }

theorem witness_Settle :
    PortHolds (words unsettled [0, 7, 0]) [0, 7, 0] ∧
    shows .restartStatement (words unsettled [0, 7, 0]) (fun t => (t.cpt.result, (t.bin .b1).stacking,
      (t.bin .b1).spoil.map fun g => g.isOpen, t.adm.newQueue, t.requests.bins.length, t.requests.condemns.length)) =
      some ([0x0200, 1], [], [false], [{ enA with slot := 1 }], 1, 0) ∧
    shows .discardStatement (words unsettled [0, 7, 0]) (fun t => (t.statement 0, (t.bin .b1).stacking)) =
      some (none, []) ∧
    settleStatement broken { slot := 0, generation := 0 } = broken ∧
    shows .restartStatement (words broken [16, 7, 0]) (fun t => t.cpt.result) = some [0x0102] ∧
    shows .discardStatement (words broken [16, 7, 0]) (fun t => t.cpt.result) = some [0x0102] ∧
    shows .discardStatement (words broken [1, 7, 0]) (fun t => t.cpt.result) = some [0x0104] := by
  refine ⟨⟨rfl, rfl, rfl⟩, ?_⟩
  (repeat' apply And.intro) <;> decide +kernel

theorem witness_Query_refusals :
    PortHolds (words runA [2, 0, 0]) [2, 0, 0] ∧
    shows .queryStatement (words runA [2, 0, 0]) (fun t => t.cpt.result) = some [0x0102] ∧
    shows .queryStatement (words runA [0, 16, 0]) (fun t => t.cpt.result) = some [0x0102] ∧
    shows .queryStatement (words runA [0, 15, 1]) (fun t => t.cpt.result) = some [0x0102] ∧
    shows .queryStatement (words runA [1, 8, 0]) (fun t => t.cpt.result) = some [0x0104] ∧
    shows .querySheet (words runA [48]) (fun t => t.cpt.result) = some [0x0102] ∧
    shows .findSheets (words runA [0, 0, 0]) (fun t => t.cpt.result) = some [0x0102] ∧
    shows .findSheets (words runA [0x80, 0, 0]) (fun t => t.cpt.result) = some [0x0102] ∧
    shows .findSheets (words runA [1, 2, 0]) (fun t => t.cpt.result) = some [0x0102] ∧
    shows .findSheets (words runA [1, 1, 16]) (fun t => t.cpt.result) = some [0x0102] ∧
    shows .queryQueue (words runA [2]) (fun t => t.cpt.result) = some [0x0102] ∧
    shows (.queryBin true) (words runA [5]) (fun t => t.cpt.result) = some [0x0102] ∧
    shows (.queryProfile s0.lines.straps) (words runA [7]) (fun t => t.cpt.result) = some [0x0102] ∧
    (groupWords s0 6).isSome = true := by
  refine ⟨⟨rfl, rfl, rfl⟩, ?_⟩
  (repeat' apply And.intro) <;> decide +kernel

/-! ## Further forms: hold reasons and grants -/

/-- RUNNING with the statement as given at the head of the new queue. -/
def heads (st : Statement) : State := (running.setStatement 0 (some st)).setQueue .new [enA]

/-- The statement with nothing admitted, with a bin or none. -/
def stN (b : Option Bin) (plex : Plex) : Statement := { stA with inFlight := 0, admitted := 0, bin := b, plex := plex }

/-- A duplex sheet on its front pass, bound for B1. -/
def shD : Sheet := { shA with plex := .duplex, back := some .none_ }

theorem witness_HoldReasons :
    evaluate s0 .new = .transport ∧
    evaluate ((heads (stN (some .b1) .simplex)).setSheet 47 (some { shA with state := .picking })) .new = .pickBusy ∧
    evaluate { heads (stN (some .b1) .simplex) with sheets := Vector.replicate 48 (some shA) } .new = .tag ∧
    evaluate running .new = .empty ∧ evaluate (running.setSheet 0 (some { shA with state := .parked })) .new = .loopGuard ∧
    evaluate (bin1 running .p .ready 500) .new = .purge ∧ evaluate (bin1 running .p .ready 499) .new = .empty ∧
    evaluate ((heads (stN (some .b1) .simplex)).setCondition .t1 .suspect) .new = .tray ∧
    evaluate { heads (stN (some .b1) .simplex) with lines := { running.lines with
      trayReady := Vector.ofFn fun i : Fin 3 => i ≠ 0 } } .new = .tray ∧
    evaluate (running.setQueue .new [enA]) .new = .bin ∧
    evaluate ((heads (stN (some .b1) .simplex)).setPitches (List.replicate 8 piA)) .new = .sequence ∧
    evaluate ((heads (stN (some .b1) .simplex)).setPitches (List.replicate 7 piA)) .new = .none_ ∧
    evaluate ((heads (stN (some .b1) .duplex)).setPitches (List.replicate 7 piA)) .new = .sequence ∧
    evaluate (((heads (stN (some .b1) .simplex)).setPitches (List.replicate 7 piA)).setSheet 0 (some shD)) .new
      = .sequence ∧
    evaluate ((((heads (stN (some .b1) .duplex)).setSheet 0 (some shD)).setSheet 1 (some shD)).setSheet 2
      (some { shD with back := some .imaging })) .new = .depth ∧
    evaluate (((heads (stN (some .b1) .duplex)).setSheet 0 (some shD)).setSheet 1 (some shD)) .new = .none_ ∧
    evaluate ((heads (stN (some .b1) .duplex)).setSheet 0 (some { shD with
      state := .loop, lastSensor := some .dup1, lastLead := some 9000 })) .new = .loopGuard ∧
    evaluate (heads (stN none .simplex)) .new = .none_ ∧
    evaluate { heads (stN none .simplex) with bnm := s0.bnm } .new = .bin ∧
    evaluate (bin1 (heads (stN (some .b1) .simplex)) .b1 .ready 1500) .new = .credit ∧
    evaluate ((heads (stN (some .b1) .simplex)).setSheet 0 (some shD)) .new = .order ∧
    evaluate (bin1 (heads (stN (some .b1) .simplex)) .p .ready 500) .new = .purge := by
  (repeat' apply And.intro) <;> decide +kernel

theorem witness_BinClaim :
    binFor running (stN none .simplex) = some .b1 ∧ binFor running (stN (some .b4) .simplex) = some .b4 ∧
    binFor { running with bnm := { running.bnm with pointer := .b3 } } (stN none .simplex) = some .b3 ∧
    binFor running { stN none .simplex with binClass := .oversize } = some .b4 ∧
    binFor (bin1 running .b1 .ready 1498) (stN none .simplex) = some .b2 ∧
    binFor (bin1 running .b1 .ready 1497) (stN none .simplex) = some .b1 ∧
    claimable running .standard .b1 = true ∧ claimable stacked .standard .b1 = false ∧
    claimable (stacked.setStatement 0 (some stC)) .standard .b1 = true := by
  (repeat' apply And.intro) <;> decide +kernel

theorem witness_Overflow :
    overflowRequests (bin1 (heads (stN (some .b1) .simplex)) .b1 .ready 1500) .new =
      [{ slot := 0, generation := 0, cause := .binOverflow, opening := some 0 }] ∧
    overflowRequests (reserve (bin1 (heads (stN (some .b1) .simplex)) .b1 .ready 1500) .b1) .new = [] ∧
    (bin1 (heads (stN (some .b1) .simplex)) .b1 .ready 1500).adm.suspects = [] ∧
    shows (.trayReadyChange .t3) (bin1 (heads (stN (some .b1) .simplex)) .b1 .ready 1500) (fun t =>
      (t.adm.newHold, t.adm.restartHold, t.requests.breaks.map fun q => q.cause)) =
      some (.credit, .empty, [.binOverflow]) := by
  (repeat' apply And.intro) <;> decide +kernel

/-- A claim of B1, whose list and ranges are three. -/
def claiming : State :=
  (heads (stN none .simplex)).setBin .b1 { running.bin .b1 with spoil :=
    [ { first := 1, last := 2, ident := 1, isOpen := false }, { first := 5, last := 6, ident := 2, isOpen := false },
      { first := 7, last := 8, ident := 3, isOpen := false } ] }

/-- The claim of B1 meets its door: a statement listed there before, and the statement of the grant. -/
def meeting : State :=
  (heads (stN none .simplex)).setBin .b1 { running.bin .b1 with stacking := [{ slot := 5, generation := 1 }] }

theorem witness_TrayGrant_meetsTheDoor :
    grantClaim meeting = some .b1 ∧ binFor meeting (stN none .simplex) = some .b1 ∧ evaluate meeting .new = .none_ ∧
    meeting.lines.doors[Bin.b1.idx] = false ∧ releaseClaimant meeting = none ∧ meeting.sheet 0 = none ∧
    shows (.binDoorOpened ⟨.b1, true⟩) meeting (fun t => ((t.bin .b1).state, (t.bin .b1).stacking, (t.bin .b1).reserved,
      t.requests.breaks.map fun q => (q.slot, q.cause), t.cpt.notices, t.lines.doors.toList)) =
      some (.doorOpen, [{ slot := 5, generation := 1 }, { slot := 0, generation := 0 }], 1,
        [(5, .binOpened), (0, .binOpened)], [.reset .cold, .bin .b1 .doorOpen 0], [true, false, false, false, false]) ∧
    shows (.binDoorOpened ⟨.b1, true⟩) meeting (fun t => ((t.sheet 0).map fun r => (r.state, r.target),
      (t.statement 0).bind fun r => r.bin)) = some (some (.picking, .b1), some .b1) ∧
    shows .trayGrant meeting (fun t => ((t.bin .b1).state, t.requests.breaks)) = some (.ready, []) ∧
    grantClaim stacked = none ∧
    shows (.binDoorOpened ⟨.b1, true⟩) stacked (fun t => ((t.bin .b1).state, t.requests.breaks.map fun q => q.slot)) =
      some (.doorOpen, [0]) ∧
    shows (.binDoorOpened ⟨.b1, true⟩) (setDoor meeting .b1 true) (fun t => (t.sheet 0, (t.bin .b1).stacking.length)) =
      some (none, 1) := by
  (repeat' apply And.intro) <;> decide +kernel

theorem witness_TrayGrant_claims :
    binFor claiming (stN none .simplex) = some .b1 ∧ evaluate claiming .new = .none_ ∧
    shows .trayGrant claiming (fun t => ((t.bin .b1).stacking, (t.bin .b1).state, t.bnm.pointer,
      (t.statement 0).bind fun r => r.bin)) =
      some ([{ slot := 0, generation := 0 }], .fenced, .b1, some .b1) ∧
    shows .trayGrant (heads (stN none .simplex)) (fun t => ((t.bin .b1).stacking, (t.bin .b1).state)) =
      some ([{ slot := 0, generation := 0 }], .ready) ∧
    shows .trayGrant (heads { stN (some .b1) .simplex with state := .broken, cause := some .gauge }) (fun t =>
      (t.requests.condemns, t.requests.reroutes)) =
      some ([{ tag := some 0, slot := 0, generation := 0, cause := .broken }],
        [{ tag := some 0, slot := 0, generation := 0 }]) ∧
    ({ fed .restart with adm := { (fed .restart).adm with newQueue := [enA], starvation := 4 } }).adm.starvation = 4 ∧
    shows .trayGrant { fed .restart with adm := { (fed .restart).adm with newQueue := [enA], starvation := 4 } } (fun t =>
      (t.adm.newQueue, t.adm.restartQueue, t.adm.starvation)) = some ([], [enA], 0) ∧
    shows .trayGrant { fed .restart with adm := { (fed .restart).adm with newQueue := [enA], starvation := 3 } } (fun t =>
      (t.adm.newQueue, t.adm.restartQueue, t.adm.starvation)) = some ([enA], [], 4) ∧
    (appendStacked (bin1 runA .b1 .doorOpen 0) .b1 0 0).requests.breaks =
      [{ slot := 0, generation := 0, cause := .binOpened, opening := some 0 }] := by
  (repeat' apply And.intro) <;> decide +kernel

theorem witness_PickWindowExpiry_broken :
    shows (.pickWindowExpiry .t1) (((picking true).setList .f1 [exA]).setStatement 0 (some stB)) (fun t =>
      (t.adm.newQueue, t.requests.bins, (t.statement 0).map fun r => (r.state, r.admitted, r.inFlight))) =
      some ([], [.closing .b1 0 0 7], some (.broken, 0, 0)) ∧
    shows (.pickWindowExpiry .t1) (((picking true).setList .f1 [exA]).setStatement 0 (some { stB with inFlight := 2 }))
      (fun t => t.requests.bins) = some [] := by
  (repeat' apply And.intro) <;> decide +kernel

/-! ## Further forms: run-out and reissued tags -/

/-- RUNOUT with record 0 as a run-out record of the statement. -/
def runout (r : Sheet) : State :=
  let s := moved (runS { r with runOut := true }) .runout true
  { s with tsv := { s.tsv with mainRun := false }, jam := { s.jam with runOutCount := 1 } }

theorem witness_RunoutEdges :
    LeadTaken (led (runout shO) .b2) .b2 9900 exA [] ∧ (led (runout shO) .b2).tsv.state = .runout ∧
    shows (.debounceComplete ⟨.b2, false⟩) (led (runout shO) .b2) (fun t => (t.list .b2, (t.sheet 0).map fun r =>
      (r.state, r.lastSensor, r.lastLead))) = some ([], some (.output, some .b2, some 9900)) ∧
    shows (.debounceComplete ⟨.b2, false⟩) (bin1 (led (runout shO) .b2) .b2 .doorOpen 0) (fun t => t.requests.faults) =
      some [{ cause := .binOpen, sensor := .b2, tag := some 0 }] ∧
    ((led (runout shO) .b2).setSheet 0 (some { shO with state := .stranded })).watched .b2 = [] ∧
    shows (.debounceComplete ⟨.b2, false⟩) ((led (runout shO) .b2).setSheet 0 (some { shO with state := .stranded })) (fun t =>
      t.requests.faults) = some [{ cause := .unexpected, sensor := .b2, tag := none }] ∧
    shows (.debounceComplete ⟨.reg, false⟩) (edge (runout shO) .reg false) (fun t => (t.covered .reg, t.requests.faults)) =
      some (false, []) ∧
    (runout shO).tracks 0 = true ∧ (runout shO).tracks 1 = false ∧
    shows (.leadWindowExpiry .b2) ((runout shO).setList .b2 [exA]) (fun t => (t.list .b2, t.requests.faults)) =
      some ([], [{ cause := .late, sensor := .b2, tag := some 0 }]) ∧
    shows (.trailWindowExpiry 0) (runout { shO with trail := some (wiA .b2) }) (fun t => t.requests.faults) =
      some [{ cause := .stall, sensor := .b2, tag := some 0 }] := by
  refine ⟨?_, ?_⟩
  · apply leadTaken_led <;> decide +kernel
  · (repeat' apply And.intro) <;> decide +kernel

theorem witness_RunoutDelivery :
    TrailTaken ((edge (runout { shO with lastSensor := some .b2, trail := some (wiA .b2) }) .b2 false)) .b2 9900 0
      { shO with lastSensor := some .b2, trail := some (wiA .b2), runOut := true } (wiA .b2) ∧
    shows (.debounceComplete ⟨.b2, false⟩) (edge (runout { shO with lastSensor := some .b2, trail := some (wiA .b2) }) .b2 false)
      (fun t => (t.sheet 0, (t.bin .b2).fill, t.jam.runOutCount)) = some (none, 1, 0) ∧
    TrailTaken ((edge (runout { shO with lastSensor := some .bp, trail := some (wiA .bp) }) .bp false)) .bp 9900 0
      { shO with lastSensor := some .bp, trail := some (wiA .bp), runOut := true } (wiA .bp) ∧
    shows (.debounceComplete ⟨.bp, false⟩) (edge (runout { shO with lastSensor := some .bp, trail := some (wiA .bp) }) .bp false)
      (fun t => (t.sheet 0, (t.bin .p).fill, t.jam.runOutCount)) = some (none, 1, 0) := by
  refine ⟨?_, by decide +kernel, ?_, by decide +kernel⟩
  · apply trailTaken_trailed <;> decide +kernel
  · apply trailTaken_trailed <;> decide +kernel

theorem witness_RunoutGates :
    (runout shO).gateTakes 0 = true ∧ (runout shO).gateTakes 1 = false ∧
    ((gated (runout shO) .g2 none [{ reqA .throw 9000 with tag := 1 }, reqA .throw 10000]).gate .g2).waiting.find?
      (fun q => (runout shO).gateTakes q.tag) = some (reqA .throw 10000) ∧
    shows (.gateThrow .g2) (gated (runout shO) .g2 none [{ reqA .throw 9000 with tag := 1 }, reqA .throw 10000]) (fun t =>
      ((t.gate .g2).hold.map fun h => h.tag, (t.gate .g2).waiting.length, (t.sheet 0).map fun r => r.divert)) =
      some (some 0, 1, some true) ∧
    shows (.gateThrow .g2) (gated (runout shO) .g2 none [{ reqA .throw 9000 with tag := 1 }]) (fun t =>
      (t.gate .g2).waiting.length) = some 1 ∧
    shows (.gatePassage .g2) (gated (runout shO) .g2 none [reqA .passage 10000]) (fun t => (t.gate .g2).waiting) =
      some [] ∧
    shows (.gatePassage .g2) (gated (runout shO) .g2 none [reqA .throw 10000]) (fun t => (t.gate .g2).waiting.length) =
      some 1 ∧
    shows (.gateThrow .g2) (gated (runout shO) .g2 none [reqA .passage 10000]) (fun t => (t.gate .g2).waiting.length) =
      some 1 ∧
    shows (.gateClearance .g2) (gated (runout shO) .g2 (some { tag := 0, clearance := 10000 }) []) (fun t =>
      (t.gate .g2).hold) = some none ∧
    shows (.gateClearance .d) (gated (runout shO) .d (some { tag := 0, clearance := 10000 }) []) (fun t =>
      (t.gate .d).hold.isSome) = some true := by
  (repeat' apply And.intro) <;> decide +kernel

/-- A sheet of another pair under the same tag. -/
def shX : Sheet := { shA with slot := 1, state := .output }

theorem witness_ReissuedTags :
    LeadTaken (led (runS shX) .b1) .b1 9900 exA [] ∧ shX.owner ≠ exA.owner ∧
    shows (.debounceComplete ⟨.b1, false⟩) (led (runS shX) .b1) (fun t => (t.sheet 0, t.list .b1)) = some (some shX, []) ∧
    shows (.gateThrow .g1) (gated (runS shX) .g1 none [reqA .throw 10000]) (fun t => ((t.gate .g1).hold,
      (t.gate .g1).waiting, (t.sheet 0).map fun r => r.divert)) = some (none, [], some false) ∧
    shows .park ((looping 10000).setSheet 0 (some { shX with state := .loop })) (fun t =>
      (t.ptk.park, (t.sheet 0).map fun r => r.state)) = some (none, some .loop) ∧
    shows (.gaugeReading 271 false) ((gauging [271, 271, 271] 0).setSheet 0 (some { shX with state := .main })) (fun t =>
      ((t.sheet 0).bind fun r => r.gauge, t.requests.condemns.map fun c => c.slot)) = some (none, [0]) ∧
    shows (.gaugeReading 271 false) ((gauging [271, 271, 271] 0).setSheet 0 (some shO)) (fun t =>
      ((t.sheet 0).bind fun r => r.gauge, t.ptk.verdicts.toList)) = some (none, [1, 0, 0]) ∧
    (retire (gauging [271] 0) 0).ptk.burst = none ∧ (retire (gauging [271] 0) 1).ptk.burst.isSome = true := by
  refine ⟨?_, ?_⟩
  · apply leadTaken_led <;> decide +kernel
  · (repeat' apply And.intro) <;> decide +kernel

theorem witness_Trails_further :
    shows (.debounceComplete ⟨.reg, false⟩) (trailed { shA with
        state := .stranded, lastSensor := some .reg, trail := some (wiA .reg) } .reg)
      (fun t => (t.sheet 0).bind fun r => r.trail.map fun w => w.sensor) = some (some .reg) ∧
    shows (.debounceComplete ⟨.reg, false⟩) (trailed { shA with trail := some { wiA .reg with closes := 9899, expired := true } }
        .reg) (fun t => (t.covered .reg, t.requests.faults)) = some (false, []) ∧
    shows (.debounceComplete ⟨.dup2, false⟩)
      ({ edge runA .dup2 false with
        ptk := { (edge runA .dup2 false).ptk with release := some { reA with closes := 9899 } } })
      (fun t => (t.ptk.release.map fun w => w.expired, t.requests.faults.map fun f => f.cause)) =
      some (some true, [.stall]) ∧
    shows (.debounceComplete ⟨.dup2, false⟩)
      ({ edge runA .dup2 false with
        ptk := { (edge runA .dup2 false).ptk with release := some { reA with closes := 9899, expired := true } } })
      (fun t => t.requests.faults) = some [] ∧
    shows (.debounceComplete ⟨.dup2, false⟩)
      ({ edge runA .dup2 false with
        ptk := { (edge runA .dup2 false).ptk with release := some { reA with opens := 9901 } } })
      (fun t => t.requests.faults.map fun f => f.cause) = some [.short] := by
  (repeat' apply And.intro) <;> decide +kernel

theorem witness_Reroute_gates :
    Gate.g2 ∈ gatesBeyond .g1 ∧
    shows .reroute (rerouting (gated (gated (runS { shO with target := .b1, lastLead := some 9000 }) .g1 none
        [reqA .throw 10000]) .g2 none [{ reqA .throw 1 with tag := 1 }, { reqA .throw 2 with tag := 2 }]) (some 0))
      (fun t => ((t.gate .g2).waiting.length, (t.gate .g3).waiting.map fun q => q.kind, t.requests.faults)) =
      some (2, [.passage], [{ cause := .gateConflict, sensor := .out, tag := some 0 }]) ∧
    shows .reroute (rerouting (((runS { shO with target := .b1, lastLead := some 9000 }).setList .b1
        [{ exA with widened := true }])) (some 0)) (fun t => (t.list .bp).map fun e => (e.opens, e.closes, e.widened)) =
      some [(10980, 11220, true)] ∧
    shows .reroute (rerouting (((runS { shO with target := .b1, lastLead := some 9000 }).setList .b1 [exA]).setList .bp
        (List.replicate 4 exA)) (some 0)) (fun t => ((t.list .bp).length, t.list .b1, t.requests.faults)) =
      some (4, [], [{ cause := .trackFull, sensor := .bp, tag := some 0 }]) := by
  (repeat' apply And.intro) <;> decide +kernel

theorem witness_Writes_counts :
    argWords .page = some 6 ∧ argWords (.queryBin true) = some 1 ∧ argWords (.jam 0) = none ∧
    shows .page (words runA [0, 7, 0, 3, 1]) (fun t => (t.cpt.result, t.cpt.buffer)) = some ([0x0102], []) ∧
    shows .page { words runA [0, 7, 0, 3, 1, 0] with cpt := { (words runA [0, 7, 0, 3, 1, 0]).cpt with overrun := true } }
      (fun t => (t.cpt.result, t.cpt.overrun)) = some ([0x0102], false) ∧
    shows .page { words runA [0, 7, 0, 3, 1, 0] with cpt := { (words runA [0, 7, 0, 3, 1, 0]).cpt with busy := true } }
      (fun t => t.cpt.buffer.length) = some 6 := by
  (repeat' apply And.intro) <;> decide +kernel

/-! ## Retirement claims taken after the next command (log 41) -/

/-- The retirement claim of the delivered sheet waits. -/
def delivered (s : State) (r : Sheet) : State :=
  let s := s.setSheet 0 (some { r with state := .output, lastSensor := some .b1 })
  { s with requests := { s.requests with retires := [{ tag := 0, owner := { slot := 0, generation := 0 } }] } }

theorem witness_DeliveryClaimWaits :
    shows (.debounceComplete ⟨.b1, true⟩) (arriving .b1 stC shA) (fun t => ((t.sheet 0).map fun r => (r.state, r.trail),
      t.requests.retires, t.statement 0, (t.bin .b1).fill)) =
      some (some (.output, none), [{ tag := 0, owner := { slot := 0, generation := 0 } }], none, 1) ∧
    shows (.debounceComplete ⟨.bp, true⟩) (arriving .p stA shA) (fun t => ((t.sheet 0).map fun r => r.state,
      t.requests.retires.length, (t.bin .p).fill)) = some (some .output, 1, 1) ∧
    shows .queryTransport (delivered runA shA) (fun t => (t.sheet 0, t.requests.retires)) = some (none, []) := by
  (repeat' apply And.intro) <;> decide +kernel

theorem witness_DeliveryClaimMeetsTheStrand :
    (faulted (delivered runA shA) .out).requests.retires = [{ tag := 0, owner := { slot := 0, generation := 0 } }] ∧
    shows (.jam 0) (faulted (delivered runA shA) .out) (fun t => ((t.sheet 0).map fun r => r.state, t.jam.delivered,
      t.requests.retires)) = some (some .stranded, [0], []) ∧
    shows (.jam 0) (faulted (delivered runA shA) .reg) (fun t => (t.sheet 0, t.jam.delivered, t.jam.runOutCount,
      t.tsv.state)) = some (none, [], 0, .runout) ∧
    shows (.jam 0) (faulted (delivered (runningOut 1) { shO with runOut := true }) .b2) (fun t =>
      ((t.sheet 0).map fun r => (r.state, r.runOut), t.jam.delivered, t.jam.runOutCount, t.tsv.cause)) =
      some (some (.stranded, false), [0], 0, some .secondFault) ∧
    shows .warmReset (delivered runA shA) (fun t => (t.sheet 0, t.requests.retires)) = some (none, []) := by
  (repeat' apply And.intro) <;> decide +kernel

/-! ## Slot timing, the snapshot at a declaration, codes outside their lists, and the plain reads -/

/-- A previous grant predicted at REG for count 20000, bound for B1. -/
def granted (s : State) (plex : Plex) : State :=
  { s with adm := { s.adm with
      previous := some { tag := 5, predicted := 20000, length := 1118, target := .b1, plex := plex } } }

theorem witness_SlotTiming :
    nextSlotCount (granted running .simplex) .b1 .simplex = some 21318 ∧
    nextSlotCount (granted running .simplex) .b2 .simplex = some 21618 ∧
    nextSlotCount (granted running .duplex) .b1 .simplex = some 21618 ∧
    launchCount (granted running .simplex) .t1 .b1 .simplex = 19618 ∧
    launchCount { granted running .simplex with tsv := { running.tsv with pathCount := 19700 } } .t1 .b1 .simplex = 19700 ∧
    launchCount running .t3 .b1 .simplex = 10000 ∧ predictedReg running .t3 10000 = 12300 ∧
    releaseDue (granted parked .duplex) shA = false ∧
    releaseDue { granted parked .duplex with tsv := { parked.tsv with pathCount := 20718 } } shA = true := by
  (repeat' apply And.intro) <;> decide +kernel

theorem witness_MainFault_latch :
    shows (.jam 0) (faulted (runS shO) .reg) (fun t => (t.ptk.snapshot.locked, t.ptk.snapshot.sensor,
      t.ptk.snapshot.count)) = some (true, .reg, 10000) ∧
    shows (.jam 0) (faulted { runS shO with
        gsc := { (runS shO).gsc with lines := Vector.replicate 5 true }
        profile := { (runS shO).profile with limits := (runS shO).profile.limits.set Limit.holdPolicy.idx 1 } } .reg)
      (fun t => t.gsc.lines.toList) = some [false, true, true, true, true] := by
  (repeat' apply And.intro) <;> decide +kernel

theorem witness_CodesOutsideTheirLists :
    shows .setLeg (words s0 [15, 151]) (fun t => t.cpt.result) = some [0x0102] ∧
    shows .setTray (words s0 [3, 1118, 180, 260]) (fun t => t.cpt.result) = some [0x0102] ∧
    shows .setGate (words s0 [5, 250]) (fun t => t.cpt.result) = some [0x0102] ∧
    shows .setLimits (words s0 [15, 0]) (fun t => t.cpt.result) = some [0x0102] ∧
    shows .setSensor (words s0 [14, 0]) (fun t => t.cpt.result) = some [0x0102] ∧
    shows .setSensor (words s0 [3, 2]) (fun t => t.cpt.result) = some [0x0102] ∧
    shows .setCapacity (words s0 [5, 100]) (fun t => t.cpt.result) = some [0x0102] ∧
    shows .setUnits (words s0 [1, 2, 1]) (fun t => t.cpt.result) = some [0x0102] := by
  (repeat' apply And.intro) <;> decide +kernel

/-- The four-bin unit fitted and turned off, with the door of B4 open. -/
def unitsOff : State :=
  setDoor (writeUnits s0 { duplex := true, fourBins := false, gauge := true }) .b4 true

theorem witness_UnitsOnAndCapacityNotice :
    (unitsOff.bin .b3).role = .off ∧ unitsOff.profile.enabled.fourBins = false ∧
    shows .setUnits (words unitsOff [1, 1, 1]) (fun t => ((t.bin .b3).role, (t.bin .b3).state, (t.bin .b4).role,
      (t.bin .b4).state)) = some (.standard, .check, .oversize, .doorOpen) ∧
    shows .setCapacity (words (bin1 s0 .b1 .ready 100) [0, 100]) (fun t => t.cpt.notices) =
      some [.reset .cold, .bin .b1 .full 100] := by
  (repeat' apply And.intro) <;> decide +kernel

/-- A snapshot of a jam, shown by the port at word `n`. -/
def snapped (n : Nat) : State :=
  { s0 with
    ptk := { s0.ptk with snapshot :=
      { levels := (Vector.replicate 14 false).set 3 true
        count := 0x00010002
        cause := some .early
        sensor := .reg
        tag := some 4
        second := false
        locked := true } }
    cpt := { s0.cpt with select := n } }

theorem witness_PlainReads :
    [0, 1, 2, 3, 4, 5, 6].map (fun n => (snapped n).plainRead 0x12) =
      [some 8, some 2, some 1, some JamCause.early.code, some 3, some 4, some 13] ∧
    (snapped 4).plainRead 0x10 = some 4 ∧ s0.plainRead 0x02 = some 0 ∧ s0.plainRead 0x1E = some 0 ∧
    s0.plainRead 0x06 = none ∧
    (moveJog running .b1 { slot := 0, generation := 0 }).jogLine .b1 = true ∧ running.jogLine .b1 = false ∧
    (setRole (moveJog running .b1 { slot := 0, generation := 0 }) .b1 .off).jogLine .b1 = false := by
  (repeat' apply And.intro) <;> decide +kernel

/-- Two sheets of one statement past OUT, each with its throw and its bin entry. -/
def paired : State :=
  let r : Sheet := { shO with target := .b1, lastLead := some 9000 }
  (gated (((runS r).setSheet 1 (some { r with target := .b2 })).setList .b1 [exA]) .g1 none [reqA .throw 10000]).setGate .g2
    { hold := none, waiting := [{ reqA .throw 10100 with tag := 1 }] }

theorem witness_Reroute_pair :
    shows .reroute (rerouting (reserve (reserve paired .b1) .b2) none) (fun t => ((t.sheet 0).map fun r => r.target,
      (t.sheet 1).map fun r => r.target, (t.bin .b1).reserved, (t.bin .b2).reserved, (t.bin .p).reserved)) =
      some (some .p, some .p, 0, 0, 2) ∧
    shows .reroute (rerouting paired none) (fun t => ((t.gate .g1).waiting.map fun q => q.kind,
      (t.gate .g2).waiting.map fun q => (q.tag, q.kind), (t.gate .g3).waiting.length, t.list .b1,
      (t.list .bp).map fun e => e.tag)) =
      some ([.passage], [(0, .passage), (1, .passage)], 2, [], [0]) := by
  (repeat' apply And.intro) <;> decide +kernel

/-! ## Invariants -/

/-- A step of each invariant begins in a state that has it: the part with a command waiting, after power-on. -/
theorem witness_Invariants :
    RunLinesFollow { s0 with pending := [.start] } ∧ StartCountFollows { s0 with pending := [.start] } ∧
    GenerationsLegal { s0 with pending := [.start] } ∧ OneParkedOnePicking { s0 with pending := [.start] } ∧
    (∃ t, step { s0 with pending := [.start] } = .next t) := by
  have none_ : ∀ t, s0.sheet t = none := by decide +kernel
  have free : ∀ slot, s0.statement slot = none := by decide +kernel
  refine ⟨⟨rfl, rfl⟩, ?_, ?_, ⟨?_, ?_⟩, ⟨_, rfl⟩⟩
  · show (none : Option Count).isSome = true ↔ TransportState.stopped = .starting
    decide
  · intro slot r h
    have h' : s0.statement slot = some r := h
    rw [free slot] at h'
    cases h'
  · intro t u r q h
    have h' : s0.sheet t = some r := h
    rw [none_ t] at h'
    cases h'
  · intro t u r q h
    have h' : s0.sheet t = some r := h
    rw [none_ t] at h'
    cases h'

theorem witness_Bounds : Bounded { s0 with pending := [.start] } where
  buffer := by decide
  notices := by decide
  select := by decide
  queues := by intro q; cases q <;> decide
  lists := by
    intro x
    have h : ∀ i : Fin 14, (s0.ptk.lists[i]).length ≤ 4 := by decide +kernel
    exact h x.idx
  waiting := by
    intro g
    have h : ∀ i : Fin 5, (s0.gsc.records[i]).waiting.length ≤ 2 := by decide +kernel
    exact h g.idx
  stacking := by
    intro b
    have h : ∀ i : Fin 5, (s0.bnm.records[i]).stacking.length ≤ 4 := by decide +kernel
    exact h b.idx
  verdicts := by
    intro t
    have h : ∀ i : Fin 3, s0.ptk.verdicts[i] ≤ 2 := by decide +kernel
    exact h t.idx
  further := by decide
  starvation := by decide

/-- The room of the Transfer Sequence before a release grant of the one parked sheet. -/
theorem witness_SequenceFits :
    SequenceFits { parked with pending := [.releaseGrant] } ∧
    ParkedAwaitBack { parked with pending := [.releaseGrant] } ∧
    (∃ t, step { parked with pending := [.releaseGrant] } = .next t) ∧
    shows .releaseGrant parked (fun t => (t.tsq.pitches.length, (t.tagsWhere Sheet.backPending).length)) =
      some (1, 0) := by
  refine ⟨?_, ?_, ⟨_, rfl⟩, by decide +kernel⟩
  · show parked.tsq.pitches.length + (parked.tagsWhere Sheet.backPending).length ≤ 8
    decide +kernel
  · have h : ∀ t, (parked.sheet t).all fun r => r.state != .parked || r.backPending := by decide +kernel
    intro t r hr hp
    have hr' : parked.sheet t = some r := hr
    have := h t
    rw [hr'] at this
    simpa [hp] using this

end Sys2Proof.Tests
end

section
/-! The flush of the feed queues (R46): the oldest waiting request is taken, and every entry of its pair leaves both
queues. -/

namespace Sys2Proof.Machine

/-- A flush filters each queue by one predicate, the entry is not of the pair: that each entry of the pair leaves and that
the others keep their order are both facts of `List.filter`. -/
theorem takeFlush_eq (s : State) (o : Owner) :
    takeFlush s o = { s with adm := { s.adm with
      newQueue := s.adm.newQueue.filter fun e => decide ¬(e.slot = o.slot ∧ e.generation = o.generation)
      restartQueue := s.adm.restartQueue.filter fun e =>
        decide ¬(e.slot = o.slot ∧ e.generation = o.generation) } } := by
  simp only [takeFlush, decide_not, Bool.decide_and]

/-- Of the waiting flush requests the oldest is taken, and it alone leaves the list. -/
theorem flushOldest_cons {s : State} {o : Owner} {rest : List Owner} (h : s.requests.flushes = o :: rest) :
    flushOldest s = takeFlush { s with requests := { s.requests with flushes := rest } } o := by
  simp only [flushOldest, h]

/-- The row of the flush takes the oldest request and ends as every step does. -/
theorem exec_flush (s : State) : exec .flush s = finish s (flushOldest s) := rfl

/-- Settles O16: the step's own effect is the oldest request taken (`flushOldest_cons`), which filters both queues by its
pair (`takeFlush_eq`). -/
theorem flushRemovesThePair : Obligations.FlushRemovesThePair := by
  intro s o rest hflushes
  apply runs_of_finish
  rw [exec_flush, flushOldest_cons hflushes, takeFlush_eq]

end Sys2Proof.Machine
end

section
/-! The answer SIDE READY to a side call (R74): the argument checks, the pitch that the answer names, and the state it is
found in. -/

namespace Sys2Proof.Machine

/-! ## The arguments of a side call -/

theorem argTag_eq_none {w : Word} (h : 47 < w.toNat) : argTag w = none :=
  dif_neg (by omega)

theorem argSide_eq_none {w : Word} (h : 1 < w.toNat) : argSide w = none := by
  have h0 : w ≠ 0 := by rintro rfl; contradiction
  have h1 : w ≠ 1 := by rintro rfl; contradiction
  simp only [argSide, if_neg h0, if_neg h1]

/-! ## The pitch that an answer names -/

theorem calledPitch_eq_none {s : State} {call : Word} {tag : Tag} {side : Side} :
    s.calledPitch call tag side = none ↔ ∀ p ∈ s.tsq.pitches, ¬(p.call = call ∧ p.tag = tag ∧ p.side = side) := by
  simp [State.calledPitch, List.find?_eq_none]

theorem calledPitch_names {s : State} {call : Word} {tag : Tag} {side : Side} {p : Pitch}
    (h : s.calledPitch call tag side = some p) : p.call = call ∧ p.tag = tag ∧ p.side = side := by
  simpa [and_assoc] using List.find?_some h

theorem late_iff (p : Pitch) : p.late = true ↔ p.state = .missed ∧ p.reason = some .deadline := by
  simp [Pitch.late]

/-! ## The checks of SIDE READY, in order -/

/-- Check 1: a tag or a side outside its range ends the command before any pitch is looked for. -/
theorem takeSideReady_outOfRange {call tw sw : Word} (s : State) (h : 47 < tw.toNat ∨ 1 < sw.toNat) :
    takeSideReady [call, tw, sw] s = s.refuse .badArgument := by
  rcases h with ht | hs
  · simp only [takeSideReady, argTag_eq_none ht]
  · cases ht : argTag tw <;> simp only [takeSideReady, ht, argSide_eq_none hs]

/-- Check 2: no pitch has the call number, the tag and the side. -/
theorem takeSideReady_unnamed {s : State} {call : Word} {tag : Tag} {side : Side}
    (h : s.calledPitch call tag side = none) :
    takeSideReady [call, tagCode tag, side.code] s = s.refuse .unknown := by
  simp only [takeSideReady, argTag_code, argSide_code, h]

/-- Checks 3 and 4 on the pitch named, and the effect where both pass. -/
theorem takeSideReady_named {s : State} {call : Word} {tag : Tag} {side : Side} {p : Pitch}
    (h : s.calledPitch call tag side = some p) :
    takeSideReady [call, tagCode tag, side.code] s =
      if p.late then s.refuse .late
      else if p.state ≠ .called then s.refuse .unknown
      else (readyPitch s p, (.ok, [])) := by
  simp only [takeSideReady, argTag_code, argSide_code, h]

/-- Check 3: the pitch named missed its deadline. -/
theorem takeSideReady_late {s : State} {call : Word} {tag : Tag} {side : Side} {p : Pitch}
    (h : s.calledPitch call tag side = some p) (hlate : p.late = true) :
    takeSideReady [call, tagCode tag, side.code] s = s.refuse .late := by
  rw [takeSideReady_named h, if_pos hlate]

/-- Check 4: the pitch named is MISSED for another reason, READY or IMAGING. -/
theorem takeSideReady_notCalled {s : State} {call : Word} {tag : Tag} {side : Side} {p : Pitch}
    (h : s.calledPitch call tag side = some p) (hlate : ¬ p.late = true) (hstate : p.state ≠ .called) :
    takeSideReady [call, tagCode tag, side.code] s = s.refuse .unknown := by
  rw [takeSideReady_named h, if_neg hlate, if_pos hstate]

/-- The pitch named becomes READY under the tag and the side that named it. -/
theorem readyPitch_named {s : State} {call : Word} {tag : Tag} {side : Side} {p : Pitch}
    (h : s.calledPitch call tag side = some p) :
    readyPitch s p = claimSide (s.updatePitch tag fun q => { q with state := .ready })
      tag p.slot p.generation side .ready := by
  obtain ⟨-, htag, hside⟩ := calledPitch_names h
  rw [readyPitch, htag, hside]

/-- A pitch still CALLED passes every check: the effect is `readyPitch`, answered OK. -/
theorem takeSideReady_called {s : State} {call : Word} {tag : Tag} {side : Side} {p : Pitch}
    (h : s.calledPitch call tag side = some p) (hcalled : p.state = .called) :
    takeSideReady [call, tagCode tag, side.code] s = (readyPitch s p, (.ok, [])) := by
  have hlate : ¬ p.late = true := by simp [late_iff, hcalled]
  rw [takeSideReady_named h, if_neg hlate, if_neg (fun hne => hne hcalled)]

theorem exec_sideReady (s : State) : exec .sideReady s = finish s (s.command 3 takeSideReady) := rfl

/-- What the TSQ makes of the three words is what the command answers and leaves. -/
theorem answers_sideReady {s u : State} {call tw sw : Word} {code : ResultCode} {values : List Word}
    (h : PortHolds s [call, tw, sw]) (ht : takeSideReady [call, tw, sw] s = (u, (code, values))) :
    Answers .sideReady s u code values :=
  answers_of_take takeSideReady (exec_sideReady s) h rfl ht

/-- Settles O18: each clause is one of the checks of R74 (`takeSideReady_outOfRange`, `_unnamed`, `_late`, `_notCalled`),
the last the effect of a pitch that passes them all. -/
theorem sideReadyTakesACalledPitch : Obligations.SideReadyTakesACalledPitch := by
  refine ⟨fun s call tw sw hport hrange => answers_sideReady hport (takeSideReady_outOfRange s hrange),
    fun s call tag side hport => ⟨fun hnone => ?unnamed, fun p hp => ⟨?late, ?missed, ?answered, ?called⟩⟩⟩
  case unnamed =>
    exact answers_sideReady hport (takeSideReady_unnamed (calledPitch_eq_none.mpr hnone))
  case late =>
    intro hmissed hdeadline
    exact answers_sideReady hport (takeSideReady_late hp ((late_iff p).mpr ⟨hmissed, hdeadline⟩))
  case missed =>
    intro hmissed hreason
    exact answers_sideReady hport
      (takeSideReady_notCalled hp (by simp [late_iff, hreason]) (by simp [hmissed]))
  case answered =>
    intro hstate
    have hlate : ¬ p.late = true := by rcases hstate with h | h <;> simp [late_iff, h]
    have hcalled : p.state ≠ .called := by rcases hstate with h | h <;> simp [h]
    exact answers_sideReady hport (takeSideReady_notCalled hp hlate hcalled)
  case called =>
    intro hcalled
    have htake := takeSideReady_called hp hcalled
    rw [readyPitch_named hp] at htake
    exact answers_sideReady hport htake

end Sys2Proof.Machine
end

section
/-! CALIBRATE ZERO (R104): the quiet path, the three checks in order and the new zero offset. READ SNAPSHOT (R110): the
words and the unlock. -/

namespace Sys2Proof.Machine

/-! ## The quiet path -/

/-- No record counts as live exactly where every tag is free (R21). -/
theorem live_eq_zero_iff (s : State) : s.live = 0 ↔ ∀ tag, s.sheet tag = none := by
  simp [State.live, State.tagsWhere, tags, List.filter_eq_nil_iff]

theorem quiet_iff (s : State) : s.quiet = true ↔ s.tsv.state = .stopped ∧ ∀ tag, s.sheet tag = none := by
  simp only [State.quiet, Bool.and_eq_true, decide_eq_true_eq, live_eq_zero_iff]

theorem not_quiet_iff (s : State) : ¬ s.quiet = true ↔ s.tsv.state ≠ .stopped ∨ ∃ tag, s.sheet tag ≠ none := by
  rw [quiet_iff, Classical.not_and_iff_not_or_not, Classical.not_forall]

/-! ## The checks of CALIBRATE ZERO, in order -/

section Checks
variable {s : State} (r1 r2 r3 r4 : BitVec 10) (ws : List Word)

/-- Check 1: the transport moves, or a sheet record is live. -/
theorem takeCalibrate_notQuiet (h : ¬ s.quiet = true) : takeCalibrate r1 r2 r3 r4 ws s = s.refuse .state := by
  simp only [takeCalibrate, h, Bool.not_false, if_true]

/-- Check 2: the gauge unit is not enabled. -/
theorem takeCalibrate_noGauge (hquiet : s.quiet = true) (hgauge : s.profile.enabled.gauge = false) :
    takeCalibrate r1 r2 r3 r4 ws s = s.refuse .state := by
  simp [takeCalibrate, hquiet, hgauge]

/-- Check 3: sensor REG is COVERED. -/
theorem takeCalibrate_covered (hquiet : s.quiet = true) (hgauge : s.profile.enabled.gauge = true)
    (hreg : s.covered .reg = true) : takeCalibrate r1 r2 r3 r4 ws s = s.refuse .covered := by
  simp [takeCalibrate, hquiet, hgauge, hreg]

/-- The state that an accepted CALIBRATE ZERO leaves: the mean of the readings, rounded down, as zero offset, and the last
reading on the gauge line (log 6). -/
def calibrated (s : State) (r1 r2 r3 r4 : BitVec 10) : State :=
  { s with
    ptk := { s.ptk with zeroOffset := (r1.toNat + r2.toNat + r3.toNat + r4.toNat) / 4 }
    lines := { s.lines with gauge := r4 } }

/-- Every check passes: the four readings and the new offset are answered. -/
theorem takeCalibrate_accepted (hquiet : s.quiet = true) (hgauge : s.profile.enabled.gauge = true)
    (hreg : s.covered .reg = false) :
    takeCalibrate r1 r2 r3 r4 ws s = (calibrated s r1 r2 r3 r4,
      (.ok, [word r1.toNat, word r2.toNat, word r3.toNat, word r4.toNat,
        word ((r1.toNat + r2.toNat + r3.toNat + r4.toNat) / 4)])) := by
  simp [takeCalibrate, calibrated, hquiet, hgauge, hreg]

end Checks

/-! ## The two commands -/

theorem exec_calibrateZero (r1 r2 r3 r4 : BitVec 10) (s : State) :
    exec (.calibrateZero r1 r2 r3 r4) s = finish s (s.command 0 (takeCalibrate r1 r2 r3 r4)) := rfl

theorem exec_readSnapshot (s : State) : exec .readSnapshot s = finish s (s.command 0 takeReadSnapshot) := rfl

/-- What the PTK makes of a CALIBRATE ZERO is what the command answers and leaves. -/
theorem answers_calibrateZero {s u : State} {r1 r2 r3 r4 : BitVec 10} {code : ResultCode} {values : List Word}
    (h : PortHolds s []) (ht : takeCalibrate r1 r2 r3 r4 [] s = (u, (code, values))) :
    Answers (.calibrateZero r1 r2 r3 r4) s u code values :=
  answers_of_take (takeCalibrate r1 r2 r3 r4) (exec_calibrateZero r1 r2 r3 r4 s) h rfl ht

/-- READ SNAPSHOT has no check: in every state the words are answered as they stand, and only the lock changes. -/
theorem answers_readSnapshot {s : State} (h : PortHolds s []) :
    Answers .readSnapshot s
      { s with ptk := { s.ptk with snapshot := { s.ptk.snapshot with locked := false } } } .ok s.ptk.snapshot.words :=
  answers_of_take takeReadSnapshot (exec_readSnapshot s) h rfl rfl

/-- Settles O33: each clause on CALIBRATE ZERO is one of the checks of R104 (`takeCalibrate_notQuiet`, `_noGauge`,
`_covered`) or the effect behind them (`_accepted`); the last clause is `answers_readSnapshot`. -/
theorem calibrateZeroAndReadSnapshot : Obligations.CalibrateZeroAndReadSnapshot := by
  refine ⟨fun s r1 r2 r3 r4 hport => ⟨fun hmoving => ?notQuiet, fun hstopped hempty => ?quiet⟩,
    fun s hport => answers_readSnapshot hport⟩
  case notQuiet =>
    exact answers_calibrateZero hport (takeCalibrate_notQuiet r1 r2 r3 r4 [] ((not_quiet_iff s).mpr hmoving))
  case quiet =>
    have hquiet : s.quiet = true := (quiet_iff s).mpr ⟨hstopped, hempty⟩
    refine ⟨fun hgauge => ?noGauge, fun hgauge hreg => ?covered, fun hgauge hreg => ?accepted⟩
    case noGauge => exact answers_calibrateZero hport (takeCalibrate_noGauge r1 r2 r3 r4 [] hquiet hgauge)
    case covered => exact answers_calibrateZero hport (takeCalibrate_covered r1 r2 r3 r4 [] hquiet hgauge hreg)
    case accepted => exact answers_calibrateZero hport (takeCalibrate_accepted r1 r2 r3 r4 [] hquiet hgauge hreg)

end Sys2Proof.Machine
end

section
/-! BIN ACCEPT (R141): the bin that a word names, the four checks in order, and the record, the notice and the answer of a
bin that passes them. -/

namespace Sys2Proof.Machine

/-! ## The arguments -/

/-- A word above the code of P names no bin. -/
theorem argBin_eq_none {w : Word} (h : 4 < w.toNat) : argBin w = none :=
  List.getElem?_eq_none h

/-- The live records counted by what the sheet table shows (R21). -/
theorem live_eq_length_isSome (s : State) : s.live = (tags.filter fun t => (s.sheet t).isSome).length := by
  have hany : ∀ o : Option Sheet, o.any (fun _ => true) = o.isSome := by
    intro o
    cases o <;> rfl
  simp only [State.live, State.tagsWhere, hany]

/-! ## The effect of an accepted BIN ACCEPT -/

theorem acceptBin_bnm (s : State) (b : Bin) (n : Nat) :
    (acceptBin s b n).bnm = (s.setBin b ((s.bin b).accept n (s.capacity b))).bnm :=
  State.notify_bnm ..

theorem bin_acceptBin_same (s : State) (b : Bin) (n : Nat) :
    (acceptBin s b n).bin b = (s.bin b).accept n (s.capacity b) := by
  rw [bin_of_eq (acceptBin_bnm s b n), State.bin_setBin, if_pos rfl]

theorem bin_acceptBin_other {s : State} {b d : Bin} {n : Nat} (h : d ≠ b) :
    (acceptBin s b n).bin d = s.bin d := by
  rw [bin_of_eq (acceptBin_bnm s b n), State.bin_setBin, if_neg h.symm]

/-- An accepted BIN ACCEPT writes the Bin Manager and sends to the notice queue, and touches no other block. -/
theorem acceptBin_frame (s : State) (b : Bin) (n : Nat) :
    (acceptBin s b n).stu = s.stu ∧ (acceptBin s b n).sheets = s.sheets ∧ (acceptBin s b n).adm = s.adm ∧
    (acceptBin s b n).tsq = s.tsq ∧ (acceptBin s b n).ptk = s.ptk ∧ (acceptBin s b n).gsc = s.gsc ∧
    (acceptBin s b n).jam = s.jam ∧ (acceptBin s b n).tsv = s.tsv ∧ (acceptBin s b n).profile = s.profile ∧
    (acceptBin s b n).requests = s.requests ∧ (acceptBin s b n).lines = s.lines := by
  simp [acceptBin]

/-- With room in the queue the BIN notice of the new state is its last (R186). -/
theorem notices_acceptBin {s : State} (b : Bin) (n : Nat) (h : s.cpt.notices.length < 32) :
    (acceptBin s b n).cpt.notices =
      s.cpt.notices ++ [.bin b (if n = s.capacity b then .full else .ready) n] := by
  have hroom : (s.setBin b ((s.bin b).accept n (s.capacity b))).cpt.notices.length < 32 := h
  rw [acceptBin, State.notify_room _ _ hroom, State.setBin_cpt]

theorem stateCode_accept (r : BinRecord) (n cap : Nat) :
    (r.accept n cap).state.code = if n = cap then 1 else 0 :=
  apply_ite BinState.code (n = cap) .full .ready

/-! ## The checks, in order -/

/-- Check 1, the bin: the word names none of B1 to B4 and P. -/
theorem takeBinAccept_noBin {bw : Word} (nw : Word) (s : State) (h : 4 < bw.toNat) :
    takeBinAccept [bw, nw] s = s.refuse .badArgument := by
  simp only [takeBinAccept, argBin_eq_none h]

/-- The checks behind a bin that is named, as one decision. -/
theorem takeBinAccept_named (s : State) (b : Bin) (nw : Word) :
    takeBinAccept [binCode b, nw] s =
      if s.capacity b < nw.toNat then s.refuse .badArgument
      else if (s.bin b).state ≠ .check then s.refuse .state
      else if (s.bin b).reserved ≠ 0 then s.refuse .wait
      else if b = .p ∧ s.capacity b - nw.toNat < s.live then s.refuse .limit
      else (acceptBin s b nw.toNat, (.ok, [((acceptBin s b nw.toNat).bin b).state.code])) := by
  simp only [takeBinAccept, argBin_code]

section Checks
variable {s : State} {b : Bin} {nw : Word}

/-- Check 1, the count: more sheets than the bin's capacity. -/
theorem takeBinAccept_overCapacity (hcap : s.capacity b < nw.toNat) :
    takeBinAccept [binCode b, nw] s = s.refuse .badArgument := by
  rw [takeBinAccept_named, if_pos hcap]

/-- Check 2: the bin is in another state than CHECK. -/
theorem takeBinAccept_notCheck (hcap : nw.toNat ≤ s.capacity b) (hstate : (s.bin b).state ≠ .check) :
    takeBinAccept [binCode b, nw] s = s.refuse .state := by
  rw [takeBinAccept_named, if_neg (Nat.not_lt.mpr hcap), if_pos hstate]

/-- Check 3: sheets are reserved for the bin. -/
theorem takeBinAccept_reserved (hcap : nw.toNat ≤ s.capacity b) (hstate : (s.bin b).state = .check)
    (hreserved : (s.bin b).reserved ≠ 0) : takeBinAccept [binCode b, nw] s = s.refuse .wait := by
  rw [takeBinAccept_named, if_neg (Nat.not_lt.mpr hcap), if_neg (not_not_intro hstate), if_pos hreserved]

/-- What is left to decide once the first three checks pass. -/
theorem takeBinAccept_unreserved (hcap : nw.toNat ≤ s.capacity b) (hstate : (s.bin b).state = .check)
    (hreserved : (s.bin b).reserved = 0) :
    takeBinAccept [binCode b, nw] s =
      if b = .p ∧ s.capacity b - nw.toNat < s.live then s.refuse .limit
      else (acceptBin s b nw.toNat, (.ok, [if nw.toNat = s.capacity b then 1 else 0])) := by
  rw [takeBinAccept_named, if_neg (Nat.not_lt.mpr hcap), if_neg (not_not_intro hstate), if_neg (not_not_intro hreserved),
    bin_acceptBin_same, stateCode_accept]

/-- Check 4: P would have less room than there are live records. -/
theorem takeBinAccept_short (hcap : nw.toNat ≤ s.capacity b) (hstate : (s.bin b).state = .check)
    (hreserved : (s.bin b).reserved = 0) (hp : b = .p) (hshort : s.capacity b - nw.toNat < s.live) :
    takeBinAccept [binCode b, nw] s = s.refuse .limit := by
  rw [takeBinAccept_unreserved hcap hstate hreserved, if_pos ⟨hp, hshort⟩]

/-- Every check passes: the bin is accepted, and its new state is answered. -/
theorem takeBinAccept_accepted (hcap : nw.toNat ≤ s.capacity b) (hstate : (s.bin b).state = .check)
    (hreserved : (s.bin b).reserved = 0) (hroom : b = .p → s.live ≤ s.capacity b - nw.toNat) :
    takeBinAccept [binCode b, nw] s =
      (acceptBin s b nw.toNat, (.ok, [if nw.toNat = s.capacity b then 1 else 0])) := by
  rw [takeBinAccept_unreserved hcap hstate hreserved, if_neg fun ⟨hp, hshort⟩ => Nat.not_lt.mpr (hroom hp) hshort]

end Checks

/-! ## The command -/

theorem exec_binAccept (s : State) : exec .binAccept s = finish s (s.command 2 takeBinAccept) := rfl

/-- The result record of OK with one value word: the header counts two words (R184). -/
theorem result_answer_okValue (s : State) (v : Word) : (s.answer (.ok, [v])).cpt.result = [0x0200, v] := by
  have hheader : header ResultCode.ok.code 2 = 0x0200 := by decide
  exact congrArg (· :: [v]) hheader

/-- What the BNM makes of the two words is what the command answers and leaves. -/
theorem answers_binAccept {s u : State} {bw nw : Word} {code : ResultCode} {values : List Word}
    (h : PortHolds s [bw, nw]) (ht : takeBinAccept [bw, nw] s = (u, (code, values))) :
    Answers .binAccept s u code values :=
  answers_of_take takeBinAccept (exec_binAccept s) h rfl ht

/-- Settles O37: each refusal is one of the checks of R141 (`takeBinAccept_noBin`, `_overCapacity`, `_notCheck`,
`_reserved`, `_short`); the last clause is the effect behind them (`_accepted`), read by the lemmas about `acceptBin`. -/
theorem binAcceptMakesTheBinReady : Obligations.BinAcceptMakesTheBinReady := by
  intro s bw nw hport
  refine ⟨fun hrange => answers_binAccept hport (takeBinAccept_noBin nw s hrange), ?named⟩
  rintro b rfl
  simp only [← live_eq_length_isSome]
  refine ⟨fun hover => ?overCapacity, fun hcap hstate => ?notCheck, fun hcap hstate hreserved => ?reserved,
    fun hcap hstate hreserved hp hshort => ?short, fun hcap hstate hreserved hroom => ?accepted⟩
  case overCapacity => exact answers_binAccept hport (takeBinAccept_overCapacity hover)
  case notCheck => exact answers_binAccept hport (takeBinAccept_notCheck hcap hstate)
  case reserved => exact answers_binAccept hport (takeBinAccept_reserved hcap hstate hreserved)
  case short => exact answers_binAccept hport (takeBinAccept_short hcap hstate hreserved hp hshort)
  case accepted =>
    have hruns := answers_binAccept hport (takeBinAccept_accepted hcap hstate hreserved hroom)
    exact ⟨_, hruns, bin_acceptBin_same s b nw.toNat, fun d hd => bin_acceptBin_other hd,
      notices_acceptBin b nw.toNat, result_answer_okValue _ _, acceptBin_frame s b nw.toNat⟩

end Sys2Proof.Machine
end

section
/-! A fault taken in JAMMED (R155): the count of further faults, the latch as a second fault and the JAM notice, which
R154 asks of a second fault in RUNOUT too, and the step that takes the fault. -/

namespace Sys2Proof.Machine

/-! ## The count, the latch and the notice of a fault behind the declaration -/

/-- The output section is the sensor OUT and the bins' sensors; every other sensor is in the main section (R89). -/
theorem sectionOf_eq_ite (x : Sensor) :
    sectionOf x = if x ∈ [Sensor.out, .b1, .b2, .b3, .b4, .bp] then .output else .main := by
  cases x <;> rfl

/-- In the jam record only further faults grow, and they stop at 255 (R146). -/
theorem jam_reportFurther (s : State) (f : PathFault) :
    (reportFurther s f).jam = { s.jam with further := min (s.jam.further + 1) 255 } := by
  simp [reportFurther, countFurther]

/-- The tracker takes the latch request and nothing else: a locked snapshot keeps its picture, an unlocked one takes the
fault's, and both are marked as a second fault (R109). -/
theorem ptk_reportFurther (s : State) (f : PathFault) :
    (reportFurther s f).ptk = { s.ptk with snapshot :=
      if s.ptk.snapshot.locked then { s.ptk.snapshot with second := true } else
        { levels := s.ptk.debounced
          count := s.now
          cause := some f.cause
          sensor := f.sensor
          tag := f.tag
          second := true
          locked := true } } := by
  rw [reportFurther, State.notify_ptk, snapshot_latch]
  rfl

/-- With room in the queue one JAM notice of the kind SECOND FAULT goes out, at the present path count. -/
theorem notices_reportFurther {s : State} (f : PathFault) (hroom : s.cpt.notices.length < 32) :
    (reportFurther s f).cpt.notices = s.cpt.notices ++
      [.jam f.cause f.sensor f.tag
        (if f.sensor ∈ [Sensor.out, .b1, .b2, .b3, .b4, .bp] then .output else .main) s.now true] := by
  have hcpt : (latch (countFurther s) f.cause f.sensor f.tag true).cpt = s.cpt := by simp
  have hnow : (latch (countFurther s) f.cause f.sensor f.tag true).now = s.now := by simp [State.now]
  rw [reportFurther, State.notify_room _ _ (by rwa [hcpt]), jamNotice, hcpt, hnow, sectionOf_eq_ite]

/-! ## The step -/

/-- The state in which a fault is taken: it has left the list, and nothing else has changed. -/
def dropFault (s : State) (place : Nat) : State :=
  { s with requests := { s.requests with faults := s.requests.faults.eraseIdx place } }

/-- Jam handling takes the fault at the place, and it alone leaves the list. -/
theorem takeFaultAt_some {s : State} {place : Nat} {f : PathFault} (h : s.requests.faults[place]? = some f) :
    takeFaultAt s place = takeFault (dropFault s place) f := by
  simp only [takeFaultAt, h, dropFault]

/-- In JAMMED a fault is a further fault (R147). -/
theorem takeFault_jammed {s : State} (h : s.tsv.state = .jammed) (f : PathFault) :
    takeFault s f = reportFurther s f := by
  simp only [takeFault, h]

theorem exec_jam (place : Nat) (s : State) : exec (.jam place) s = finish s (takeFaultAt s place) := rfl

/-- In JAMMED the step's own effect is the report of a further fault. -/
theorem runs_jam_jammed {s : State} {place : Nat} {f : PathFault} (hfault : s.requests.faults[place]? = some f)
    (hjammed : s.tsv.state = .jammed) : Runs (.jam place) s (reportFurther (dropFault s place) f) := by
  have hstays : (dropFault s place).tsv.state = .jammed := hjammed
  apply runs_of_finish
  rw [exec_jam, takeFaultAt_some hfault, takeFault_jammed hstays]

/-- Settles O44: the step's own effect is the report of a further fault (`runs_jam_jammed`), which changes the jam
record (`jam_reportFurther`), the snapshot (`ptk_reportFurther`) and the notices (`notices_reportFurther`); all the rest
is its frame. -/
theorem furtherFaultsAreCounted : Obligations.FurtherFaultsAreCounted := by
  intro s place f hfault hjammed
  obtain ⟨-, hstu, hsheets, hadm, htsq, hgsc, hbnm, htsv, hprofile, -, hrequests⟩ :=
    reportFurther_frame (dropFault s place) f
  have hnotices := notices_reportFurther (s := dropFault s place) f
  exact ⟨_, runs_jam_jammed hfault hjammed, hrequests, jam_reportFurther _ f, ptk_reportFurther _ f, hnotices, htsv,
    hsheets, hstu, hbnm, hgsc, htsq, hadm, hprofile⟩

end Sys2Proof.Machine
end

section
/-! START (R164): the three checks in order, and the run lines, the start count and the state of an accepted start. STOP
(R166): what it does in each of the six transport states. -/

namespace Sys2Proof.Machine

/-! ## The checks of START, in order -/

section StartChecks
variable {s : State} (ws : List Word)

/-- Check 1: the transport is in another state than STOPPED. -/
theorem takeStart_notStopped (hstate : s.tsv.state ≠ .stopped) : takeStart ws s = s.refuse .state :=
  if_pos hstate

/-- Check 2: the supply warning line is asserted. -/
theorem takeStart_supplyWarning (hstate : s.tsv.state = .stopped) (hsupply : s.lines.supplyWarning = true) :
    takeStart ws s = s.refuse .wait := by
  rw [takeStart, if_neg (not_not_intro hstate), if_pos hsupply]

/-- What is left to decide once the first two checks pass. -/
theorem takeStart_supplied (hstate : s.tsv.state = .stopped) (hsupply : s.lines.supplyWarning = false) :
    takeStart ws s =
      if s.tsv.encoderLost = true ∧ s.tsv.pulseSince = false then s.refuse .state
      else (acceptStart s, (.ok, [])) := by
  simp only [takeStart, hstate, hsupply, ne_eq, not_true_eq_false, Bool.false_eq_true, if_false, Bool.not_eq_true']

/-- Check 3: ENCODER LOST is set, and no pulse has been seen since. -/
theorem takeStart_encoderLost (hstate : s.tsv.state = .stopped) (hsupply : s.lines.supplyWarning = false)
    (hlost : s.tsv.encoderLost = true) (hpulse : s.tsv.pulseSince = false) : takeStart ws s = s.refuse .state := by
  rw [takeStart_supplied ws hstate hsupply, if_pos ⟨hlost, hpulse⟩]

/-- Every check passes: the start is accepted. -/
theorem takeStart_accepted (hstate : s.tsv.state = .stopped) (hsupply : s.lines.supplyWarning = false)
    (hencoder : s.tsv.encoderLost = false ∨ s.tsv.pulseSince = true) :
    takeStart ws s = (acceptStart s, (.ok, [])) := by
  have hpasses : ¬(s.tsv.encoderLost = true ∧ s.tsv.pulseSince = false) := by
    rintro ⟨hlost, hpulse⟩
    simp [hlost, hpulse] at hencoder
  rw [takeStart_supplied ws hstate hsupply, if_neg hpasses]

end StartChecks

/-! ## START -/

theorem exec_start (s : State) : exec .start s = finish s (s.command 0 takeStart) := rfl

/-- What the TSV makes of a START is what the command answers and leaves. -/
theorem answers_start {s u : State} {code : ResultCode} {values : List Word} (h : PortHolds s [])
    (ht : takeStart [] s = (u, (code, values))) : Answers .start s u code values :=
  answers_of_take takeStart (exec_start s) h rfl ht

/-- Settles O46: each refusal is one of the checks of R164 (`takeStart_notStopped`, `_supplyWarning`, `_encoderLost`); the
last clause is the effect behind them (`_accepted`), whose state is `acceptStart` written out. -/
theorem startRunsTheTransport : Obligations.StartRunsTheTransport := by
  intro s hport
  refine ⟨fun hmoving => ?notStopped, fun hstate hsupply => ?supplyWarning,
    fun hstate hsupply hlost hpulse => ?encoderLost, fun hstate hsupply hencoder => ?accepted⟩
  case notStopped => exact answers_start hport (takeStart_notStopped [] hmoving)
  case supplyWarning => exact answers_start hport (takeStart_supplyWarning [] hstate hsupply)
  case encoderLost => exact answers_start hport (takeStart_encoderLost [] hstate hsupply hlost hpulse)
  case accepted => exact answers_start hport (takeStart_accepted [] hstate hsupply hencoder)

/-! ## STOP in each transport state -/

section StopStates
variable {s : State} (ws : List Word)

/-- In STOPPED there is nothing to stop, and in DRAINING the drain goes on with its cause. -/
theorem takeStop_noEffect (hstate : s.tsv.state = .stopped ∨ s.tsv.state = .draining) :
    takeStop ws s = (s, (.ok, [])) := by
  rcases hstate with hstopped | hdraining
  · simp only [takeStop, stopEvent, hstopped]
  · simp only [takeStop, stopEvent, hdraining]

/-- In RUNOUT and JAMMED the transport is jam handling's, and STOP is refused. -/
theorem takeStop_refused (hstate : s.tsv.state = .runout ∨ s.tsv.state = .jammed) :
    takeStop ws s = s.refuse .state := by
  rcases hstate with hrunout | hjammed
  · simp only [takeStop, hrunout]
  · simp only [takeStop, hjammed]

/-- In RUNNING a drain begins (R167). -/
theorem takeStop_running (hstate : s.tsv.state = .running) : takeStop ws s = (beginDrain s .stop, (.ok, [])) := by
  simp only [takeStop, stopEvent, hstate]

/-- In STARTING the start ends (R165). -/
theorem takeStop_starting (hstate : s.tsv.state = .starting) :
    takeStop ws s = (endStart s .stop .none_, (.ok, [])) := by
  simp only [takeStop, stopEvent, hstate]

end StopStates

/-! ## The notices of the transport -/

/-- With room in the queue the TRANSPORT notice of the entered state is its last (R186). -/
theorem notices_enter {s : State} (st : TransportState) (cause : TransportCause) (reason : StartReason)
    (hroom : s.cpt.notices.length < 32) :
    (enter s st cause reason).cpt.notices = s.cpt.notices ++ [.transport st cause reason] := by
  rw [enter, State.notify_room _ _ (by exact hroom)]

/-- Withdrawing the run lines sends no notice, so the end of a start sends the one of STOPPED alone. -/
theorem notices_endStart {s : State} (cause : TransportCause) (reason : StartReason)
    (hroom : s.cpt.notices.length < 32) :
    (endStart s cause reason).cpt.notices = s.cpt.notices ++ [.transport .stopped cause reason] := by
  have hcpt : (withdrawBoth s).cpt = s.cpt := by simp
  rw [endStart, notices_enter _ _ _ (by rwa [hcpt]), hcpt]

/-! ## STOP -/

/-- The result record of OK without values: the header alone, which counts itself (R184). -/
theorem result_answer_ok (s : State) : (s.answer (.ok, [])).cpt.result = [0x0100] := by
  have hheader : header ResultCode.ok.code 1 = 0x0100 := by decide
  exact congrArg (fun w => [w]) hheader

theorem exec_stop (s : State) : exec .stop s = finish s (s.command 0 takeStop) := rfl

/-- What the TSV makes of a STOP is what the command answers and leaves. -/
theorem answers_stop {s u : State} {code : ResultCode} {values : List Word} (h : PortHolds s [])
    (ht : takeStop [] s = (u, (code, values))) : Answers .stop s u code values :=
  answers_of_take takeStop (exec_stop s) h rfl ht

/-- Settles O47: the case split is `takeStop`'s over the six transport states (`takeStop_noEffect`, `_refused`,
`_running`, `_starting`); what the end of a start leaves is read by `tsv_endStart`, `notices_endStart` and its frame. -/
theorem stopActsByTheTransportState : Obligations.StopActsByTheTransportState := by
  intro s hport
  refine ⟨fun hstate => ?noEffect, fun hstate => ?refused, fun hstate => ?running, fun hstate => ?starting⟩
  case noEffect => exact answers_stop hport (takeStop_noEffect [] hstate)
  case refused => exact answers_stop hport (takeStop_refused [] hstate)
  case running => exact answers_stop hport (takeStop_running [] hstate)
  case starting =>
    obtain ⟨-, hstu, hsheets, -, -, hgsc, hbnm, -⟩ := endStart_frame s .stop .none_
    have hruns := answers_stop hport (takeStop_starting [] hstate)
    exact ⟨_, hruns, tsv_endStart s .stop .none_, notices_endStart .stop .none_, result_answer_ok _, hsheets, hstu,
      hbnm, hgsc⟩

end Sys2Proof.Machine
end

section
/-! The attention line and the STATUS word (R190): the four conditions, and STATUS read as the number of notices over a
byte of flags. -/

namespace Sys2Proof.Machine

/-! ## The attention line -/

theorem State.noticeWaits_iff (s : State) : (!s.cpt.notices.isEmpty) = true ↔ s.cpt.notices ≠ [] := by
  rw [Bool.not_eq_true', List.isEmpty_eq_false_iff]

theorem State.unreadCall_iff (s : State) : s.unreadCall = true ↔ ∃ p ∈ s.tsq.pitches, p.read = false := by
  simp only [State.unreadCall, List.any_eq_true, Bool.not_eq_true']

theorem State.attention_iff (s : State) :
    s.attention = true ↔ s.cpt.notices ≠ [] ∨ (∃ p ∈ s.tsq.pitches, p.read = false) ∨
      s.ptk.snapshot.locked = true ∨ s.cpt.noticeLost = true := by
  rw [← s.noticeWaits_iff, ← s.unreadCall_iff]
  simp only [State.attention, Bool.or_eq_true, or_assoc]

/-! ## STATUS in two bytes -/

/-- The flags that R190 gives bits 0 to 7 of STATUS, bit 0 first. -/
def State.statusFlags (s : State) : List Bool :=
  [s.cpt.busy, s.cpt.noticeLost, !s.cpt.notices.isEmpty, s.unreadCall, s.ptk.snapshot.locked, s.attention, false, false]

/-- The flags as the low byte of STATUS. -/
def State.statusByte (s : State) : BitVec 8 := BitVec.ofBoolListLE s.statusFlags

theorem State.getLsbD_statusByte (s : State) (i : Nat) : s.statusByte.getLsbD i = s.statusFlags.getD i false :=
  BitVec.getLsbD_ofBoolListLE

theorem bitValue_eq (b : Bool) (n : Nat) : bitValue b n = b.toNat * 2 ^ n := by
  cases b <;> simp [bitValue]

/-- Adding the weights of the set bits, as the model does, is reading the flags as a binary number. -/
theorem State.toNat_statusByte (s : State) :
    s.statusByte.toNat = bitValue s.cpt.busy 0 + bitValue s.cpt.noticeLost 1 + bitValue (!s.cpt.notices.isEmpty) 2
      + bitValue s.unreadCall 3 + bitValue s.ptk.snapshot.locked 4 + bitValue s.attention 5 := by
  simp only [State.statusByte, State.statusFlags, BitVec.ofBoolListLE, BitVec.toNat_concat, BitVec.toNat_of_zero_length,
    List.length_nil, bitValue_eq, Bool.toNat_false]
  omega

/-- The flags and the number of notices do not overlap: each has a byte of its own. -/
theorem State.status_eq_append (s : State) : s.status = BitVec.ofNat 8 s.cpt.notices.length ++ s.statusByte := by
  apply BitVec.eq_of_toNat_eq
  rw [BitVec.toNat_append, ← Nat.shiftLeft_add_eq_or_of_lt s.statusByte.isLt, Nat.shiftLeft_eq, State.status, word,
    ← s.toNat_statusByte, BitVec.toNat_ofNat, BitVec.toNat_ofNat]
  omega

/-- Each of bits 0 to 7 of STATUS is its flag. -/
theorem State.status_flag (s : State) {i : Nat} (hi : i < 8) : s.status.getLsbD i = s.statusFlags.getD i false := by
  rw [s.status_eq_append, BitVec.getLsbD_append, if_pos hi, s.getLsbD_statusByte]

/-- The bits of STATUS above the number of notices read 0: the queue's bound keeps that number in six bits. -/
theorem State.status_highBit (s : State) (hroom : s.cpt.notices.length ≤ 32) {i : Nat} (hi : 14 ≤ i) :
    s.status.getLsbD i = false := by
  have hfits : s.cpt.notices.length < 2 ^ (i - 8) :=
    calc s.cpt.notices.length < 2 ^ 6 := by omega
      _ ≤ 2 ^ (i - 8) := Nat.pow_le_pow_right (by decide) (by omega)
  rw [s.status_eq_append, BitVec.getLsbD_append, if_neg (by omega), BitVec.getLsbD_ofNat,
    Nat.testBit_lt_two_pow hfits, Bool.and_false]

/-- Bits 8 to 13 of STATUS are the number of notices in the queue, which its bound keeps below 64. -/
theorem State.status_count (s : State) (hroom : s.cpt.notices.length ≤ 32) :
    (s.status.extractLsb' 8 6).toNat = s.cpt.notices.length := by
  rw [s.status_eq_append, BitVec.extractLsb'_append_eq_of_le (Nat.le_refl 8), BitVec.extractLsb'_toNat,
    BitVec.toNat_ofNat, Nat.sub_self, Nat.shiftRight_zero]
  omega

/-- Settles O55: the line is `attention_iff`; the bits of STATUS are read off its two bytes (`status_eq_append`), the
flags by `status_flag` and the number of notices by `status_count`, which leaves bits 14 and 15 (`status_highBit`). -/
theorem attentionFollowsItsFourConditions : Obligations.AttentionFollowsItsFourConditions := by
  intro s
  refine ⟨s.attention_iff, fun hroom => ?_⟩
  have notice : s.status.getLsbD 2 = true ↔ s.cpt.notices ≠ [] := by
    rw [s.status_flag (by decide), ← s.noticeWaits_iff]; rfl
  have call : s.status.getLsbD 3 = true ↔ ∃ p ∈ s.tsq.pitches, p.read = false := by
    rw [s.status_flag (by decide), ← s.unreadCall_iff]; rfl
  exact ⟨s.status_flag (by decide), s.status_flag (by decide), notice, call, s.status_flag (by decide),
    s.status_flag (by decide), s.status_flag (by decide), s.status_flag (by decide), s.status_count hroom,
    s.status_highBit hroom (by decide), s.status_highBit hroom (by decide)⟩

end Sys2Proof.Machine
end

section
/-! What every operation between the blocks keeps: the bounds of the buffers and lists, the legality of the statements,
and, but for a grant, a release and a park, that no record becomes PARKED, PICKING or back-pending and no pitch joins the
sequence. One relation `Keeps` says it of the state before and after; each operation has one lemma. -/

namespace Sys2Proof.Machine

set_option Elab.async false

/-! ## The relation -/

/-- The port within its bounds: buffer, notices, index (R183, R186, R189). -/
def PortBounded (p : Port) : Prop := p.buffer.length ≤ 8 ∧ p.notices.length ≤ 32 ∧ p.select ≤ 6

/-- The entries of a feed queue. -/
def Admission.entries (a : Admission) : Queue → List Entry
  | .new => a.newQueue
  | .restart => a.restartQueue

/-- The feed queues with their picking place, and the starvation count, within their bounds (R44, R47, R52). -/
def FeedBounded (a : Admission) : Prop :=
  (∀ q, (a.entries q).length + (if a.pick.any fun p => p.source = q then 1 else 0) ≤ 16) ∧ a.starvation ≤ 4

/-- Every expectation list within its bound (R90). -/
def ListsBounded (l : Vector (List Expectation) 14) : Prop := ∀ x : Sensor, l[x.idx].length ≤ 4

/-- Every verdict count within its bound (R103). -/
def VerdictsBounded (v : Vector Nat 3) : Prop := ∀ t : Tray, v[t.idx] ≤ 2

/-- Every pending list of a gate within its bound (R113). -/
def GatesBounded (r : Vector GateRecord 5) : Prop := ∀ g : Gate, r[g.idx].waiting.length ≤ 2

/-- Every stacking list within its bound (R129). -/
def BinsBounded (r : Vector BinRecord 5) : Prop := ∀ b : Bin, r[b.idx].stacking.length ≤ 4

/-- A statement's generation, state and break cause fit together (R1, R13, R14). -/
def Statement.Legal (r : Statement) : Prop :=
  r.generation ≤ 3 ∧ (r.state = .broken → r.generation ≤ 2) ∧ (r.state = .abandoned → r.generation = 3)
    ∧ (r.state.ended ↔ r.cause.isSome)

/-- Every statement is legal. -/
def StatementsLegal (table : Vector (Option Statement) 16) : Prop := ∀ slot : Slot, ∀ r, table[slot] = some r → r.Legal

/-- `q` may be `r` later on its way: it is PARKED, PICKING or back-pending only where `r` is. -/
def Sheet.Ages (r q : Sheet) : Prop :=
  (q.state = .parked → r.state = .parked) ∧ (q.state = .picking → r.state = .picking) ∧
    (q.backPending = true → r.backPending = true)

/-- Every record of `w` is a record of `v` that has aged. -/
def Aged (v w : Vector (Option Sheet) 48) : Prop := ∀ t : Tag, ∀ q, w[t] = some q → ∃ r, v[t] = some r ∧ r.Ages q

/-- From `s` to `t` every bound is kept and every statement stays legal. -/
structure KeepsBounds (s t : State) : Prop where
  pending : t.pending = s.pending := by simp
  port : PortBounded s.cpt → PortBounded t.cpt := by simp
  feed : FeedBounded s.adm → FeedBounded t.adm := by simp
  lists : ListsBounded s.ptk.lists → ListsBounded t.ptk.lists := by simp
  verdicts : VerdictsBounded s.ptk.verdicts → VerdictsBounded t.ptk.verdicts := by simp
  gates : GatesBounded s.gsc.records → GatesBounded t.gsc.records := by simp
  bins : BinsBounded s.bnm.records → BinsBounded t.bnm.records := by simp
  further : s.jam.further ≤ 255 → t.jam.further ≤ 255 := by simp
  statements : StatementsLegal s.stu.table → StatementsLegal t.stu.table := by simp

theorem Sheet.Ages.refl (r : Sheet) : r.Ages r := ⟨id, id, id⟩

theorem Sheet.Ages.trans {r q p : Sheet} (h : r.Ages q) (k : q.Ages p) : r.Ages p :=
  ⟨h.1 ∘ k.1, h.2.1 ∘ k.2.1, h.2.2 ∘ k.2.2⟩

@[simp] theorem Aged.refl (v : Vector (Option Sheet) 48) : Aged v v := fun _ q h => ⟨q, h, .refl q⟩

theorem Aged.trans {u v w : Vector (Option Sheet) 48} (h : Aged u v) (k : Aged v w) : Aged u w := by
  intro t p hp
  obtain ⟨q, hq, hqp⟩ := k t p hp
  obtain ⟨r, hr, hrq⟩ := h t q hq
  exact ⟨r, hr, hrq.trans hqp⟩

/-- From `s` to `t` every bound is kept, and besides no record becomes PARKED, PICKING or back-pending and the sequence
does not grow. -/
structure Keeps (s t : State) : Prop extends KeepsBounds s t where
  records : Aged s.sheets t.sheets := by simp
  pitches : t.tsq.pitches.length ≤ s.tsq.pitches.length := by simp

theorem KeepsBounds.trans {s t u : State} (h : KeepsBounds s t) (k : KeepsBounds t u) : KeepsBounds s u where
  pending := k.pending.trans h.pending
  port := k.port ∘ h.port
  feed := k.feed ∘ h.feed
  lists := k.lists ∘ h.lists
  verdicts := k.verdicts ∘ h.verdicts
  gates := k.gates ∘ h.gates
  bins := k.bins ∘ h.bins
  further := k.further ∘ h.further
  statements := k.statements ∘ h.statements

theorem Keeps.trans {s t u : State} (h : Keeps s t) (k : Keeps t u) : Keeps s u where
  toKeepsBounds := h.toKeepsBounds.trans k.toKeepsBounds
  records := h.records.trans k.records
  pitches := Nat.le_trans k.pitches h.pitches

theorem Keeps.refl (s : State) : Keeps s s := {}

/-- Steps that keep are kept by a fold. -/
theorem Keeps.foldl {α : Type} {g : State → α → State} (h : ∀ u x, Keeps u (g u x)) (l : List α) (s : State) :
    Keeps s (l.foldl g s) := by
  induction l generalizing s with
  | nil => exact .refl s
  | cons a l ih => exact (h s a).trans (ih _)

/-- A decision keeps where both its branches do. -/
theorem Keeps.ite {c : Prop} [Decidable c] {s t u : State} (h : c → Keeps s t) (k : ¬c → Keeps s u) :
    Keeps s (if c then t else u) := by
  split
  case isTrue hc => exact h hc
  case isFalse hc => exact k hc

/-! ## Notices and requests -/

theorem notify_keeps (s : State) (n : Notice) : Keeps s (s.notify n) := by
  refine { port := fun ⟨hbuffer, hnotices, hselect⟩ => ?_ }
  have hcpt := State.notify_cpt s n
  exact ⟨by rw [hcpt]; exact hbuffer, State.notify_bounded s n hnotices, by rw [hcpt]; exact hselect⟩

theorem claimCondemn_keeps (s : State) (c : CondemnClaim) : Keeps s (s.claimCondemn c) := {}

theorem askBreak_keeps (s : State) (slot : Slot) (generation : Nat) (cause : BreakCause) (opening : Option Word) :
    Keeps s (s.askBreak slot generation cause opening) := {}

theorem handFault_keeps (s : State) (cause : JamCause) (sensor : Sensor) (tag : Option Tag) :
    Keeps s (s.handFault cause sensor tag) := {}

/-! ## Sheets -/

theorem setSheet_keeps {s : State} {t : Tag} {q : Option Sheet} (h : ∀ p, q = some p → ∃ r, s.sheet t = some r ∧ r.Ages p) :
    Keeps s (s.setSheet t q) := by
  refine { records := fun u p hp => ?_ }
  have hread : (s.setSheet t q).sheet u = some p := hp
  rw [State.sheet_setSheet] at hread
  split at hread
  case isTrue htu => subst htu; exact h p hread
  case isFalse => exact ⟨p, hread, .refl p⟩

theorem mapSheets_keeps {s : State} {f : Sheet → Sheet} (h : ∀ r : Sheet, r.Ages (f r)) : Keeps s (s.mapSheets f) := by
  refine { records := fun u p hp => ?_ }
  have hread : (s.mapSheets f).sheet u = some p := hp
  rw [State.sheet_mapSheets, Option.map_eq_some_iff] at hread
  obtain ⟨r, hr, rfl⟩ := hread
  exact ⟨r, hr, h r⟩

/-- A claim keeps where what it makes of a record is that record aged. -/
theorem claim_keeps {s : State} {t : Tag} {o : Owner} {f : Sheet → Option Sheet} (h : ∀ r q, f r = some q → r.Ages q) :
    Keeps s (s.claim t o f) := by
  refine { records := fun u p hp => ?_ }
  have hread : (s.claim t o f).sheet u = some p := hp
  rw [sheet_claim] at hread
  split at hread
  case isFalse => exact ⟨p, hread, .refl p⟩
  case isTrue htu =>
    subst htu
    obtain ⟨r, hr, hrp⟩ := Option.map_eq_some_iff.mp hread
    refine ⟨r, hr, ?_⟩
    subst hrp
    split
    · cases hf : f r with
      | none => exact .refl r
      | some q => exact h r q hf
    · exact .refl r

/-- The states that a lead moves a record to are neither PARKED nor PICKING, unless it keeps its own. -/
theorem leadState_ages {x : Sensor} {r : Sheet} {st : SheetState} (h : leadState x r = some st) :
    (st = .parked → r.state = .parked) ∧ (st = .picking → r.state = .picking) := by
  cases x <;> simp only [leadState, Option.ite_none_right_eq_some, Option.some.injEq] at h <;> obtain ⟨-, rfl⟩ := h <;>
    simp

theorem claimLead_keeps (s : State) (t : Tag) (o : Owner) (x : Sensor) (c : Count) : Keeps s (claimLead s t o x c) := by
  refine claim_keeps fun r q hq => ?_
  obtain ⟨st, hst, rfl⟩ := Option.map_eq_some_iff.mp hq
  obtain ⟨hparked, hpicking⟩ := leadState_ages hst
  exact ⟨hparked, hpicking, id⟩

theorem claimTrail_keeps (s : State) (t : Tag) (o : Owner) (x : Sensor) : Keeps s (claimTrail s t o x) := by
  refine claim_keeps fun r q hq => ?_
  obtain ⟨-, hrq⟩ := Option.ite_none_right_eq_some.mp hq
  cases hrq
  exact ⟨id, id, id⟩

theorem claimRelease_keeps (s : State) (t : Tag) (o : Owner) (c : Count) : Keeps s (claimRelease s t o c).1 := by
  refine claim_keeps fun r q hq => ?_
  obtain ⟨-, hrq⟩ := Option.ite_none_right_eq_some.mp hq
  cases hrq
  exact ⟨nofun, nofun, by simp [Sheet.backPending]⟩

/-- A pitch claim makes no record back-pending: none writes NONE. -/
theorem claimSide_keeps (s : State) (t : Tag) (slot : Slot) (generation : Nat) (side : Side) {v : SideState}
    (hv : v ≠ .none_) : Keeps s (claimSide s t slot generation side v) := by
  refine claim_keeps fun r q hq => ?_
  cases side
  case front =>
    cases hq
    exact ⟨id, id, id⟩
  case back =>
    cases hq
    exact ⟨id, id, by simp [Sheet.backPending, hv]⟩

theorem claimGauge_keeps (s : State) (t : Tag) (o : Owner) (g : GaugeResult) : Keeps s (claimGauge s t o g) := by
  refine claim_keeps fun r q hq => ?_
  obtain ⟨-, hrq⟩ := Option.ite_none_right_eq_some.mp hq
  cases hrq
  exact ⟨id, id, id⟩

theorem claimCommit_keeps (s : State) (t : Tag) (o : Owner) : Keeps s (claimCommit s t o) := by
  refine claim_keeps fun r q hq => ?_
  obtain ⟨-, hrq⟩ := Option.ite_none_right_eq_some.mp hq
  cases hrq
  exact ⟨id, id, id⟩

theorem takeCondemn_keeps (s : State) (c : CondemnClaim) : Keeps s (takeCondemn s c) := by
  unfold takeCondemn
  split
  · exact mapSheets_keeps fun r => by split <;> exact ⟨id, id, id⟩
  · refine claim_keeps fun r q hq => ?_
    cases hq
    exact ⟨id, id, id⟩

theorem retire_keeps (s : State) (t : Tag) : Keeps s (retire s t) := by
  have hfree : Keeps s (s.setSheet t none) := setSheet_keeps (by simp)
  exact hfree.trans { records := .refl _ }

theorem retireDelivered_keeps (s : State) (t : Tag) (o : Owner) : Keeps s (retireDelivered s t o) := by
  unfold retireDelivered
  split
  · exact .refl s
  · split
    · refine Keeps.trans ?_ (retire_keeps _ t)
      split
      · exact {}
      · exact .refl s
    · split
      · exact {}
      · exact .refl s

theorem sendRetirement_keeps (s : State) (t : Tag) (o : Owner) (later : Bool) : Keeps s (sendRetirement s t o later) := by
  unfold sendRetirement
  split
  · exact {}
  · exact retireDelivered_keeps s t o

theorem takeRetirements_keeps (before s : State) : Keeps s (takeRetirements before s) :=
  Keeps.trans (t := { s with requests := { s.requests with
    retires := s.requests.retires.drop before.requests.retires.length } }) {}
    (.foldl (fun u (q : Retirement) => retireDelivered_keeps u q.tag q.owner) _ _)

theorem strand_ages (r : Sheet) : r.Ages r.strand := ⟨nofun, nofun, id⟩

theorem selectRunOut_keeps (s : State) : Keeps s (selectRunOut s) :=
  mapSheets_keeps fun r => by
    split
    · exact ⟨id, id, id⟩
    · exact strand_ages r

theorem strandAll_keeps (s : State) : Keeps s (strandAll s) := mapSheets_keeps strand_ages

theorem strandRunOut_keeps (s : State) : Keeps s (strandRunOut s) :=
  mapSheets_keeps fun r => by
    split
    · exact strand_ages r
    · exact .refl r

/-! ## Statements -/

theorem setStatement_keeps {s : State} {slot : Slot} {q : Option Statement}
    (h : StatementsLegal s.stu.table → ∀ p, q = some p → p.Legal) : Keeps s (s.setStatement slot q) := by
  refine { statements := fun hs j p hp => ?_ }
  have hread : (s.setStatement slot q).statement j = some p := hp
  rw [State.statement_setStatement] at hread
  split at hread
  · exact h hs p hread
  · exact hs j p hread

/-- A record written over one with the same generation, state and cause. -/
theorem setStatement_keeps_of_same {s : State} {slot : Slot} {r p : Statement} (hr : s.statement slot = some r)
    (h : p.generation = r.generation ∧ p.state = r.state ∧ p.cause = r.cause) :
    Keeps s (s.setStatement slot (some p)) := by
  refine setStatement_keeps fun hs q hq => ?_
  cases hq
  obtain ⟨hgeneration, hstate, hcause⟩ := h
  have hlegal := hs slot r hr
  rwa [Statement.Legal, ← hgeneration, ← hstate, ← hcause] at hlegal

theorem ofPair_statement {s : State} {slot : Slot} {generation : Nat} {r : Statement}
    (h : s.ofPair slot generation = some r) : s.statement slot = some r ∧ r.generation = generation := by
  unfold State.ofPair at h
  cases hs : s.statement slot with
  | none => simp [hs] at h
  | some q =>
    simp only [hs, Option.ite_none_right_eq_some, Option.some.injEq] at h
    obtain ⟨hg, rfl⟩ := h
    exact ⟨rfl, hg⟩

theorem closeIfClear_keeps (s : State) (slot : Slot) : Keeps s (closeIfClear s slot) := {}

theorem reportAdmission_keeps (s : State) (slot : Slot) (generation : Nat) (t : Tag) (claimed : Option Bin) :
    Keeps s (reportAdmission s slot generation t claimed) := by
  unfold reportAdmission
  split
  · exact .refl s
  case h_2 r hr =>
    refine Keeps.trans (setStatement_keeps_of_same (ofPair_statement hr).1 ?_) (.ite (fun _ => {}) fun _ => .refl _)
    exact ⟨rfl, rfl, rfl⟩

theorem reportWithdrawal_keeps (s : State) (slot : Slot) (generation : Nat) :
    Keeps s (reportWithdrawal s slot generation).1 := by
  unfold reportWithdrawal
  split
  · exact .refl s
  case h_2 r hr =>
    refine Keeps.trans (setStatement_keeps_of_same (ofPair_statement hr).1 ?_) (closeIfClear_keeps _ slot)
    exact ⟨rfl, rfl, rfl⟩

theorem reportLoss_keeps (s : State) (slot : Slot) (generation : Nat) : Keeps s (reportLoss s slot generation) := by
  unfold reportLoss
  split
  · exact .refl s
  case h_2 r hr =>
    refine Keeps.trans (setStatement_keeps_of_same (ofPair_statement hr).1 ?_) (closeIfClear_keeps _ slot)
    exact ⟨rfl, rfl, rfl⟩

/-- A bin record written whose stacking list is no longer than the one it replaces. -/
theorem setBin_keeps {s : State} {b : Bin} {r : BinRecord} (h : r.stacking.length ≤ (s.bin b).stacking.length) :
    Keeps s (s.setBin b r) := by
  refine { bins := fun hs c => ?_ }
  show ((s.setBin b r).bin c).stacking.length ≤ 4
  rw [State.bin_setBin]
  split
  · exact Nat.le_trans h (hs b)
  · exact hs c

theorem removeStacked_keeps (s : State) (b : Bin) (slot : Slot) (generation : Nat) :
    Keeps s (removeStacked s b slot generation) :=
  setBin_keeps (List.length_filter_le _ _)

theorem completeStatement_keeps (s : State) (slot : Slot) (r : Statement) (b : Bin) :
    Keeps s (completeStatement s slot r b) :=
  ((notify_keeps s _).trans (removeStacked_keeps _ b slot r.generation)).trans (setStatement_keeps (by simp))

theorem breakRequests_keeps (s : State) (slot : Slot) (r : Statement) (cause : BreakCause) :
    Keeps s (breakRequests s slot r cause) := by
  unfold breakRequests
  dsimp only
  refine Keeps.trans ?_ (notify_keeps _ _)
  split
  · split
    · exact {}
    · exact {}
  · exact {}

/-- The record that a break leaves is legal (R13, R14). -/
theorem broken_legal {r : Statement} (cause : BreakCause) (h : r.Legal) :
    Statement.Legal { r with state := if r.generation < 3 then .broken else .abandoned, cause := some cause } := by
  obtain ⟨hgeneration, -⟩ := h
  by_cases hthree : r.generation < 3
  · simp [Statement.Legal, hthree, StatementState.ended]
    omega
  · simp [Statement.Legal, hthree, StatementState.ended]
    omega

theorem breakNow_keeps (s : State) (slot : Slot) (generation : Nat) (cause : BreakCause) :
    Keeps s (breakNow s slot generation cause) := by
  unfold breakNow
  split
  · exact .refl s
  case h_2 r hr =>
    split
    · exact .refl s
    · have hwrite : Keeps s (s.setStatement slot (some { r with
          state := if r.generation < 3 then .broken else .abandoned, cause := some cause })) := by
        refine setStatement_keeps fun hs p hp => ?_
        cases hp
        exact broken_legal cause (hs slot r (ofPair_statement hr).1)
      exact (hwrite.trans (breakRequests_keeps _ slot r cause)).trans (closeIfClear_keeps _ slot)

theorem takeBreak_keeps (s : State) (q : BreakRequest) : Keeps s (takeBreak s q) := by
  unfold takeBreak
  split
  · exact breakNow_keeps s q.slot q.generation q.cause
  · exact .refl s

theorem takeBreaksOf_keeps (s : State) (slot : Slot) (generation : Nat) (cause : BreakCause) :
    Keeps s (takeBreaksOf s slot generation cause) := by
  unfold takeBreaksOf
  exact Keeps.trans (t := { s with requests := { s.requests with
    breaks := s.requests.breaks.filter fun q => !q.names slot generation cause } }) {} (.foldl takeBreak_keeps _ _)

theorem deliver_same (r : Statement) (b : Bin) (position : Nat) (condemned : Bool) :
    (r.deliver b position condemned).generation = r.generation ∧ (r.deliver b position condemned).state = r.state ∧
      (r.deliver b position condemned).cause = r.cause := by
  unfold Statement.deliver
  split <;> exact ⟨rfl, rfl, rfl⟩

theorem countDelivery_keeps (s : State) (slot : Slot) (generation : Nat) (b : Bin) (position : Nat) (condemned : Bool) :
    Keeps s (countDelivery s slot generation b position condemned).1 := by
  unfold countDelivery
  split
  · exact .refl s
  case h_2 r hr =>
    have hwrite : Keeps s (s.setStatement slot (some (r.deliver b position condemned))) :=
      setStatement_keeps_of_same (ofPair_statement hr).1 (deliver_same r b position condemned)
    dsimp only
    split
    · exact hwrite.trans (completeStatement_keeps _ slot _ b)
    · exact hwrite.trans (closeIfClear_keeps _ slot)

theorem reportDelivery_keeps (s : State) (slot : Slot) (generation : Nat) (b : Bin) (position : Nat) (condemned : Bool) :
    Keeps s (reportDelivery s slot generation b position condemned).1 :=
  (takeBreaksOf_keeps s slot generation .binOpened).trans (countDelivery_keeps _ slot generation b position condemned)

end Sys2Proof.Machine
end

section
/-! What the operations of the blocks keep, block by block: bins, sequence, gates, admission, tracking. -/

namespace Sys2Proof.Machine

set_option Elab.async false

/-! ## Bins -/

/-- A bin record written with the stacking list it had. -/
theorem restock_keeps {s : State} {b : Bin} {r : BinRecord} (h : r.stacking = (s.bin b).stacking := by rfl) :
    Keeps s (s.setBin b r) :=
  setBin_keeps (Nat.le_of_eq (congrArg List.length h))

theorem reserve_keeps (s : State) (b : Bin) : Keeps s (reserve s b) := restock_keeps

theorem release_keeps (s : State) (b : Bin) : Keeps s (release s b) := restock_keeps

theorem countIn_keeps (s : State) (b : Bin) : Keeps s (countIn s b) := restock_keeps

theorem moveJog_keeps (s : State) (b : Bin) (o : Owner) : Keeps s (moveJog s b o) := restock_keeps

theorem setRole_keeps (s : State) (b : Bin) (role : BinRole) : Keeps s (setRole s b role) := restock_keeps

/-- One function over every bin record that leaves the stacking lists. -/
theorem mapBins_keeps {s : State} {f : BinRecord → BinRecord} (h : ∀ r, (f r).stacking = r.stacking) :
    Keeps s { s with bnm := { s.bnm with records := s.bnm.records.map f } } := by
  refine { bins := fun hs b => ?_ }
  rw [Fin.getElem_fin, Vector.getElem_map, h]
  exact hs b

theorem clearReserved_keeps (s : State) : Keeps s (clearReserved s) := mapBins_keeps fun _ => rfl

theorem closeRanges_keeps (s : State) : Keeps s (closeRanges s) := mapBins_keeps fun _ => rfl

theorem evaluateFence_keeps (s : State) (b : Bin) : Keeps s (evaluateFence s b) :=
  .ite (fun _ => Keeps.trans restock_keeps (notify_keeps _ _)) fun _ => .refl s

theorem openWith_keeps {after : State → Bin → State} (h : ∀ u b, Keeps u (after u b)) (s : State) (b : Bin) :
    Keeps s (openWith after s b) := by
  have hdoor : Keeps s (setDoor s b true) := {}
  refine .ite (fun _ => .refl s) fun _ => .ite (fun _ => hdoor) fun _ => ?_
  exact ((hdoor.trans restock_keeps).trans (notify_keeps _ _)).trans (h _ b)

theorem breakListed_keeps (s : State) (b : Bin) : Keeps s (breakListed s b) := {}

theorem openStacker_keeps (s : State) (b : Bin) : Keeps s (openStacker s b) := openWith_keeps breakListed_keeps s b

theorem placeSpoil_keeps (s : State) (b : Bin) (ident : Ident) (position : Nat) :
    Keeps s (placeSpoil s b ident position) := by
  unfold placeSpoil
  dsimp only
  split
  · exact restock_keeps
  · exact Keeps.trans restock_keeps (evaluateFence_keeps _ b)

theorem openSpoil_keeps (s : State) (b : Bin) (ident : Ident) (first last : Nat) :
    Keeps s (openSpoil s b ident first last) := by
  unfold openSpoil
  dsimp only
  split
  · exact restock_keeps
  · exact Keeps.trans restock_keeps (evaluateFence_keeps _ b)

theorem closeSpoil_keeps (s : State) (b : Bin) (slot : Slot) (generation : Nat) (ident : Ident) :
    Keeps s (closeSpoil s b slot generation ident) :=
  Keeps.trans restock_keeps (removeStacked_keeps _ b slot generation)

theorem takeBin_keeps (s : State) (q : BinRequest) : Keeps s (takeBin s q) := by
  cases q with
  | opening b ident first last => exact openSpoil_keeps s b ident first last
  | closing b slot generation ident => exact closeSpoil_keeps s b slot generation ident

theorem fillUp_keeps (s : State) (b : Bin) : Keeps s (fillUp s b) :=
  .ite (fun _ => Keeps.trans restock_keeps (notify_keeps _ _)) fun _ => .refl s

theorem reportAndPlace_keeps (s : State) (b : Bin) (r : Sheet) (position : Nat) :
    Keeps s (reportAndPlace s b r position) := by
  have hreport := reportDelivery_keeps s r.slot r.generation b position r.condemned.isSome
  unfold reportAndPlace
  split <;> rename_i heq <;> rw [heq] at hreport
  · exact hreport.trans (placeSpoil_keeps _ b _ position)
  · exact hreport
  · exact hreport

theorem deliverStacker_keeps (s : State) (b : Bin) (t : Tag) (r : Sheet) (later : Bool) :
    Keeps s (deliverStacker s b t r later) :=
  .ite (fun _ => .refl s) fun _ =>
    ((((countIn_keeps s b).trans (moveJog_keeps _ b _)).trans (reportAndPlace_keeps _ b r _)).trans
      (fillUp_keeps _ b)).trans (sendRetirement_keeps _ t r.owner later)

theorem deliverPurge_keeps (s : State) (t : Tag) (r : Sheet) (later : Bool) : Keeps s (deliverPurge s t r later) :=
  (((countIn_keeps s .p).trans (reportDelivery_keeps _ r.slot r.generation .p 0 r.condemned.isSome)).trans
    (fillUp_keeps _ .p)).trans (sendRetirement_keeps _ t r.owner later)

theorem deliver_keeps (s : State) (b : Bin) (t : Tag) (later : Bool) : Keeps s (deliver s b t later) := by
  unfold deliver
  split
  · exact .refl s
  · exact .ite (fun _ => deliverPurge_keeps s t _ later) fun _ => deliverStacker_keeps s b t _ later

theorem leadAtBin_keeps (s : State) (b : Bin) (t : Tag) : Keeps s (leadAtBin s b t) := {}

theorem setFourBins_keeps (s : State) (on : Bool) : Keeps s (setFourBins s on) :=
  .ite (fun _ => (setRole_keeps s .b3 _).trans (setRole_keeps _ .b4 _))
    fun _ => (setRole_keeps s .b3 _).trans (setRole_keeps _ .b4 _)

theorem writeUnits_keeps (s : State) (u : Units) : Keeps s (writeUnits s u) :=
  Keeps.trans (t := { s with profile := { s.profile with enabled := u } }) {}
    (.ite (fun _ => .refl _) fun _ => setFourBins_keeps _ _)

/-! ## Sequence -/

theorem setPitches_keeps {s : State} {l : List Pitch} (h : l.length ≤ s.tsq.pitches.length) : Keeps s (s.setPitches l) :=
  { pitches := h }

theorem updatePitch_keeps (s : State) (t : Tag) (f : Pitch → Pitch) : Keeps s (s.updatePitch t f) :=
  setPitches_keeps (by simp)

theorem removePitch_keeps (s : State) (t : Tag) : Keeps s (s.removePitch t) :=
  setPitches_keeps (List.length_filter_le _ _)

theorem setTransferEnable_keeps (s : State) (asserted : Bool) : Keeps s (s.setTransferEnable asserted) :=
  { pitches := Nat.le_refl _ }

theorem missPitch_keeps (s : State) (p : Pitch) (reason : MissReason) : Keeps s (missPitch s p reason) := by
  have hmissed : SideState.missed ≠ .none_ := by decide
  exact ((((updatePitch_keeps s p.tag _).trans (claimSide_keeps _ p.tag p.slot p.generation p.side hmissed)).trans
    (notify_keeps _ _)).trans (claimCondemn_keeps _ _)).trans (askBreak_keeps _ _ _ _ _)

theorem expireDeadline_keeps (s : State) (t : Tag) : Keeps s (expireDeadline s t) := by
  unfold expireDeadline
  split
  · exact .refl s
  · exact .ite (fun _ => missPitch_keeps s _ .deadline) fun _ => .refl s

theorem moveDeadline_keeps (s : State) (t : Tag) (predicted : Count) : Keeps s (moveDeadline s t predicted) :=
  (updatePitch_keeps s t _).trans (expireDeadline_keeps _ t)

theorem pullInDeadlines_keeps (s : State) : Keeps s (pullInDeadlines s) :=
  (setPitches_keeps (by simp)).trans (.foldl expireDeadline_keeps _ _)

theorem registerPitch_keeps (s : State) (t : Tag) : Keeps s (registerPitch s t) := by
  have himaging : SideState.imaging ≠ .none_ := by decide
  unfold registerPitch
  split
  · exact .refl s
  case h_2 p hp =>
    refine Keeps.trans (t := s.updatePitch t fun q => { q with registered := true }) (updatePitch_keeps s t _) ?_
    dsimp only
    split
    · exact ((updatePitch_keeps _ t _).trans (claimSide_keeps _ t p.slot p.generation p.side himaging)).trans
        (setTransferEnable_keeps _ true)
    · exact (missPitch_keeps _ p .deadline).trans (setTransferEnable_keeps _ false)
    · exact setTransferEnable_keeps _ false
    · exact .refl _

theorem finishPitch_keeps (s : State) (t : Tag) : Keeps s (finishPitch s t) := by
  have hdone : SideState.done ≠ .none_ := by decide
  have hleave : ∀ (w : Bool) (u : State),
      Keeps u (if w then (u.removePitch t).setTransferEnable false else u.removePitch t) := fun w u =>
    .ite (fun _ => (removePitch_keeps u t).trans (setTransferEnable_keeps _ false)) fun _ => removePitch_keeps u t
  unfold finishPitch
  split
  · exact .refl s
  case h_2 p hp =>
    dsimp only
    split
    · exact (claimSide_keeps s t p.slot p.generation p.side hdone).trans (hleave _ _)
    · exact hleave _ s
    · exact .refl s
    · exact .refl s

theorem withdrawPitch_keeps (s : State) (t : Tag) : Keeps s (withdrawPitch s t) := by
  unfold withdrawPitch
  split
  · exact .refl s
  · exact (removePitch_keeps s t).trans (notify_keeps _ _)

theorem haltSequencer_keeps (s : State) : Keeps s (haltSequencer s) := { pitches := Nat.le_refl _ }

theorem clearSequencer_keeps (s : State) : Keeps s (clearSequencer s) :=
  Keeps.trans (t := { s with tsq := { s.tsq with pitches := [], transferEnable := false, halted := false } }) {}
    (.foldl (fun u _ => notify_keeps u _) _ _)

/-! ## Gates -/

/-- A gate record written whose pending list has room for its requests. -/
theorem setGate_keeps {s : State} {g : Gate} {r : GateRecord}
    (h : (s.gate g).waiting.length ≤ 2 → r.waiting.length ≤ 2) : Keeps s (s.setGate g r) := by
  refine { gates := fun hs k => ?_ }
  show ((s.setGate g r).gate k).waiting.length ≤ 2
  rw [State.gate_setGate]
  split
  · exact h (hs g)
  · exact hs k

theorem setGateLine_keeps (s : State) (g : Gate) (asserted : Bool) : Keeps s (s.setGateLine g asserted) :=
  { gates := id }

theorem length_insertRequest (q : GateRequest) (l : List GateRequest) : (insertRequest q l).length = l.length + 1 := by
  induction l with
  | nil => rfl
  | cons h t ih =>
    unfold insertRequest
    split
    · rfl
    · exact congrArg (· + 1) ih

theorem addRequest_keeps (s : State) (g : Gate) (q : GateRequest) : Keeps s (addRequest s g q) :=
  .ite (fun hroom => setGate_keeps fun _ => by rw [length_insertRequest]; exact hroom) fun _ => {}

theorem scheduleD_keeps (s : State) (t : Tag) (o : Owner) (c : Count) : Keeps s (scheduleD s t o c) := by
  unfold scheduleD
  split
  · exact .refl s
  · exact addRequest_keeps s .d _

theorem scheduleG_keeps (s : State) (t : Tag) (o : Owner) (c : Count) : Keeps s (scheduleG s t o c) := by
  unfold scheduleG
  split
  · exact .refl s
  · exact .foldl (fun u (k : Gate × RequestKind) => addRequest_keeps u k.1 _) _ _

theorem dropRequest_keeps (s : State) (g : Gate) (q : GateRequest) : Keeps s (dropRequest s g q) :=
  setGate_keeps fun h => Nat.le_trans List.length_erase_le h

theorem takeThrow_keeps (s : State) (g : Gate) (q : GateRequest) : Keeps s (takeThrow s g q) := by
  refine (dropRequest_keeps s g q).trans ?_
  unfold takeThrow
  dsimp only
  split
  · exact .refl _
  · refine Keeps.trans (Keeps.trans (setGate_keeps ?_) (setGateLine_keeps _ g true))
      (.ite (fun _ => .refl _) fun _ => claimCommit_keeps _ _ _)
    exact id

theorem takePassage_keeps (s : State) (g : Gate) (q : GateRequest) : Keeps s (takePassage s g q) := by
  refine (dropRequest_keeps s g q).trans ?_
  unfold takePassage
  dsimp only
  split
  · exact .refl _
  · exact .ite (fun _ => handFault_keeps _ _ _ _) fun _ => .refl _

theorem takeClearance_keeps (s : State) (g : Gate) : Keeps s (takeClearance s g) := by
  unfold takeClearance
  split
  · exact .refl s
  · exact .ite (fun _ => (setGate_keeps (by exact id)).trans (setGateLine_keeps _ g false)) fun _ => .refl s

theorem gatesBounded_atReset : GatesBounded Gates.atReset.records := fun g => by cases g <;> decide

theorem clearGates_keeps (s : State) : Keeps s (clearGates s) := { gates := fun _ => gatesBounded_atReset }

theorem policyD_keeps (s : State) : Keeps s (policyD s) := .ite (fun _ => setGateLine_keeps s .d false) fun _ => .refl s

theorem policyG_keeps (s : State) : Keeps s (policyG s) :=
  { gates := by rw [(lines_policyG s).1]; exact id }

theorem freezeGates_keeps (s : State) : Keeps s (freezeGates s) := { gates := id }

/-! ## Admission -/

/-- An Admission Controller written within its bounds. -/
theorem setAdm_keeps {s : State} {a : Admission} (h : FeedBounded s.adm → FeedBounded a) : Keeps s { s with adm := a } :=
  { feed := h }

/-- One written with the same queues, pick and starvation count. -/
theorem feedBounded_congr {a b : Admission} (hnew : b.newQueue = a.newQueue) (hrestart : b.restartQueue = a.restartQueue)
    (hpick : b.pick = a.pick) (hstarvation : b.starvation = a.starvation) (h : FeedBounded a) : FeedBounded b := by
  obtain ⟨hqueues, hcount⟩ := h
  refine ⟨fun q => ?_, by rwa [hstarvation]⟩
  have hq := hqueues q
  cases q <;> simpa [Admission.entries, hnew, hrestart, hpick] using hq

theorem setPickLine_keeps (s : State) (t : Tray) (asserted : Bool) : Keeps s (s.setPickLine t asserted) :=
  setAdm_keeps (feedBounded_congr rfl rfl rfl rfl)

theorem setCondition_keeps (s : State) (t : Tray) (c : TrayCondition) : Keeps s (s.setCondition t c) :=
  setAdm_keeps (feedBounded_congr rfl rfl rfl rfl)

theorem setHold_keeps (s : State) (q : Queue) (h : HoldReason) : Keeps s (s.setHold q h) := by
  cases q <;> exact setAdm_keeps (feedBounded_congr rfl rfl rfl rfl)

/-- Entries that leave the queues. -/
theorem takeFlush_keeps (s : State) (o : Owner) : Keeps s (takeFlush s o) := by
  refine setAdm_keeps fun ⟨hqueues, hcount⟩ => ⟨fun q => ?_, hcount⟩
  refine Nat.le_trans (Nat.add_le_add_right ?_ _) (hqueues q)
  cases q <;> exact List.length_filter_le _ _

theorem takeSuspect_keeps (s : State) (t : Tray) : Keeps s (takeSuspect s t) :=
  .ite (fun _ => (setCondition_keeps s t _).trans (notify_keeps _ _)) fun _ => .refl s

theorem failTray_keeps (s : State) (t : Tray) : Keeps s (failTray s t) :=
  .ite (fun _ => .refl s) fun _ => (setCondition_keeps s t _).trans (notify_keeps _ _)

theorem evaluateQueue_keeps (s : State) (q : Queue) : Keeps s (evaluateQueue s q) := by
  refine (setHold_keeps s q (evaluate s q)).trans ?_
  unfold evaluateQueue
  dsimp only
  split
  · exact .refl _
  · exact .ite (fun _ => {}) fun _ => .refl _

theorem evaluateBoth_keeps (s : State) : Keeps s (evaluateBoth s) :=
  (evaluateQueue_keeps s .new).trans (evaluateQueue_keeps _ .restart)

theorem evaluateAfter_keeps (before s : State) : Keeps s (evaluateAfter before s) := by
  rw [evaluateAfter_eq]
  exact { feed := feedBounded_congr rfl rfl rfl rfl }

theorem takeSuspects_keeps (before s : State) : Keeps s (takeSuspects before s) :=
  Keeps.trans (t := { s with adm := { s.adm with suspects := s.adm.suspects.drop before.adm.suspects.length } })
    (setAdm_keeps (feedBounded_congr rfl rfl rfl rfl)) (.foldl takeSuspect_keeps _ _)

/-- The end of every step keeps. -/
theorem finish_keeps {before u t : State} (h : finish before u = .next t) : Keeps u t := by
  have hlast : Keeps u (evaluateAfter before (takeRetirements before u)) :=
    (takeRetirements_keeps before u).trans (evaluateAfter_keeps before _)
  cases h
  exact .ite (fun _ => hlast) fun _ => hlast.trans ((takeSuspects_keeps before _).trans (evaluateAfter_keeps _ _))

theorem pickDone_keeps (s : State) (t : Tag) (tray : Tray) (c : Count) : Keeps s (pickDone s t tray c) := by
  refine Keeps.trans ((setPickLine_keeps s tray false).trans (setAdm_keeps fun h => ?_)) (moveDeadline_keeps _ t _)
  obtain ⟨hqueues, hcount⟩ := h
  refine ⟨fun q => Nat.le_trans (Nat.add_le_add_left ?_ _) (hqueues q), hcount⟩
  dsimp only
  split <;> split <;> simp_all

end Sys2Proof.Machine
end

section
/-! What the misfeed, the Path Tracker and the reroute keep. -/

namespace Sys2Proof.Machine

set_option Elab.async false

/-! ## Misfeed -/

/-- A queue written over a state that was kept, within its bound. -/
theorem Keeps.setQueue {s u : State} (h : Keeps s u) {q : Queue} {l : List Entry}
    (hfeed : FeedBounded s.adm → FeedBounded (u.setQueue q l).adm) : Keeps s (u.setQueue q l) := by
  cases q <;> exact { h with feed := hfeed }

theorem failTray_adm (s : State) (t : Tray) :
    (failTray s t).adm = { s.adm with conditions := (failTray s t).adm.conditions } := by
  unfold failTray
  split
  · rfl
  · rw [State.notify_adm]; rfl

/-- Where a pick ends, its queue has room for the page it took (R47). -/
theorem feedBounded_putBack {s u : State} {p : Pick} (e : Entry) (hp : s.adm.pick = some p)
    (hadm : u.adm = { s.adm with pick := none, conditions := u.adm.conditions }) (h : FeedBounded s.adm) :
    FeedBounded (u.setQueue p.source (e :: u.queue p.source)).adm := by
  obtain ⟨hqueues, hcount⟩ := h
  have hnew := hqueues .new
  have hrestart := hqueues .restart
  have hentries : u.adm.newQueue = s.adm.newQueue ∧ u.adm.restartQueue = s.adm.restartQueue ∧ u.adm.pick = none ∧
      u.adm.starvation = s.adm.starvation := by
    rw [hadm]
    exact ⟨rfl, rfl, rfl, rfl⟩
  clear hadm
  obtain ⟨hn, hr, hpick, hstarvation⟩ := hentries
  rw [hp] at hnew hrestart
  cases hsource : p.source <;> refine ⟨fun q => ?_, Nat.le_trans (Nat.le_of_eq hstarvation) hcount⟩ <;> cases q <;>
    simp_all [Admission.entries, State.queue, State.setQueue]

theorem requeue_keeps {s : State} {p : Pick} (hp : s.adm.pick = some p) (r : Sheet) (answer : Option StatementState) :
    Keeps s (requeue s p r answer) := by
  let free : State := { s with adm := { s.adm with pick := none } }
  let u : State := if r.attempts + 1 = 3 then failTray free r.tray else free
  have hfree : Keeps s free := setAdm_keeps fun ⟨hqueues, hcount⟩ =>
    ⟨fun q => Nat.le_trans (Nat.add_le_add_left (by simp) _) (hqueues q), hcount⟩
  have hu : Keeps s u := .ite (fun _ => hfree.trans (failTray_keeps _ _)) fun _ => hfree
  have hadm : u.adm = { s.adm with pick := none, conditions := u.adm.conditions } := by
    by_cases hthird : r.attempts + 1 = 3
    · simp only [u, if_pos hthird]
      exact failTray_adm free r.tray
    · simp only [u, if_neg hthird]
      rfl
  show Keeps s (match answer with
    | none => u
    | some st => if st.ended then u else u.setQueue p.source (_ :: u.queue p.source))
  split
  · exact hu
  · exact .ite (fun _ => hu) fun _ => hu.setQueue (feedBounded_putBack _ hp hadm)

theorem misfeed_keeps (s : State) (t : Tag) : Keeps s (misfeed s t) := by
  unfold misfeed
  split
  · exact .refl s
  case h_2 p hp =>
    have hline := setPickLine_keeps s p.entry.tray false
    refine .ite (fun _ => .refl s) fun _ => ?_
    dsimp only
    split
    · exact hline
    case h_2 r hr =>
      refine .ite (fun _ => hline) fun _ => hline.trans ?_
      refine Keeps.trans (Keeps.trans ((retire_keeps _ t).trans (withdrawPitch_keeps _ t)) (release_keeps _ r.target)) ?_
      refine Keeps.trans (Keeps.trans (.ite (fun _ => takeBreaksOf_keeps _ r.slot r.generation .blank) fun _ => .refl _)
        (reportWithdrawal_keeps _ r.slot r.generation)) (requeue_keeps ?_ r _)
      have hpick : ∀ u : State, u.adm.pick = some p →
          (if r.front = .missed then takeBreaksOf u r.slot r.generation .blank else u).adm.pick = some p := by
        intro u hu
        split
        · simpa using hu
        · exact hu
      simpa using hpick (release (withdrawPitch (retire (s.setPickLine p.entry.tray false) t) t) r.target)
        (by simpa [State.setPickLine] using hp)

/-! ## Tracking -/

/-- A tracker written within the bounds of its lists and verdict counts. -/
theorem setPtk_keeps {s : State} {k : Tracker} (hlists : ListsBounded s.ptk.lists → ListsBounded k.lists)
    (hverdicts : VerdictsBounded s.ptk.verdicts → VerdictsBounded k.verdicts) : Keeps s { s with ptk := k } :=
  { lists := hlists, verdicts := hverdicts }

theorem setLevel_keeps (s : State) (x : Sensor) (level : Bool) : Keeps s (setLevel s x level) := setPtk_keeps id id

theorem setDebounce_keeps (s : State) (x : Sensor) (c : Option Count) : Keeps s (setDebounce s x c) := setPtk_keeps id id

theorem settleDebounces_keeps (s : State) : Keeps s (settleDebounces s) := setPtk_keeps id id

/-- An expectation list written within its bound. -/
theorem setList_keeps {s : State} {x : Sensor} {l : List Expectation} (h : (s.list x).length ≤ 4 → l.length ≤ 4) :
    Keeps s (s.setList x l) := by
  refine setPtk_keeps (fun hs y => ?_) id
  show ((s.setList x l).list y).length ≤ 4
  rw [State.list_setList]
  split
  · exact h (hs x)
  · exact hs y

theorem length_insertByOpen (e : Expectation) (l : List Expectation) : (insertByOpen e l).length = l.length + 1 := by
  induction l with
  | nil => rfl
  | cons h t ih =>
    unfold insertByOpen
    split
    · rfl
    · exact congrArg (· + 1) ih

theorem expect_keeps (s : State) (x : Sensor) (e : Expectation) : Keeps s (expect s x e) :=
  .ite (fun hroom => setList_keeps fun _ => by rw [length_insertByOpen]; exact hroom) fun _ => handFault_keeps _ _ _ _

theorem dropEntry_keeps (s : State) (x : Sensor) (e : Expectation) : Keeps s (dropEntry s x e) :=
  setList_keeps fun h => Nat.le_trans List.length_erase_le h

theorem nextEntry_keeps (s : State) (t : Tag) (o : Owner) (x : Sensor) (c : Count) : Keeps s (nextEntry s t o x c) := by
  unfold nextEntry
  split
  · exact .refl s
  · split
    · exact expect_keeps s _ _
    · exact .ite (fun _ => setPtk_keeps id id) fun _ => .refl s

theorem startBurst_keeps (s : State) (t : Tag) (before : Option Sheet) (c : Count) :
    Keeps s (startBurst s t before c) := by
  unfold startBurst
  split
  · exact .refl s
  · exact .ite (fun _ => setPtk_keeps id id) fun _ => .refl s

theorem handLead_keeps (s : State) (t : Tag) (o : Owner) (x : Sensor) (before : Option Sheet) (c : Count) :
    Keeps s (handLead s t o x before c) := by
  cases x with
  | f1 => exact pickDone_keeps s t .t1 c
  | f2 => exact pickDone_keeps s t .t2 c
  | f3 => exact pickDone_keeps s t .t3 c
  | reg => exact (registerPitch_keeps s t).trans (startBurst_keeps _ t before c)
  | fuse => exact scheduleD_keeps s t o c
  | out => exact scheduleG_keeps s t o c
  | b1 => exact leadAtBin_keeps s .b1 t
  | b2 => exact leadAtBin_keeps s .b2 t
  | b3 => exact leadAtBin_keeps s .b3 t
  | b4 => exact leadAtBin_keeps s .b4 t
  | bp => exact leadAtBin_keeps s .p t
  | xfer => exact .refl s
  | dup1 => exact .refl s
  | dup2 => exact .refl s

theorem acceptLead_keeps (s : State) (x : Sensor) (e : Expectation) (c : Count) : Keeps s (acceptLead s x e c) :=
  (((dropEntry_keeps s x e).trans (claimLead_keeps _ e.tag e.owner x c)).trans
    (nextEntry_keeps _ e.tag e.owner x c)).trans (handLead_keeps _ e.tag e.owner x _ c)

theorem expireEntry_keeps (s : State) (x : Sensor) (e : Expectation) : Keeps s (expireEntry s x e) := by
  refine (dropEntry_keeps s x e).trans ?_
  unfold expireEntry
  dsimp only
  split
  · exact misfeed_keeps _ e.tag
  · exact handFault_keeps _ _ _ _

theorem expireOverdue_keeps (s : State) (x : Sensor) (c : Count) : Keeps s (expireOverdue s x c) :=
  .foldl (fun u e => expireEntry_keeps u x e) _ s

theorem lead_keeps (s : State) (x : Sensor) (c : Count) : Keeps s (lead s x c) := by
  refine (expireOverdue_keeps s x c).trans ?_
  unfold lead
  dsimp only
  split
  · exact handFault_keeps _ _ _ _
  · exact .ite (fun _ => handFault_keeps _ _ _ _) fun _ =>
      .ite (fun _ => handFault_keeps _ _ _ _) fun _ => acceptLead_keeps _ x _ c

/-- A record written over the live record of its tag, aged. -/
theorem setSheet_keeps_of_ages {s : State} {t : Tag} {r q : Sheet} (hr : s.sheet t = some r) (h : r.Ages q) :
    Keeps s (s.setSheet t (some q)) :=
  setSheet_keeps fun p hp => by
    cases hp
    exact ⟨r, hr, h⟩

theorem expireTrail_keeps {s : State} {t : Tag} {r : Sheet} (hr : s.sheet t = some r) (w : TrailPending) :
    Keeps s (expireTrail s t r w) := by
  refine Keeps.trans (setSheet_keeps_of_ages hr ?_) (handFault_keeps _ _ _ _)
  exact ⟨id, id, id⟩

theorem acceptTrail_keeps (s : State) (t : Tag) (o : Owner) (x : Sensor) (later : Bool) :
    Keeps s (acceptTrail s t o x later) := by
  refine (claimTrail_keeps s t o x).trans ?_
  unfold acceptTrail
  dsimp only
  split
  · exact deliver_keeps _ _ t later
  · exact .ite (fun _ => finishPitch_keeps _ t) fun _ => .refl _

theorem judgeTrail_keeps (s : State) (t : Tag) (x : Sensor) (c : Count) (later : Bool) :
    Keeps s (judgeTrail s t x c later) := by
  unfold judgeTrail
  split
  · exact .refl s
  case h_2 r hr =>
    split
    · exact .refl s
    · exact .ite (fun _ => handFault_keeps _ _ _ _) fun _ => .ite (fun _ => acceptTrail_keeps s t _ x later) fun _ =>
        .ite (fun _ => .refl s) fun _ => expireTrail_keeps hr _

theorem expireRelease_keeps (s : State) (w : ReleaseWindow) : Keeps s (expireRelease s w) := by
  refine Keeps.trans (setPtk_keeps ?_ ?_) (handFault_keeps _ _ _ _) <;> exact id

theorem judgeRelease_keeps (s : State) (w : ReleaseWindow) (c : Count) : Keeps s (judgeRelease s w c) :=
  .ite (fun _ => handFault_keeps _ _ _ _) fun _ =>
    .ite (fun _ => { feed := feedBounded_congr rfl rfl rfl rfl }) fun _ =>
      .ite (fun _ => .refl s) fun _ => expireRelease_keeps s w

theorem matchTrail_keeps (s : State) (x : Sensor) (c : Count) (later : Bool) : Keeps s (matchTrail s x c later) := by
  unfold matchTrail
  split
  · exact judgeTrail_keeps s _ x c later
  · refine .ite (fun _ => handFault_keeps _ _ _ _) fun _ => ?_
    split
    · exact handFault_keeps _ _ _ _
    · exact .refl s

theorem trail_keeps (s : State) (x : Sensor) (c : Count) (later : Bool) : Keeps s (trail s x c later) := by
  refine .ite (fun _ => ?_) fun _ => ?_
  · split
    · exact judgeRelease_keeps s _ c
    · exact matchTrail_keeps s _ c later
  · split
    · exact judgeTrail_keeps s _ x c later
    · exact .refl s

theorem acceptEdge_keeps (s : State) (x : Sensor) (c : Count) (later : Bool) : Keeps s (acceptEdge s x c later) :=
  (setLevel_keeps s x _).trans
    (.ite (fun _ => .ite (fun _ => lead_keeps _ x c) fun _ => trail_keeps _ x c later) fun _ => .refl _)

theorem completeDebounce_keeps (s : State) (x : Sensor) (later : Bool) : Keeps s (completeDebounce s x later) := by
  unfold completeDebounce
  split
  · exact .refl s
  · exact .ite (fun _ => acceptEdge_keeps s x _ later) fun _ => .refl s

theorem toggleSensor_keeps (s : State) (x : Sensor) : Keeps s (toggleSensor s x) := by
  unfold toggleSensor
  exact {}

theorem changeLine_keeps (s : State) (x : Sensor) : Keeps s (changeLine s x) :=
  ((completeDebounce_keeps s x false).trans (toggleSensor_keeps _ x)).trans
    (.ite (fun _ => setDebounce_keeps _ x none) fun _ =>
      .ite (fun _ => acceptEdge_keeps _ x _ false) fun _ => setDebounce_keeps _ x _)

theorem expireAt_keeps (s : State) (x : Sensor) : Keeps s (expireAt s x) := by
  unfold expireAt
  split
  · exact .refl s
  · exact expireEntry_keeps s x _

theorem expireTrailOf_keeps (s : State) (t : Tag) : Keeps s (expireTrailOf s t) := by
  unfold expireTrailOf
  split
  · exact .refl s
  case h_2 r hr =>
    split
    · exact .refl s
    · exact .ite (fun _ => expireTrail_keeps hr _) fun _ => .refl s

theorem expireReleaseWindow_keeps (s : State) : Keeps s (expireReleaseWindow s) := by
  unfold expireReleaseWindow
  split
  · exact .refl s
  · exact .ite (fun _ => expireRelease_keeps s _) fun _ => .refl s

theorem widenAll_keeps (s : State) : Keeps s (widenAll s) := by
  refine Keeps.trans (mapSheets_keeps fun r => ?_) (setPtk_keeps (fun hs x => ?_) id)
  · split
    · exact ⟨id, id, id⟩
    · exact .refl r
  · rw [Fin.getElem_fin, Vector.getElem_ofFn, List.length_map]
    exact hs x

theorem latch_keeps (s : State) (cause : JamCause) (sensor : Sensor) (tag : Option Tag) (second : Bool) :
    Keeps s (latch s cause sensor tag second) :=
  .ite (fun _ => setPtk_keeps id id) fun _ => setPtk_keeps id id

theorem freezeTracker_keeps (s : State) : Keeps s (freezeTracker s) := setPtk_keeps id id

theorem listsBounded_empty : ListsBounded (Vector.replicate 14 []) := fun x => by simp

theorem clearTracker_keeps (s : State) : Keeps s (clearTracker s) := setPtk_keeps (fun _ => listsBounded_empty) id

/-! ## Reroute -/

theorem moveToPurge_keeps (s : State) (t : Tag) (lastLead : Count) : Keeps s (moveToPurge s t lastLead) := by
  unfold moveToPurge
  split
  · exact .refl s
  · split
    · exact .refl s
    · exact (dropEntry_keeps s _ _).trans (expect_keeps _ .bp _)

theorem rerouteGates_keeps (s : State) (g : Gate) (t : Tag) (o : Owner) (lastLead : Count) :
    Keeps s (rerouteGates s g t o lastLead) := by
  refine .ite (fun _ => ?_) fun _ => .refl s
  refine Keeps.trans (setGate_keeps (g := g) fun h => ?_) (.foldl (fun u k => addRequest_keeps u k _) _ _)
  simpa using h

theorem rerouteOne_keeps (s : State) (t : Tag) : Keeps s (rerouteOne s t) := by
  unfold rerouteOne
  split
  · exact .refl s
  case h_2 r hr =>
    split
    · exact .refl s
    case h_2 g hg =>
      refine .ite (fun _ => .refl s) fun _ => ?_
      refine Keeps.trans (Keeps.trans (setSheet_keeps_of_ages hr ?_)
        ((release_keeps _ r.target).trans (reserve_keeps _ .p)))
        ((rerouteGates_keeps _ g t r.owner _).trans (moveToPurge_keeps _ t _))
      exact ⟨id, id, id⟩

theorem takeReroute_keeps (s : State) (q : RerouteRequest) : Keeps s (takeReroute s q) := by
  unfold takeReroute
  split
  · exact .ite (fun _ => rerouteOne_keeps s _) fun _ => .refl s
  · exact .foldl rerouteOne_keeps _ s

end Sys2Proof.Machine
end

section
/-! What the transport, jam handling, the resets and the commands of the index keep. -/

namespace Sys2Proof.Machine

set_option Elab.async false

/-! ## Transport -/

/-- The transport record written: no bound lies in it. -/
theorem setTsv_keeps (s : State) (v : Transport) : Keeps s { s with tsv := v } := {}

theorem enter_keeps (s : State) (st : TransportState) (cause : TransportCause) (reason : StartReason) :
    Keeps s (enter s st cause reason) :=
  (setTsv_keeps s _).trans (notify_keeps _ _)

theorem withdrawBoth_keeps (s : State) : Keeps s (withdrawBoth s) :=
  (setTsv_keeps s _).trans (settleDebounces_keeps _)

theorem endStart_keeps (s : State) (cause : TransportCause) (reason : StartReason) : Keeps s (endStart s cause reason) :=
  ((withdrawBoth_keeps s).trans (setTsv_keeps _ _)).trans (enter_keeps _ .stopped cause reason)

theorem stopEvent_keeps (s : State) (cause : TransportCause) : Keeps s (stopEvent s cause) := by
  unfold stopEvent
  split
  · exact enter_keeps s .draining cause .none_
  · exact endStart_keeps s cause .none_
  all_goals exact .refl s

theorem acceptStart_keeps (s : State) : Keeps s (acceptStart s) :=
  (setTsv_keeps s _).trans (enter_keeps _ .starting .start .none_)

theorem startComplete_keeps (s : State) : Keeps s (startComplete s) :=
  (setTsv_keeps s _).trans (enter_keeps _ .running .startComplete .none_)

theorem endSpan_keeps (s : State) (time : Nat) : Keeps s (endSpan s time) :=
  (setTsv_keeps s _).trans (.ite (fun _ => startComplete_keeps _) fun _ => .refl _)

theorem measure_keeps (s : State) (elapsed : Nat) : Keeps s (measure s elapsed) := by
  unfold measure
  split
  · exact setTsv_keeps s _
  · exact .ite (fun _ => setTsv_keeps s _) fun _ => endSpan_keeps s _

theorem notePulse_keeps (s : State) : Keeps s (notePulse s) := .ite (fun _ => setTsv_keeps s _) fun _ => .refl s

theorem advance_keeps (s : State) (n : Nat) : Keeps s (advance s n) := setTsv_keeps s _

theorem pulse_keeps (s : State) (elapsed : Nat) : Keeps s (pulse s elapsed) :=
  (notePulse_keeps s).trans
    (.ite (fun _ => ((advance_keeps _ 1).trans (setTsv_keeps _ _)).trans (measure_keeps _ elapsed)) fun _ => .refl _)

theorem takeExpiry_keeps (s : State) (k : Expiry) : Keeps s (takeExpiry s k) := by
  cases k with
  | lead x e => exact .ite (fun _ => expireEntry_keeps s x e) fun _ => .refl s
  | trail t => exact expireTrailOf_keeps s t
  | release => exact expireReleaseWindow_keeps s
  | deadline t => exact expireDeadline_keeps s t

theorem takeExpiries_keeps (s : State) : Keeps s (takeExpiries s) :=
  .foldl (fun u (k : Count × Expiry) => takeExpiry_keeps u k.2) _ s

theorem loseEncoder_keeps (s : State) : Keeps s (loseEncoder s) := setTsv_keeps s _

theorem beginBackup_keeps (s : State) : Keeps s (beginBackup s) :=
  ((setTsv_keeps s _).trans (widenAll_keeps _)).trans (pullInDeadlines_keeps _)

theorem takeOver_keeps (s : State) : Keeps s (takeOver s) :=
  ((beginBackup_keeps s).trans (advance_keeps _ _)).trans (takeExpiries_keeps _)

theorem takeSilence_keeps (s : State) : Keeps s (takeSilence s) := by
  unfold takeSilence
  split
  · exact (loseEncoder_keeps s).trans (endStart_keeps _ .startFailed .encoder)
  · exact (takeOver_keeps s).trans (enter_keeps _ .draining .encoderLost .none_)
  · exact (takeOver_keeps s).trans (enter_keeps _ .draining .encoderLost .none_)
  · exact (takeOver_keeps s).trans (enter_keeps _ .runout .encoderLost .none_)
  all_goals exact .refl s

theorem completeDrain_keeps (s : State) : Keeps s (completeDrain s) :=
  ((withdrawBoth_keeps s).trans (clearGates_keeps _)).trans (enter_keeps _ .stopped .drainComplete .none_)

theorem setSupply_keeps (s : State) (asserted : Bool) : Keeps s (setSupply s asserted) :=
  Keeps.trans (t := { s with lines := { s.lines with supplyWarning := asserted } }) {} (notify_keeps _ _)

/-! ## Jam handling -/

theorem recordJam_keeps (s : State) (f : PathFault) : Keeps s (recordJam s f) := by
  unfold recordJam
  refine Keeps.trans (Keeps.trans ?_ (latch_keeps _ f.cause f.sensor f.tag false)) (notify_keeps _ _)
  exact {}

theorem haltAdmission_keeps (s : State) : Keeps s (haltAdmission s) := setAdm_keeps (feedBounded_congr rfl rfl rfl rfl)

theorem stopMain_keeps (s : State) : Keeps s (stopMain s) :=
  (((((setTsv_keeps s _).trans (haltSequencer_keeps _)).trans (freezeTracker_keeps _)).trans (freezeGates_keeps _)).trans
    (policyD_keeps _)).trans (haltAdmission_keeps _)

theorem endRunOut_keeps (s : State) : Keeps s (endRunOut s) :=
  ((withdrawBoth_keeps s).trans (enter_keeps _ .jammed .runoutComplete .none_)).trans (policyG_keeps _)

theorem setRunOutCount_keeps (s : State) (n : Nat) : Keeps s { s with jam := { s.jam with runOutCount := n } } := {}

theorem runOut_keeps (s : State) : Keeps s (runOut s) :=
  (((selectRunOut_keeps s).trans (setRunOutCount_keeps _ _)).trans (enter_keeps _ .runout .jam .none_)).trans
    (.ite (fun _ => endRunOut_keeps _) fun _ => .refl _)

theorem stopOutput_keeps (s : State) : Keeps s (stopOutput s) :=
  (((withdrawBoth_keeps s).trans (strandAll_keeps _)).trans (enter_keeps _ .jammed .jam .none_)).trans (policyG_keeps _)

theorem declareJam_keeps (s : State) (f : PathFault) : Keeps s (declareJam s f) := by
  refine ((recordJam_keeps s f).trans (stopMain_keeps _)).trans ?_
  unfold declareJam
  dsimp only
  split
  · exact runOut_keeps _
  · exact stopOutput_keeps _

theorem countFurther_keeps (s : State) : Keeps s (countFurther s) := { further := fun _ => Nat.min_le_right _ _ }

theorem reportFurther_keeps (s : State) (f : PathFault) : Keeps s (reportFurther s f) :=
  ((countFurther_keeps s).trans (latch_keeps _ f.cause f.sensor f.tag true)).trans (notify_keeps _ _)

theorem secondFault_keeps (s : State) (f : PathFault) : Keeps s (secondFault s f) :=
  (((((reportFurther_keeps s f).trans (withdrawBoth_keeps _)).trans (strandRunOut_keeps _)).trans
    (setRunOutCount_keeps _ 0)).trans (enter_keeps _ .jammed .secondFault .none_)).trans (policyG_keeps _)

theorem takeFault_keeps (s : State) (f : PathFault) : Keeps s (takeFault s f) := by
  unfold takeFault
  split
  iterate 4 exact declareJam_keeps s f
  · exact secondFault_keeps s f
  · exact reportFurther_keeps s f

/-- The waiting requests written: no bound lies in them. -/
theorem setRequests_keeps (s : State) (q : Requests) : Keeps s { s with requests := q } := {}

theorem takeFaultAt_keeps (s : State) (place : Nat) : Keeps s (takeFaultAt s place) := by
  unfold takeFaultAt
  split
  · exact .refl s
  · exact (setRequests_keeps s _).trans (takeFault_keeps _ _)

theorem settleRequests_keeps (s : State) : Keeps s (settleRequests s) :=
  (((((setRequests_keeps s _).trans (.foldl takeCondemn_keeps _ _)).trans (setRequests_keeps _ _)).trans
    (.foldl takeFlush_keeps _ _)).trans (setRequests_keeps _ _)).trans (.foldl takeBin_keeps _ _)

theorem resolve_keeps (s : State) (t : Tag) : Keeps s (resolve s t) := by
  unfold resolve
  split
  · exact .refl s
  case h_2 r hr =>
    refine .ite (fun _ => .ite (fun _ => retire_keeps s t) fun _ => ?_) fun _ => .refl s
    exact ((((reportLoss_keeps s r.slot r.generation).trans (release_keeps _ r.target)).trans
      (breakNow_keeps _ r.slot r.generation .jam)).trans (settleRequests_keeps _)).trans (retire_keeps _ t)

/-- The picking place ends with its pick. -/
theorem clearPick_keeps (s : State) : Keeps s (clearPick s) :=
  setAdm_keeps fun ⟨hqueues, hcount⟩ => ⟨fun q => Nat.le_trans (Nat.add_le_add_left (by simp) _) (hqueues q), hcount⟩

theorem clearPath_keeps (s : State) : Keeps s (clearPath s) := by
  have hclear : ∀ u : State, Keeps u (clearPick (clearGates (clearTracker (clearSequencer u)))) := fun u =>
    (((clearSequencer_keeps u).trans (clearTracker_keeps _)).trans (clearGates_keeps _)).trans (clearPick_keeps _)
  refine Keeps.trans (Keeps.trans ((Keeps.foldl resolve_keeps tags s).trans (hclear _)) ?_)
    (enter_keeps _ .stopped .clearJam .none_)
  exact {}

/-! ## The port and the resets -/

/-- The port written within its bounds. -/
theorem setCpt_keeps {s : State} {p : Port} (h : PortBounded s.cpt → PortBounded p) : Keeps s { s with cpt := p } :=
  { port := h }

theorem answer_keeps (s : State) (a : Answer) : Keeps s (s.answer a) :=
  setCpt_keeps fun ⟨_, hnotices, hselect⟩ => ⟨Nat.zero_le _, hnotices, hselect⟩

/-- A write to GO keeps where what its owner makes of it does. -/
theorem command_keeps {s : State} {count : Nat} {take : List Word → State → State × Answer}
    (h : ∀ ws, Keeps s (take ws s).1) : Keeps s (s.command count take) :=
  .ite (fun _ => .refl s) fun _ => .ite (fun _ => answer_keeps s _) fun _ => (h _).trans (answer_keeps _ _)

/-- Words that leave the port's bounded lists as they were, or shorter. -/
theorem portBounded_mono {p q : Port} (hbuffer : q.buffer.length ≤ p.buffer.length)
    (hnotices : q.notices.length ≤ p.notices.length) (hselect : q.select ≤ p.select) (h : PortBounded p) :
    PortBounded q :=
  ⟨Nat.le_trans hbuffer h.1, Nat.le_trans hnotices h.2.1, Nat.le_trans hselect h.2.2⟩

theorem pushWord_keeps (s : State) (w : Word) : Keeps s (pushWord s w) := by
  refine .ite (fun hroom => setCpt_keeps fun ⟨_, hnotices, hselect⟩ => ⟨?_, hnotices, hselect⟩) fun _ => setCpt_keeps ?_
  · rw [List.length_append, List.length_singleton]
    exact hroom
  · exact id

theorem returns_keeps (s : State) (w : Word) : Keeps s (returns s w) := setCpt_keeps id

theorem readResult_keeps (s : State) : Keeps s (readResult s) := by
  refine .ite (fun _ => returns_keeps s 0) fun _ => ?_
  split
  · exact returns_keeps s 0
  · exact Keeps.trans (setCpt_keeps (by exact id)) (returns_keeps _ _)

theorem readNotice_keeps (s : State) : Keeps s (readNotice s) := by
  unfold readNotice
  split
  · exact Keeps.trans (setCpt_keeps (by exact id)) (returns_keeps _ 0)
  · rename_i n rest hn
    refine Keeps.trans (setCpt_keeps (portBounded_mono ?_ ?_ ?_)) (returns_keeps _ _)
    · exact Nat.le_refl _
    · simp [hn]
    · exact Nat.le_refl _

theorem readNoticeData_keeps (s : State) : Keeps s (readNoticeData s) := by
  unfold readNoticeData
  split
  · exact returns_keeps s 0
  · exact Keeps.trans (setCpt_keeps (by exact id)) (returns_keeps _ _)

theorem readCall_keeps (s : State) : Keeps s (readCall s) := by
  unfold readCall
  split
  · exact Keeps.trans (setCpt_keeps (by exact id)) (returns_keeps _ 0)
  · exact (updatePitch_keeps s _ _).trans (Keeps.trans (setCpt_keeps (by exact id)) (returns_keeps _ _))

theorem readCallData_keeps (s : State) : Keeps s (readCallData s) := by
  unfold readCallData
  split
  · exact returns_keeps s 0
  · exact Keeps.trans (setCpt_keeps (by exact id)) (returns_keeps _ _)

theorem select_keeps (s : State) (w : Word) :
    Keeps s { s with cpt := { s.cpt with select := if w.toNat ≤ 6 then w.toNat else 0 } } :=
  setCpt_keeps fun ⟨hbuffer, hnotices, _⟩ => ⟨hbuffer, hnotices, by dsimp only; split <;> omega⟩

/-- No record is live. -/
theorem aged_free (v : Vector (Option Sheet) 48) : Aged v (Vector.replicate 48 none) := fun t q hq => by
  simp at hq

theorem statementsLegal_free : StatementsLegal (Vector.replicate 16 none) := fun slot r hr => by
  simp at hr

theorem verdictsBounded_reset : VerdictsBounded (Vector.replicate 3 0) := fun t => by simp

theorem feedBounded_reset : FeedBounded Admission.atReset := by
  refine ⟨fun q => ?_, by decide⟩
  cases q <;> decide

theorem portBounded_reset : PortBounded Port.atReset := ⟨by decide, by decide, by decide⟩

theorem binsBounded_reset (l : Lines) : BinsBounded (State.afterColdReset [] l).bnm.records := fun b => by
  rw [State.afterColdReset, Fin.getElem_fin, Vector.getElem_ofFn]
  exact Nat.zero_le _

/-- A cold reset keeps: every table is empty after it. -/
theorem coldReset_keeps (s : State) (l : Lines) : Keeps s (State.afterColdReset s.pending l) where
  pending := rfl
  port _ := portBounded_reset
  feed _ := feedBounded_reset
  lists _ := listsBounded_empty
  verdicts _ := verdictsBounded_reset
  gates _ := gatesBounded_atReset
  bins _ := binsBounded_reset l
  further _ := Nat.zero_le _
  statements _ := statementsLegal_free
  records := aged_free _
  pitches := Nat.zero_le _

theorem drainRequests_keeps (s : State) : Keeps s (drainRequests s) :=
  (((setRequests_keeps s _).trans (.foldl takeFlush_keeps _ _)).trans (setRequests_keeps _ _)).trans
    (.foldl takeBin_keeps _ _)

theorem discardClaims_keeps (s : State) : Keeps s (discardClaims s) := setRequests_keeps s _

theorem warmPort_keeps (s : State) : Keeps s (warmPort s) := by
  refine Keeps.trans (setCpt_keeps (portBounded_mono ?_ ?_ ?_)) (notify_keeps _ _)
  · exact Nat.le_refl _
  · exact Nat.zero_le _
  · exact Nat.zero_le _

theorem warmTracker_keeps (s : State) : Keeps s (warmTracker s) := setPtk_keeps (fun _ => listsBounded_empty) id

theorem warmAdmission_keeps (s : State) : Keeps s (warmAdmission s) :=
  setAdm_keeps fun ⟨hqueues, _⟩ => ⟨fun q => Nat.le_trans (by cases q <;> exact Nat.le_add_right _ _) (hqueues q), Nat.zero_le _⟩

theorem freeSheets_keeps (s : State) : Keeps s { s with
    sheets := Vector.replicate 48 none, tsq := Sequencer.atReset, jam := JamRecord.atReset } :=
  { records := aged_free _, pitches := Nat.zero_le _, further := fun _ => Nat.zero_le _ }

theorem clearMotion_keeps (s : State) : Keeps s (clearMotion s) :=
  (((((((freeSheets_keeps s).trans (drainRequests_keeps _)).trans (discardClaims_keeps _)).trans (clearReserved_keeps _)).trans
    (warmTracker_keeps _)).trans (clearGates_keeps _)).trans (warmAdmission_keeps _)).trans (setTsv_keeps _ _)

theorem resetBreak_keeps (s : State) (slot : Slot) : Keeps s (resetBreak s slot) := by
  unfold resetBreak
  split
  · exact .refl s
  case h_2 r hr =>
    refine .ite (fun _ => .refl s) fun _ => ?_
    refine (breakNow_keeps s slot r.generation .reset).trans ?_
    dsimp only
    split
    · exact .refl _
    case h_2 q hq =>
      refine Keeps.trans (Keeps.trans (setStatement_keeps_of_same hq ?_) (closeIfClear_keeps _ slot))
        ((drainRequests_keeps _).trans (discardClaims_keeps _))
      exact ⟨rfl, rfl, rfl⟩

theorem warmReset_keeps (s : State) : Keeps s (warmReset s) := by
  have hbreaks : Keeps s (closeRanges (slots.foldl resetBreak (clearMotion (warmPort s)))) :=
    (((warmPort_keeps s).trans (clearMotion_keeps _)).trans (Keeps.foldl resetBreak_keeps slots _)).trans
      (closeRanges_keeps _)
  rw [warmReset]
  exact hbreaks.trans (writeUnits_keeps _ _)

end Sys2Proof.Machine
end

section
/-! The grants, releases, launches and parks: what a grant decision can do, said once, and what it keeps. -/

namespace Sys2Proof.Machine

set_option Elab.async false

/-! ## The evaluation of both heads -/

/-- The evaluation of both queues writes their hold reasons and sends their BIN_OVERFLOW requests (R55, R59). -/
theorem evaluateBoth_eq (s : State) : evaluateBoth s = { s with
    adm := { s.adm with newHold := evaluate s .new, restartHold := evaluate s .restart }
    requests := { s.requests with
      breaks := s.requests.breaks ++ overflowRequests s .new ++ overflowRequests s .restart } } := by
  have hsame := evaluateQueue_same s .new
  have heval : evaluate (evaluateQueue s .new) .restart = evaluate s .restart := by rw [hsame]; rfl
  have hover : overflowRequests (evaluateQueue s .new) .restart = overflowRequests s .restart := by rw [hsame]; rfl
  have hn : (evaluateQueue s .new).adm.newHold = evaluate s .new := evaluateQueue_hold s .new .new
  have hnn : (evaluateBoth s).adm.newHold = (evaluateQueue s .new).adm.newHold :=
    evaluateQueue_hold (evaluateQueue s .new) .restart .new
  have hrr : (evaluateBoth s).adm.restartHold = evaluate (evaluateQueue s .new) .restart :=
    evaluateQueue_hold (evaluateQueue s .new) .restart .restart
  have hbreaks : (evaluateBoth s).requests.breaks =
      s.requests.breaks ++ overflowRequests s .new ++ overflowRequests s .restart := by
    rw [evaluateBoth, evaluateQueue_breaks, evaluateQueue_breaks, hover]
  have hboth : evaluateBoth s = _ := evaluateQueue_same (evaluateQueue s .new) .restart
  rw [hboth]
  change ({ evaluateQueue s .new with
    adm := { (evaluateQueue s .new).adm with
      newHold := (evaluateBoth s).adm.newHold, restartHold := (evaluateBoth s).adm.restartHold }
    requests := { (evaluateQueue s .new).requests with breaks := (evaluateBoth s).requests.breaks } } : State) = _
  rw [hnn, hrr, hbreaks, heval, hn, hsame]

@[simp] theorem evaluateBoth_frame (s : State) :
    (evaluateBoth s).pending = s.pending ∧ (evaluateBoth s).stu = s.stu ∧ (evaluateBoth s).sheets = s.sheets ∧
    (evaluateBoth s).tsq = s.tsq ∧ (evaluateBoth s).ptk = s.ptk ∧ (evaluateBoth s).gsc = s.gsc ∧
    (evaluateBoth s).bnm = s.bnm ∧ (evaluateBoth s).jam = s.jam ∧ (evaluateBoth s).tsv = s.tsv ∧
    (evaluateBoth s).profile = s.profile ∧ (evaluateBoth s).cpt = s.cpt ∧ (evaluateBoth s).lines = s.lines := by
  simp [evaluateBoth_eq]

/-! ## What a tray grant can do -/

/-- What a grant decision awards the slot on: a head that evaluates to NONE, its statement, the bin it holds or claims and
the lowest free tag (R51, R60). -/
structure Awarded (s : State) (q : Queue) (e : Entry) (st : Statement) (b : Bin) (t : Tag) : Prop where
  head : (s.queue q).head? = some e
  eligible : evaluateHead s e = .none_
  statement : s.ofPair e.slot e.generation = some st
  bin : binFor s st = some b
  tag : s.freeTag = some t

theorem chooseHead_evaluateBoth (s : State) : chooseHead (evaluateBoth s) =
    if evaluate s .new = .none_ ∧ s.adm.starvation = 4 then some (.new, 0)
    else if evaluate s .restart = .none_ then
      some (.restart, if evaluate s .new = .none_ then s.adm.starvation + 1 else 0)
    else if evaluate s .new = .none_ then some (.new, 0)
    else none := by
  rw [evaluateBoth_eq]
  rfl

/-- The queue chosen evaluates to NONE, and the starvation count stays within its bound. -/
theorem chooseHead_some {s : State} {q : Queue} {n : Nat} (h : chooseHead (evaluateBoth s) = some (q, n)) :
    evaluate s q = .none_ ∧ (s.adm.starvation ≤ 4 → n ≤ 4) := by
  rw [chooseHead_evaluateBoth] at h
  split at h
  case isTrue hdue =>
    cases h
    exact ⟨hdue.1, fun _ => Nat.zero_le 4⟩
  case isFalse hdue =>
    split at h
    case isTrue hrestart =>
      cases h
      refine ⟨hrestart, fun hle => ?_⟩
      split
      · rename_i hnew
        have hne : s.adm.starvation ≠ 4 := fun hfour => hdue ⟨hnew, hfour⟩
        omega
      · exact Nat.zero_le 4
    case isFalse =>
      split at h
      case isTrue hnew =>
        cases h
        exact ⟨hnew, fun _ => Nat.zero_le 4⟩
      case isFalse => cases h

/-- A grant decision leaves the part as it is, or with its heads evaluated, or takes the steps of a grant. -/
theorem trayGrant_cases (s : State) (d : Bool) :
    trayGrant d s = s ∨ trayGrant d s = evaluateBoth s ∨
    ∃ q e st b t n, Awarded s q e st b t ∧ (s.adm.starvation ≤ 4 → n ≤ 4) ∧
      trayGrant d s = grantSteps (evaluateBoth s) q e st b t n d := by
  by_cases hfree : s.tsv.state = .running ∧ s.slotFree = true
  case neg => exact .inl (if_neg hfree)
  rw [trayGrant, if_pos hfree, decideTray]
  right
  by_cases hclaimed : (releaseClaimant (evaluateBoth s)).isSome = true
  case pos => exact .inl (if_pos hclaimed)
  rw [if_neg hclaimed]
  cases hchoose : chooseHead (evaluateBoth s) with
  | none => exact .inl rfl
  | some k =>
    obtain ⟨q, n⟩ := k
    obtain ⟨heval, hn⟩ := chooseHead_some hchoose
    dsimp only [grantHead]
    have hqueue : (evaluateBoth s).queue q = s.queue q := by rw [evaluateBoth_eq]; cases q <;> rfl
    have hpair : ∀ slot generation, (evaluateBoth s).ofPair slot generation = s.ofPair slot generation := by
      intro slot generation; rw [evaluateBoth_eq]; rfl
    have htag : (evaluateBoth s).freeTag = s.freeTag := by rw [evaluateBoth_eq]; rfl
    have hbin : ∀ st, binFor (evaluateBoth s) st = binFor s st := by intro st; rw [evaluateBoth_eq]; rfl
    rw [hqueue]
    cases hhead : (s.queue q).head? with
    | none => exact .inl rfl
    | some e =>
      have heligible : evaluateHead s e = .none_ := by simpa [evaluate, hhead] using heval
      dsimp only
      rw [hpair, htag]
      cases hst : s.ofPair e.slot e.generation with
      | none => exact .inl rfl
      | some st =>
        cases ht : s.freeTag with
        | none => exact .inl rfl
        | some t =>
          dsimp only
          rw [hbin]
          cases hb : binFor s st with
          | none => exact .inl rfl
          | some b => exact .inr ⟨q, e, st, b, t, n, ⟨hhead, heligible, hst, hb, ht⟩, hn, rfl⟩

/-! ## What the steps of a grant keep -/

/-- A claim that has no bin finds one with room in its stacking list (R58). -/
theorem stacking_of_claim {s : State} {st : Statement} {b : Bin} (hbin : binFor s st = some b)
    (hnone : ¬ st.bin.isSome = true) : (s.bin b).stacking.length < 4 := by
  have hclaimable : ∀ role, claimable s role b = true → (s.bin b).stacking.length < 4 := by
    intro role h
    simp only [claimable, Bool.and_eq_true, decide_eq_true_eq] at h
    exact h.1.2
  rw [binFor, if_neg hnone, claimBin] at hbin
  split at hbin
  · exact hclaimable _ (List.find?_some hbin)
  · have hqualifies := List.find?_some hbin
    rw [qualifies, Bool.and_eq_true] at hqualifies
    exact hclaimable _ hqualifies.1

/-- An opening of a stacker's door leaves every stacking list. -/
theorem stacking_openStacker (s : State) (b c : Bin) : ((openStacker s b).bin c).stacking = (s.bin c).stacking := by
  unfold openStacker openWith
  split
  · rfl
  · dsimp only
    split
    · rfl
    · let opened := (setDoor s b true).setBin b { (setDoor s b true).bin b with state := .doorOpen }
      refine (congrArg BinRecord.stacking (bin_of_eq (s := opened) (by simp [opened]) c)).trans ?_
      rw [State.bin_setBin]
      split
      case isTrue hbc => subst hbc; rfl
      case isFalse => rfl

theorem appendStacked_keeps {s : State} {b : Bin} (h : (s.bin b).stacking.length < 4) (slot : Slot) (generation : Nat) :
    Keeps s (appendStacked s b slot generation) := by
  have hwrite : Keeps s (s.setBin b { s.bin b with stacking := (s.bin b).stacking ++ [{ slot, generation }] }) := by
    refine { bins := fun hs c => ?_ }
    show ((s.setBin b _).bin c).stacking.length ≤ 4
    rw [State.bin_setBin]
    split
    · rw [List.length_append, List.length_singleton]
      exact h
    · exact hs c
  exact (hwrite.trans (evaluateFence_keeps _ b)).trans (.ite (fun _ => askBreak_keeps _ _ _ _ _) fun _ => .refl _)

theorem claimWithEffect_keeps {s : State} {b : Bin} (h : (s.bin b).stacking.length < 4) (slot : Slot) (r : Statement)
    (doorOpens : Bool) : Keeps s (claimWithEffect s slot r b doorOpens) := by
  have happend : ∀ u : State, (u.bin b).stacking.length < 4 →
      Keeps u (appendStacked (if doorOpens then openStacker u b else u) b slot r.generation) := by
    intro u hu
    cases doorOpens with
    | false => exact appendStacked_keeps hu slot r.generation
    | true =>
      refine (openStacker_keeps u b).trans (appendStacked_keeps ?_ slot r.generation)
      rwa [stacking_openStacker]
  unfold claimWithEffect
  cases r.binClass with
  | oversize => exact happend s h
  | standard => exact Keeps.trans (t := { s with bnm := { s.bnm with pointer := b } }) {} (happend _ h)

/-- The record that a grant creates awaits its back side exactly where its statement is DUPLEX (R25). -/
theorem newSheet_backPending (s : State) (e : Entry) (st : Statement) (b : Bin) :
    (newSheet s e st b).backPending = decide (st.plex = .duplex) := by
  cases hplex : st.plex <;> simp [Sheet.backPending, newSheet, hplex]

section Grant
variable (s : State) (q : Queue) (e : Entry) (st : Statement) (b : Bin) (t : Tag) (n : Nat) (d : Bool)

/-- The state of a grant once the entry has left its queue and the bin is claimed and reserved (R60). -/
def reserved : State :=
  let u := s.setQueue q (s.queue q).tail
  reserve (if st.bin.isSome then u else claimWithEffect u e.slot st b d) b

/-- The state of a grant with its record, its report and its pitch (R60). -/
def admitted : State :=
  let u := reserved s q e st b d
  appendPitch
    (reportAdmission (u.setSheet t (some (newSheet u e st b))) e.slot e.generation t
      (if st.bin.isSome then none else some b))
    t e.slot e.generation e.page .front (predictedReg s e.tray (launchCount s e.tray b st.plex))

theorem grantSteps_eq : grantSteps s q e st b t n d =
    { admitted s q e st b t d with adm := { (admitted s q e st b t d).adm with
      pick := some
        { entry := e, source := q, tag := t, launch := launchCount s e.tray b st.plex, issued := false }
      previous := some
        { tag := t
          predicted := predictedReg s e.tray (launchCount s e.tray b st.plex)
          length := ((admitted s q e st b t d).traySettings e.tray).length
          target := b
          plex := st.plex }
      starvation := n } } := rfl

theorem sheets_reserved : (reserved s q e st b d).sheets = s.sheets := by
  unfold reserved
  dsimp only
  split <;> simp

theorem tsq_reserved : (reserved s q e st b d).tsq = s.tsq := by
  unfold reserved
  dsimp only
  split <;> simp

theorem adm_reserved : (reserved s q e st b d).adm = (s.setQueue q (s.queue q).tail).adm := by
  unfold reserved
  dsimp only
  split <;> simp

/-- A grant creates one record, at its tag. -/
theorem sheets_grantSteps : (grantSteps s q e st b t n d).sheets =
    s.sheets.set t (some (newSheet (reserved s q e st b d) e st b)) := by
  simp [grantSteps_eq, admitted, State.setSheet, sheets_reserved]

/-- A grant appends one pitch. -/
theorem length_pitches_grantSteps : (grantSteps s q e st b t n d).tsq.pitches.length = s.tsq.pitches.length + 1 := by
  simp [grantSteps_eq, admitted, appendPitch, tsq_reserved]

end Grant

theorem appendPitch_keepsBounds (s : State) (t : Tag) (slot : Slot) (generation page : Nat) (side : Side)
    (predicted : Count) : KeepsBounds s (appendPitch s t slot generation page side predicted) := {}

theorem length_tail_of_head? {α : Type} {l : List α} {a : α} (h : l.head? = some a) : l.tail.length + 1 = l.length := by
  cases l with
  | nil => cases h
  | cons x l => rfl

theorem setQueue_tail_feed {s : State} (q : Queue) (h : FeedBounded s.adm) :
    FeedBounded (s.setQueue q (s.queue q).tail).adm := by
  obtain ⟨hqueues, hcount⟩ := h
  have hle : ∀ l : List Entry, l.tail.length ≤ l.length := fun l => by simp
  cases q <;> refine ⟨fun p => Nat.le_trans (Nat.add_le_add_right ?_ _) (hqueues p), hcount⟩ <;> cases p <;>
    simp [State.setQueue, State.queue, Admission.entries]

/-- Every bound is kept by a grant: the entry that leaves the queue makes the room of its picking place (R47). -/
theorem grantSteps_keepsBounds {s : State} {q : Queue} {e : Entry} {st : Statement} {b : Bin} (t : Tag) {n : Nat}
    (d : Bool) (hhead : (s.queue q).head? = some e) (hbin : binFor s st = some b) (hn : s.adm.starvation ≤ 4 → n ≤ 4) :
    KeepsBounds s (grantSteps s q e st b t n d) := by
  have hqueue : Keeps s (s.setQueue q (s.queue q).tail) := (Keeps.refl s).setQueue (setQueue_tail_feed q)
  have hclaim : Keeps s (reserved s q e st b d) := by
    refine (hqueue.trans (.ite (fun _ => .refl _) fun hnone => claimWithEffect_keeps ?_ e.slot st d)).trans
      (reserve_keeps _ b)
    rw [bin_of_eq (State.setQueue_bnm s q _)]
    exact stacking_of_claim hbin hnone
  have hsheet : KeepsBounds s ((reserved s q e st b d).setSheet t (some (newSheet (reserved s q e st b d) e st b))) :=
    hclaim.toKeepsBounds.trans {}
  have hadmitted : KeepsBounds s (admitted s q e st b t d) :=
    (hsheet.trans (reportAdmission_keeps _ _ _ _ _).toKeepsBounds).trans (appendPitch_keepsBounds _ _ _ _ _ _ _)
  rw [grantSteps_eq]
  refine { hadmitted with feed := fun ⟨hqueues, hcount⟩ => ⟨fun p => ?_, hn hcount⟩ }
  have hp := hqueues p
  have hlen := length_tail_of_head? hhead
  have hadm : (admitted s q e st b t d).adm = (s.setQueue q (s.queue q).tail).adm := by
    simp [admitted, appendPitch, adm_reserved]
  simp only [hadm]
  cases q <;> cases p <;> simp [Admission.entries, State.setQueue, State.queue] at hlen hp ⊢ <;> omega

theorem trayGrant_keepsBounds (s : State) (d : Bool) : KeepsBounds s (trayGrant d s) := by
  rcases trayGrant_cases s d with h | h | ⟨q, e, st, b, t, n, haward, hn, h⟩ <;> rw [h]
  · exact (Keeps.refl s).toKeepsBounds
  · exact (evaluateBoth_keeps s).toKeepsBounds
  · refine (evaluateBoth_keeps s).toKeepsBounds.trans (grantSteps_keepsBounds t d ?_ ?_ ?_)
    · rw [evaluateBoth_eq]
      cases q <;> exact haward.head
    · rw [evaluateBoth_eq]
      exact haward.bin
    · rw [evaluateBoth_eq]
      exact hn

/-! ## Releases, launches and parks -/

theorem finishRelease_keepsBounds (s : State) (t : Tag) (r : Sheet) (c : Count) : KeepsBounds s (finishRelease s t r c) :=
  (appendPitch_keepsBounds s t r.slot r.generation r.page .back _).trans
    (((expect_keeps _ .reg _).trans (setPtk_keeps (by exact id) (by exact id))).trans
      (setAdm_keeps (by exact feedBounded_congr rfl rfl rfl rfl))).toKeepsBounds

/-- The claimant of a release is the lowest record PARKED, in RUNNING or DRAINING, with its release count reached (R62). -/
theorem releaseClaimant_eq_some {s : State} {t : Tag} {r : Sheet} : releaseClaimant s = some (t, r) ↔
    (s.tsv.state = .running ∨ s.tsv.state = .draining) ∧ s.parkedTag = some t ∧ s.sheet t = some r ∧
      releaseDue s r = true := by
  unfold releaseClaimant
  by_cases hstate : s.tsv.state = .running ∨ s.tsv.state = .draining
  case neg => simp [hstate]
  cases hp : s.parkedTag with
  | none => simp [hstate]
  | some u =>
    rw [if_pos hstate]
    cases hr : s.sheet u with
    | none => grind
    | some q => grind

/-- The record that the parked tag names is PARKED (R24). -/
theorem parkedTag_parked {s : State} {t : Tag} {r : Sheet} (hp : s.parkedTag = some t) (hr : s.sheet t = some r) :
    r.state = .parked := by
  have hfound := List.find?_some hp
  simpa [hr] using hfound

/-- The release line asserted. -/
def assertRelease (s : State) : State := { s with adm := { s.adm with releaseLine := true } }

/-- The claim of a release on a PARKED record is taken (R29). -/
theorem releaseSheet_parked {s : State} {t : Tag} {r : Sheet} (hr : s.sheet t = some r) (hp : r.state = .parked) :
    releaseSheet s t r = finishRelease (claimRelease (assertRelease s) t r.owner s.now).1 t r s.now := by
  have hclaimed : (assertRelease s).claimed t r.owner = some r := by
    show (s.sheet t).filter _ = _
    simp [hr]
  have htaken : (claimRelease (assertRelease s) t r.owner s.now).2 = true := by
    rw [claimRelease, hclaimed]
    simp [hp]
  unfold releaseSheet
  dsimp only
  generalize hclaim : claimRelease _ t r.owner _ = k
  obtain ⟨u, taken⟩ := k
  obtain rfl : true = taken := htaken.symm.trans (congrArg Prod.snd hclaim)
  have hu : (claimRelease (assertRelease s) t r.owner s.now).1 = u := congrArg Prod.fst hclaim
  have hnow : u.now = s.now := by
    rw [← hu]
    simp [State.now, assertRelease]
  rw [hu, ← hnow]

/-- A release grant leaves the part as it is, or releases the record PARKED. -/
theorem releaseGrant_cases (s : State) : releaseGrant s = s ∨
    ∃ t r, s.sheet t = some r ∧ r.state = .parked ∧
      releaseGrant s = finishRelease (claimRelease (assertRelease (evaluateBoth s)) t r.owner s.now).1 t r s.now := by
  unfold releaseGrant
  split
  case isFalse => exact .inl rfl
  case isTrue =>
    cases hclaim : releaseClaimant s with
    | none => exact .inl rfl
    | some k =>
      obtain ⟨t, r⟩ := k
      obtain ⟨-, hp, hr, -⟩ := releaseClaimant_eq_some.mp hclaim
      have hparked := parkedTag_parked hp hr
      have hnow : (evaluateBoth s).now = s.now := by rw [evaluateBoth_eq]; rfl
      refine .inr ⟨t, r, hr, hparked, ?_⟩
      rw [← hnow]
      exact releaseSheet_parked (by rw [evaluateBoth_eq]; exact hr) hparked

theorem releaseGrant_keepsBounds (s : State) : KeepsBounds s (releaseGrant s) := by
  rcases releaseGrant_cases s with h | ⟨t, r, -, -, h⟩ <;> rw [h]
  · exact (Keeps.refl s).toKeepsBounds
  · exact (((evaluateBoth_keeps s).trans (setAdm_keeps (by exact feedBounded_congr rfl rfl rfl rfl))).trans
      (claimRelease_keeps _ t r.owner s.now)).toKeepsBounds.trans (finishRelease_keepsBounds _ t r s.now)

theorem claimPark_keepsBounds (s : State) (t : Tag) (o : Owner) : KeepsBounds s (claimPark s t o) := {}

theorem parkDue_keepsBounds (s : State) : KeepsBounds s (parkDue s) := by
  unfold parkDue
  split
  · exact (Keeps.refl s).toKeepsBounds
  · split
    · exact (setPtk_keeps (by exact id) (by exact id)).toKeepsBounds.trans (claimPark_keepsBounds _ _ _)
    · exact (Keeps.refl s).toKeepsBounds

/-- A launched pick keeps its place. -/
theorem pickLaunch_keeps (s : State) : Keeps s (pickLaunch s) := by
  unfold pickLaunch
  split
  · exact .refl s
  case h_2 p hp =>
    refine .ite (fun _ => ?_) fun _ => .refl s
    refine ((setPickLine_keeps s p.entry.tray true).trans (setAdm_keeps fun h => ?_)).trans (expect_keeps _ _ _)
    obtain ⟨hqueues, hcount⟩ := h
    refine ⟨fun q => ?_, hcount⟩
    have hq := hqueues q
    have hpick : (s.setPickLine p.entry.tray true).adm.pick = some p := hp
    rw [hpick] at hq
    exact hq

end Sys2Proof.Machine
end

section
/-! What every command keeps: the commands of the index, the events of the table, and the step of each. -/

namespace Sys2Proof.Machine

set_option Elab.async false

/-! ## The commands of the index -/

/-- A check that ends a command, or lets it go on. -/
theorem Keeps.check {c : Prop} [Decidable c] {s : State} {p q : State × Answer} (h : c → Keeps s p.1)
    (k : ¬c → Keeps s q.1) : Keeps s (if c then p else q).1 := by
  split
  case isTrue hc => exact h hc
  case isFalse hc => exact k hc

/-- A refused command changes nothing. -/
theorem refuse_keeps (s : State) (code : ResultCode) : Keeps s (s.refuse code).1 := .refl s

theorem newStatement_legal (s : State) (ident account : Ident) (plex : Plex) (declared : Nat) (oversize : Bool) :
    (newStatement s ident account plex declared oversize).Legal :=
  ⟨Nat.zero_le 3, nofun, nofun, by simp [newStatement, StatementState.ended]⟩

theorem openSlot_keeps (s : State) (slot : Slot) {r : Statement} (h : r.Legal) : Keeps s (openSlot s slot r) := by
  refine Keeps.trans (t := s.setStatement slot (some r)) (setStatement_keeps fun _ p hp => ?_) ?_
  · cases hp
    exact h
  · unfold openSlot
    exact { statements := id }

theorem takeOpen_keeps (ws : List Word) (s : State) : Keeps s (takeOpen ws s).1 := by
  unfold takeOpen
  split
  · split
    · refine .check (fun _ => refuse_keeps s _) fun _ => .check (fun _ => refuse_keeps s _) fun _ => ?_
      split
      · exact refuse_keeps s _
      · exact openSlot_keeps s _ (newStatement_legal ..)
    · exact refuse_keeps s _
  · exact refuse_keeps s _

theorem named_statement {s : State} {slot : Slot} {ident : Ident} {r : Statement} (h : s.named slot ident = some r) :
    s.statement slot = some r ∧ r.ident = ident := by
  simpa [State.named, Option.filter_eq_some_iff] using h

/-- An entry joins the queue where it has room beside its picking place (R44, R47). -/
theorem feedBounded_append {s : State} {q : Queue} (e : Entry) (hroom : s.queueHasRoom q = true) (h : FeedBounded s.adm) :
    FeedBounded (s.setQueue q (s.queue q ++ [e])).adm := by
  obtain ⟨hqueues, hcount⟩ := h
  rw [State.queueHasRoom, decide_eq_true_eq] at hroom
  refine ⟨fun p => ?_, by cases q <;> exact hcount⟩
  have hpick : (s.setQueue q (s.queue q ++ [e])).adm.pick = s.adm.pick := by cases q <;> rfl
  rw [hpick]
  by_cases hpq : p = q
  · subst hpq
    have hlen : ((s.setQueue p (s.queue p ++ [e])).adm.entries p).length = (s.queue p).length + 1 := by
      cases p <;> simp [State.setQueue, State.queue, Admission.entries]
    rw [hlen, Nat.add_right_comm]
    exact hroom
  · have hlen : (s.setQueue q (s.queue q ++ [e])).adm.entries p = s.adm.entries p := by
      cases p <;> cases q <;> first | rfl | exact absurd rfl hpq
    rw [hlen]
    exact hqueues p

/-- A page accepted for an OPEN statement leaves it OPEN or CLOSED, with no cause (R6). -/
theorem acceptPage_keeps {s : State} {slot : Slot} {r : Statement} (page : Nat) (last : Bool) (tray : Tray)
    (hr : s.statement slot = some r) (hopen : r.state = .opened)
    (hroom : s.queueHasRoom (queueOf r.generation) = true) : Keeps s (acceptPage s slot r page last tray) := by
  refine Keeps.trans ((Keeps.refl s).setQueue (feedBounded_append _ hroom)) (setStatement_keeps fun hs p hp => ?_)
  rw [State.setQueue_stu] at hs
  obtain ⟨hgeneration, -, -, hcause⟩ := hs slot r hr
  cases hp
  refine ⟨hgeneration, ?_, ?_, ?_⟩ <;> dsimp only <;> split <;> simp_all [StatementState.ended]

theorem takePage_keeps (ws : List Word) (s : State) : Keeps s (takePage ws s).1 := by
  unfold takePage
  split
  · split
    · split
      · exact refuse_keeps s _
      case h_2 r hr =>
        refine .check (fun _ => refuse_keeps s _) fun hended => .check (fun _ => refuse_keeps s _) fun hclosed =>
          .check (fun _ => refuse_keeps s _) fun _ => .check (fun _ => refuse_keeps s _) fun _ =>
          .check (fun _ => refuse_keeps s _) fun hroom => ?_
        refine acceptPage_keeps _ _ _ (named_statement hr).1 ?_ (by simpa using hroom)
        cases hstate : r.state <;> simp_all [StatementState.ended]
    · exact refuse_keeps s _
  · exact refuse_keeps s _

theorem settleStatement_keeps (s : State) (o : Owner) : Keeps s (settleStatement s o) :=
  (((((((setRequests_keeps s _).trans (.foldl takeCondemn_keeps _ _)).trans (setRequests_keeps _ _)).trans
    (.foldl takeReroute_keeps _ _)).trans (setRequests_keeps _ _)).trans (.foldl takeFlush_keeps _ _)).trans
    (setRequests_keeps _ _)).trans (.foldl takeBin_keeps _ _)

/-- The generation of a restarted statement stays within its bound: only one BROKEN is restarted (R14, R16). -/
theorem restart_legal {r : Statement} (h : r.Legal) (hbroken : r.state = .broken) : r.restart.Legal := by
  obtain ⟨-, hgeneration, -⟩ := h
  have hle := hgeneration hbroken
  exact ⟨Nat.succ_le_succ hle, nofun, nofun, by simp [Statement.restart, StatementState.ended]⟩

theorem takeRestart_keeps (ws : List Word) (s : State) : Keeps s (takeRestart ws s).1 := by
  unfold takeRestart
  split
  · split
    · exact refuse_keeps s _
    · split
      · exact refuse_keeps s _
      case h_2 r hr =>
        refine .check (fun _ => refuse_keeps s _) fun hbroken => .check (fun _ => refuse_keeps s _) fun _ => ?_
        refine (settleStatement_keeps s _).trans (setStatement_keeps fun hs p hp => ?_)
        cases hp
        simp only [settleStatement_frame] at hs
        exact restart_legal (hs _ r (named_statement hr).1) (Classical.not_not.mp hbroken)
  · exact refuse_keeps s _

theorem takeDiscard_keeps (ws : List Word) (s : State) : Keeps s (takeDiscard ws s).1 := by
  unfold takeDiscard
  split
  · split
    · exact refuse_keeps s _
    · split
      · exact refuse_keeps s _
      · refine .check (fun _ => refuse_keeps s _) fun _ => .check (fun _ => refuse_keeps s _) fun _ => ?_
        exact (settleStatement_keeps s _).trans (setStatement_keeps (by simp))
  · exact refuse_keeps s _

theorem takeQueryStatement_keeps (ws : List Word) (s : State) : Keeps s (takeQueryStatement ws s).1 := by
  unfold takeQueryStatement
  split
  · refine .check (fun _ => ?_) fun _ => .check (fun _ => ?_) fun _ => refuse_keeps s _
    · split
      · exact .check (fun _ => .refl s) fun _ => refuse_keeps s _
      · exact refuse_keeps s _
    · split <;> exact .refl s
  · exact refuse_keeps s _

theorem takeQuerySheet_keeps (ws : List Word) (s : State) : Keeps s (takeQuerySheet ws s).1 := by
  unfold takeQuerySheet
  split
  · split <;> exact .refl s
  · exact refuse_keeps s _

theorem takeFindSheets_keeps (ws : List Word) (s : State) : Keeps s (takeFindSheets ws s).1 := by
  unfold takeFindSheets
  split
  · split
    · exact refuse_keeps s _
    · exact .check (fun _ => refuse_keeps s _) fun _ => .refl s
  · exact refuse_keeps s _

theorem setVerdicts_keeps (s : State) (t : Tray) {n : Nat} (h : n ≤ 2) : Keeps s (s.setVerdicts t n) := by
  refine setPtk_keeps id fun hs y => ?_
  have hy := hs y
  change (s.ptk.verdicts.set t.idx n t.idx.isLt)[(y.idx : Nat)]'y.idx.isLt ≤ 2
  rw [Vector.getElem_set]
  split
  case isTrue => exact h
  case isFalse => exact hy

theorem evaluateNaming_keeps (s : State) (tray : Tray) (q : Queue) : Keeps s (evaluateNaming s tray q) :=
  .ite (fun _ => evaluateQueue_keeps s q) fun _ => .refl s

theorem resumeTray_keeps (s : State) (tray : Tray) : Keeps s (resumeTray s tray) :=
  ((setCondition_keeps s tray .ok).trans (setVerdicts_keeps _ tray (Nat.zero_le 2))).trans
    (.ite (fun _ => (evaluateNaming_keeps _ tray .new).trans (evaluateNaming_keeps _ tray .restart)) fun _ => .refl _)

theorem takeTrayResume_keeps (ws : List Word) (s : State) : Keeps s (takeTrayResume ws s).1 := by
  unfold takeTrayResume
  split
  · split
    · exact refuse_keeps s _
    · exact resumeTray_keeps s _
  · exact refuse_keeps s _

theorem takeQueryQueue_keeps (ws : List Word) (s : State) : Keeps s (takeQueryQueue ws s).1 := by
  unfold takeQueryQueue
  split
  · split <;> exact .refl s
  · exact refuse_keeps s _

theorem readyPitch_keeps (s : State) (p : Pitch) : Keeps s (readyPitch s p) := by
  have hready : SideState.ready ≠ .none_ := by decide
  exact (updatePitch_keeps s p.tag _).trans (claimSide_keeps _ p.tag p.slot p.generation p.side hready)

theorem takeSideReady_keeps (ws : List Word) (s : State) : Keeps s (takeSideReady ws s).1 := by
  unfold takeSideReady
  split
  · split
    · split
      · exact refuse_keeps s _
      · exact .check (fun _ => refuse_keeps s _) fun _ => .check (fun _ => refuse_keeps s _) fun _ =>
          readyPitch_keeps s _
    · exact refuse_keeps s _
  · exact refuse_keeps s _

theorem takeSideFail_keeps (ws : List Word) (s : State) : Keeps s (takeSideFail ws s).1 := by
  unfold takeSideFail
  split
  · split
    · split
      · exact refuse_keeps s _
      · split
        · exact missPitch_keeps s _ .fail
        · exact missPitch_keeps s _ .fail
        · exact .check (fun _ => refuse_keeps s _) fun _ => refuse_keeps s _
        · exact refuse_keeps s _
    · exact refuse_keeps s _
  · exact refuse_keeps s _

theorem takeCalibrate_keeps (r1 r2 r3 r4 : BitVec 10) (ws : List Word) (s : State) :
    Keeps s (takeCalibrate r1 r2 r3 r4 ws s).1 := by
  refine .check (fun _ => refuse_keeps s _) fun _ => .check (fun _ => refuse_keeps s _) fun _ =>
    .check (fun _ => refuse_keeps s _) fun _ => ?_
  exact { lists := id, verdicts := id }

theorem takeReadSnapshot_keeps (ws : List Word) (s : State) : Keeps s (takeReadSnapshot ws s).1 := setPtk_keeps id id

theorem acceptBin_keeps (s : State) (b : Bin) (n : Nat) : Keeps s (acceptBin s b n) :=
  Keeps.trans restock_keeps (notify_keeps _ _)

theorem takeBinAccept_keeps (ws : List Word) (s : State) : Keeps s (takeBinAccept ws s).1 := by
  unfold takeBinAccept
  split
  · split
    · exact refuse_keeps s _
    · exact .check (fun _ => refuse_keeps s _) fun _ => .check (fun _ => refuse_keeps s _) fun _ =>
        .check (fun _ => refuse_keeps s _) fun _ => .check (fun _ => refuse_keeps s _) fun _ => acceptBin_keeps s _ _
  · exact refuse_keeps s _

theorem takeBinRole_keeps (ws : List Word) (s : State) : Keeps s (takeBinRole ws s).1 := by
  unfold takeBinRole
  split
  · refine .check (fun _ => refuse_keeps s _) fun _ => ?_
    split
    · exact .check (fun _ => refuse_keeps s _) fun _ => .check (fun _ => refuse_keeps s _) fun _ =>
        .check (fun _ => refuse_keeps s _) fun _ => setRole_keeps s _ _
    · exact refuse_keeps s _
  · exact refuse_keeps s _

/-- The input lines written: no bound lies in them. -/
theorem setLines_keeps (s : State) (l : Lines) : Keeps s { s with lines := l } := {}

theorem takeQueryBin_keeps (e : Bool) (ws : List Word) (s : State) : Keeps s (takeQueryBin e ws s).1 := by
  unfold takeQueryBin
  split
  · split
    · exact refuse_keeps s _
    · exact setLines_keeps s _
  · exact refuse_keeps s _

theorem takeClearJam_keeps (ws : List Word) (s : State) : Keeps s (takeClearJam ws s).1 := by
  unfold takeClearJam
  refine .check (fun _ => refuse_keeps s _) fun _ => .check (fun _ => refuse_keeps s _) fun _ => ?_
  dsimp only
  exact clearPath_keeps s

theorem takeStart_keeps (ws : List Word) (s : State) : Keeps s (takeStart ws s).1 :=
  .check (fun _ => refuse_keeps s _) fun _ => .check (fun _ => refuse_keeps s _) fun _ =>
    .check (fun _ => refuse_keeps s _) fun _ => acceptStart_keeps s

theorem takeStop_keeps (ws : List Word) (s : State) : Keeps s (takeStop ws s).1 := by
  unfold takeStop
  split
  · exact refuse_keeps s _
  · exact refuse_keeps s _
  all_goals exact stopEvent_keeps s .stop

theorem takeQueryTransport_keeps (ws : List Word) (s : State) : Keeps s (takeQueryTransport ws s).1 := .refl s

/-- The profile store written: no bound lies in it. -/
theorem setProfile_keeps (s : State) (p : Profile) : Keeps s { s with profile := p } := {}

theorem writeProfile_keeps (s : State) (p : Profile) : Keeps s (writeProfile s p).1 :=
  .check (fun _ => setProfile_keeps s p) fun _ => refuse_keeps s _

theorem takeSetLeg_keeps (ws : List Word) (s : State) : Keeps s (takeSetLeg ws s).1 := by
  unfold takeSetLeg
  split
  · refine .check (fun _ => refuse_keeps s _) fun _ => ?_
    split
    · exact refuse_keeps s _
    · split
      · exact refuse_keeps s _
      · exact writeProfile_keeps s _
  · exact refuse_keeps s _

theorem takeSetTray_keeps (ws : List Word) (s : State) : Keeps s (takeSetTray ws s).1 := by
  unfold takeSetTray
  split
  · refine .check (fun _ => refuse_keeps s _) fun _ => ?_
    split
    · exact .check (fun _ => refuse_keeps s _) fun _ => writeProfile_keeps s _
    · exact refuse_keeps s _
  · exact refuse_keeps s _

theorem takeSetSensor_keeps (ws : List Word) (s : State) : Keeps s (takeSetSensor ws s).1 := by
  unfold takeSetSensor
  split
  · refine .check (fun _ => refuse_keeps s _) fun _ => ?_
    split
    · exact (setProfile_keeps s _).trans (setLevel_keeps _ _ _)
    · exact refuse_keeps s _
  · exact refuse_keeps s _

theorem takeSetGate_keeps (ws : List Word) (s : State) : Keeps s (takeSetGate ws s).1 := by
  unfold takeSetGate
  split
  · refine .check (fun _ => refuse_keeps s _) fun _ => ?_
    split
    · exact writeProfile_keeps s _
    · exact refuse_keeps s _
  · exact refuse_keeps s _

theorem takeSetLimits_keeps (ws : List Word) (s : State) : Keeps s (takeSetLimits ws s).1 := by
  unfold takeSetLimits
  split
  · refine .check (fun _ => refuse_keeps s _) fun _ => ?_
    split
    · exact refuse_keeps s _
    · split
      · exact refuse_keeps s _
      · exact writeProfile_keeps s _
  · exact refuse_keeps s _

theorem takeSetCapacity_keeps (ws : List Word) (s : State) : Keeps s (takeSetCapacity ws s).1 := by
  unfold takeSetCapacity
  split
  · refine .check (fun _ => refuse_keeps s _) fun _ => ?_
    split
    · exact .check (fun _ => refuse_keeps s _) fun _ => (setProfile_keeps s _).trans (fillUp_keeps _ _)
    · exact refuse_keeps s _
  · exact refuse_keeps s _

theorem takeSetUnits_keeps (ws : List Word) (s : State) : Keeps s (takeSetUnits ws s).1 := by
  unfold takeSetUnits
  split
  · refine .check (fun _ => refuse_keeps s _) fun _ => ?_
    split
    · exact .check (fun _ => refuse_keeps s _) fun _ => .check (fun _ => refuse_keeps s _) fun _ =>
        .check (fun _ => refuse_keeps s _) fun _ => writeUnits_keeps s _
    · exact refuse_keeps s _
  · exact refuse_keeps s _

theorem takeQueryProfile_keeps (straps : Units) (ws : List Word) (s : State) :
    Keeps s (takeQueryProfile straps ws s).1 := by
  unfold takeQueryProfile
  split
  · dsimp only
    split
    · exact refuse_keeps s _
    · exact setLines_keeps s _
  · exact refuse_keeps s _

theorem takeClearNoticeLost_keeps (ws : List Word) (s : State) : Keeps s (takeClearNoticeLost ws s).1 := setCpt_keeps id

theorem takeWarmReset_keeps (ws : List Word) (s : State) : Keeps s (takeWarmReset ws s).1 := by
  dsimp only [takeWarmReset]
  exact warmReset_keeps s

/-! ## The events -/

theorem sendSuspect_keeps (s : State) (tray : Tray) (later : Bool) : Keeps s (sendSuspect s tray later) :=
  .ite (fun _ => setAdm_keeps (feedBounded_congr rfl rfl rfl rfl)) fun _ => takeSuspect_keeps s tray

theorem countVerdict_keeps (s : State) (tray : Tray) (v : Verdict) (later : Bool) :
    Keeps s (countVerdict s tray v later) :=
  .ite (fun _ => setVerdicts_keeps s tray (Nat.zero_le 2)) fun _ =>
    (setVerdicts_keeps s tray (Nat.min_le_right _ 2)).trans
      (.ite (fun _ => sendSuspect_keeps _ tray later) fun _ => .refl _)

theorem endBurst_keeps (s : State) (b : Burst) (readings : List Nat) (later : Bool) :
    Keeps s (endBurst s b readings later) := by
  unfold endBurst
  dsimp only
  refine Keeps.trans (Keeps.trans (Keeps.trans (setPtk_keeps (by exact id) (by exact id))
    (claimGauge_keeps _ b.tag b.owner _)) (.ite (fun _ => .refl _) fun _ => ?_)) (countVerdict_keeps _ b.tray _ later)
  exact (claimCondemn_keeps _ _).trans (askBreak_keeps _ _ _ _ _)

theorem takeReading_keeps (s : State) (b : Burst) (reading : BitVec 10) (later : Bool) :
    Keeps s (takeReading s b reading later) :=
  (setLines_keeps s _).trans (.ite (fun _ => setPtk_keeps (by exact id) (by exact id)) fun _ => endBurst_keeps _ b _ later)

theorem gaugeSample_keeps (s : State) (reading : BitVec 10) (later : Bool) : Keeps s (gaugeSample s reading later) := by
  unfold gaugeSample
  split
  · exact .refl s
  · exact .ite (fun _ => takeReading_keeps s _ reading later) fun _ => .refl s

theorem afterOpening_keeps (s : State) (b : Bin) : Keeps s (afterOpening s b) :=
  .ite (fun _ => .ite (fun _ => enter_keeps s .draining .purgeDoor .none_) fun _ => .refl s) fun _ =>
    breakListed_keeps s b

theorem openDoor_keeps (s : State) (b : Bin) : Keeps s (openDoor s b) := openWith_keeps afterOpening_keeps s b

theorem closeDoor_keeps (s : State) (b : Bin) (emptyActive : Bool) : Keeps s (closeDoor s b emptyActive) := by
  refine .ite (fun _ => ?_) fun _ => .refl s
  refine Keeps.trans (t := readEmpty (setDoor s b false) b emptyActive) (setLines_keeps s _) ?_
  exact .ite (fun _ => .refl _) fun _ =>
    .ite (fun _ => Keeps.trans restock_keeps (notify_keeps _ _)) fun _ => Keeps.trans restock_keeps (notify_keeps _ _)

theorem takeOpening_keeps (s : State) : Keeps s (takeOpening s) := by
  unfold takeOpening
  split
  · exact (setRequests_keeps s _).trans (openSpoil_keeps _ _ _ _ _)
  · exact .refl s

theorem takeClosing_keeps (s : State) : Keeps s (takeClosing s) := by
  unfold takeClosing
  split
  · exact (setRequests_keeps s _).trans (closeSpoil_keeps _ _ _ _ _)
  · exact .refl s

theorem flushOldest_keeps (s : State) : Keeps s (flushOldest s) := by
  unfold flushOldest
  split
  · exact .refl s
  · exact (setRequests_keeps s _).trans (takeFlush_keeps _ _)

theorem rerouteOldest_keeps (s : State) : Keeps s (rerouteOldest s) := by
  unfold rerouteOldest
  split
  · exact .refl s
  · exact (setRequests_keeps s _).trans (takeReroute_keeps _ _)

theorem throwDue_keeps (s : State) (g : Gate) : Keeps s (throwDue s g) := by
  unfold throwDue
  split
  · exact .refl s
  · exact .ite (fun _ => takeThrow_keeps s g _) fun _ => .refl s

theorem passageDue_keeps (s : State) (g : Gate) : Keeps s (passageDue s g) := by
  unfold passageDue
  split
  · exact .refl s
  · exact .ite (fun _ => takePassage_keeps s g _) fun _ => .refl s

theorem takeBreakAt_keeps (s : State) (place : Nat) : Keeps s (takeBreakAt s place) := by
  unfold takeBreakAt
  split
  · exact .refl s
  · exact (setRequests_keeps s _).trans (takeBreak_keeps _ _)

theorem takeCondemnAt_keeps (s : State) (place : Nat) : Keeps s (takeCondemnAt s place) := by
  unfold takeCondemnAt
  split
  · exact .refl s
  · exact (setRequests_keeps s _).trans (takeCondemn_keeps _ _)

/-! ## The step of each command -/

/-- What a command does to the part before the end of its step. -/
def effect : Instr → State → State
  | .openStatement, s => s.command 7 takeOpen
  | .page, s => s.command 6 takePage
  | .restartStatement, s => s.command 3 takeRestart
  | .discardStatement, s => s.command 3 takeDiscard
  | .queryStatement, s => s.command 3 takeQueryStatement
  | .querySheet, s => s.command 1 takeQuerySheet
  | .findSheets, s => s.command 3 takeFindSheets
  | .trayResume, s => s.command 1 takeTrayResume
  | .queryQueue, s => s.command 1 takeQueryQueue
  | .sideReady, s => s.command 3 takeSideReady
  | .sideFail, s => s.command 3 takeSideFail
  | .calibrateZero r1 r2 r3 r4, s => s.command 0 (takeCalibrate r1 r2 r3 r4)
  | .readSnapshot, s => s.command 0 takeReadSnapshot
  | .binAccept, s => s.command 2 takeBinAccept
  | .binRole, s => s.command 2 takeBinRole
  | .queryBin e, s => s.command 1 (takeQueryBin e)
  | .clearJam, s => s.command 0 takeClearJam
  | .start, s => s.command 0 takeStart
  | .stop, s => s.command 0 takeStop
  | .queryTransport, s => s.command 0 takeQueryTransport
  | .setLeg, s => s.command 2 takeSetLeg
  | .setTray, s => s.command 4 takeSetTray
  | .setSensor, s => s.command 2 takeSetSensor
  | .setGate, s => s.command 2 takeSetGate
  | .setLimits, s => s.command 2 takeSetLimits
  | .setCapacity, s => s.command 2 takeSetCapacity
  | .setUnits, s => s.command 3 takeSetUnits
  | .queryProfile u, s => s.command 1 (takeQueryProfile u)
  | .clearNoticeLost, s => s.command 0 takeClearNoticeLost
  | .warmReset, s => s.command 0 takeWarmReset
  | .badCommand _, s => if s.cpt.busy then s else s.answer (.badCommand, [])
  | .commandData w, s => if s.cpt.busy then s else pushWord s w
  | .result, s => readResult s
  | .notice, s => readNotice s
  | .noticeData, s => readNoticeData s
  | .call, s => readCall s
  | .callData, s => readCallData s
  | .snapshotSelect w, s => { s with cpt := { s.cpt with select := if w.toNat ≤ 6 then w.toNat else 0 } }
  | .ignoredRegisterWrite _ _, s => s
  | .coldReset u, s => State.afterColdReset s.pending { s.lines with straps := u }
  | .sensorLineChange x, s => changeLine s x
  | .debounceComplete e, s => completeDebounce s e.sensor e.retireLater
  | .encoderPulse n, s => pulse s n
  | .encoderSilence, s => silence s
  | .backupBaseTick, s => backupTick s
  | .startLimitExpiry, s => startLimit s
  | .supplyWarningAsserted, s => assertSupply s
  | .supplyWarningCleared, s => clearSupply s
  | .drainComplete, s => drainDone s
  | .trayReadyChange t, s =>
    { s with lines := { s.lines with trayReady := s.lines.trayReady.set t.idx (!s.lines.trayReady[t.idx]) } }
  | .binDoorOpened o, s => meetDoor s o
  | .binDoorClosed b e, s => closeDoor s b e
  | .trayGrant, s => trayGrant false s
  | .releaseGrant, s => releaseGrant s
  | .pickLaunch, s => pickLaunch s
  | .pickWindowExpiry t, s => expireAt s (exitOf t)
  | .leadWindowExpiry x, s => if (trayOf x).isSome then s else expireAt s x
  | .trailWindowExpiry t, s => expireTrailOf s t
  | .releaseWindowExpiry, s => expireReleaseWindow s
  | .park, s => parkDue s
  | .gaugeReading r l, s => gaugeSample s r l
  | .deadlineExpiry t, s => expireDeadline s t
  | .gateThrow g, s => throwDue s g
  | .gatePassage g, s => passageDue s g
  | .gateClearance g, s => takeClearance s g
  | .jam n, s => takeFaultAt s n
  | .runoutComplete, s => runoutDone s
  | .breakStatement n, s => takeBreakAt s n
  | .condemn n, s => takeCondemnAt s n
  | .reroute, s => rerouteOldest s
  | .flush, s => flushOldest s
  | .spoilRangeOpening, s => takeOpening s
  | .closingRequest, s => takeClosing s

/-- Every command is its effect, ended as every step is. -/
theorem exec_eq_finish (c : Instr) (s : State) : exec c s = finish s (effect c s) := by
  cases c <;> rfl

/-- The rows that may bring a record to PARKED or PICKING, or a pitch into the sequence. -/
def growsPath : Instr → Bool
  | .trayGrant | .binDoorOpened _ | .releaseGrant | .park => true
  | _ => false

theorem silence_keeps (s : State) : Keeps s (silence s) := .ite (fun _ => takeSilence_keeps s) fun _ => .refl s

theorem backupTick_keeps (s : State) : Keeps s (backupTick s) := .ite (fun _ => advance_keeps s 1) fun _ => .refl s

theorem startLimit_keeps (s : State) : Keeps s (startLimit s) :=
  .ite (fun _ => endStart_keeps s .startFailed .timeout) fun _ => .refl s

theorem assertSupply_keeps (s : State) : Keeps s (assertSupply s) :=
  .ite (fun _ => .refl s) fun _ => (setSupply_keeps s true).trans (stopEvent_keeps _ .supply)

theorem clearSupply_keeps (s : State) : Keeps s (clearSupply s) :=
  .ite (fun _ => setSupply_keeps s false) fun _ => .refl s

theorem drainDone_keeps (s : State) : Keeps s (drainDone s) := .ite (fun _ => completeDrain_keeps s) fun _ => .refl s

theorem runoutDone_keeps (s : State) : Keeps s (runoutDone s) := .ite (fun _ => endRunOut_keeps s) fun _ => .refl s

/-- What a command of the rows that do not grow the path keeps. -/
theorem effect_keeps {c : Instr} (h : growsPath c = false) (s : State) : Keeps s (effect c s) := by
  cases c with
  | openStatement => exact command_keeps fun ws => takeOpen_keeps ws s
  | page => exact command_keeps fun ws => takePage_keeps ws s
  | restartStatement => exact command_keeps fun ws => takeRestart_keeps ws s
  | discardStatement => exact command_keeps fun ws => takeDiscard_keeps ws s
  | queryStatement => exact command_keeps fun ws => takeQueryStatement_keeps ws s
  | querySheet => exact command_keeps fun ws => takeQuerySheet_keeps ws s
  | findSheets => exact command_keeps fun ws => takeFindSheets_keeps ws s
  | trayResume => exact command_keeps fun ws => takeTrayResume_keeps ws s
  | queryQueue => exact command_keeps fun ws => takeQueryQueue_keeps ws s
  | sideReady => exact command_keeps fun ws => takeSideReady_keeps ws s
  | sideFail => exact command_keeps fun ws => takeSideFail_keeps ws s
  | calibrateZero r1 r2 r3 r4 => exact command_keeps fun ws => takeCalibrate_keeps r1 r2 r3 r4 ws s
  | readSnapshot => exact command_keeps fun ws => takeReadSnapshot_keeps ws s
  | binAccept => exact command_keeps fun ws => takeBinAccept_keeps ws s
  | binRole => exact command_keeps fun ws => takeBinRole_keeps ws s
  | queryBin e => exact command_keeps fun ws => takeQueryBin_keeps e ws s
  | clearJam => exact command_keeps fun ws => takeClearJam_keeps ws s
  | start => exact command_keeps fun ws => takeStart_keeps ws s
  | stop => exact command_keeps fun ws => takeStop_keeps ws s
  | queryTransport => exact command_keeps fun ws => takeQueryTransport_keeps ws s
  | setLeg => exact command_keeps fun ws => takeSetLeg_keeps ws s
  | setTray => exact command_keeps fun ws => takeSetTray_keeps ws s
  | setSensor => exact command_keeps fun ws => takeSetSensor_keeps ws s
  | setGate => exact command_keeps fun ws => takeSetGate_keeps ws s
  | setLimits => exact command_keeps fun ws => takeSetLimits_keeps ws s
  | setCapacity => exact command_keeps fun ws => takeSetCapacity_keeps ws s
  | setUnits => exact command_keeps fun ws => takeSetUnits_keeps ws s
  | queryProfile u => exact command_keeps fun ws => takeQueryProfile_keeps u ws s
  | clearNoticeLost => exact command_keeps fun ws => takeClearNoticeLost_keeps ws s
  | warmReset =>
    rw [effect]
    exact command_keeps fun ws => takeWarmReset_keeps ws s
  | badCommand w => exact .ite (fun _ => .refl s) fun _ => answer_keeps s _
  | commandData w => exact .ite (fun _ => .refl s) fun _ => pushWord_keeps s w
  | result => exact readResult_keeps s
  | notice => exact readNotice_keeps s
  | noticeData => exact readNoticeData_keeps s
  | call => exact readCall_keeps s
  | callData => exact readCallData_keeps s
  | snapshotSelect w => exact select_keeps s w
  | ignoredRegisterWrite o w => exact .refl s
  | coldReset u => exact coldReset_keeps s _
  | sensorLineChange x => exact changeLine_keeps s x
  | debounceComplete e => exact completeDebounce_keeps s e.sensor e.retireLater
  | encoderPulse n => exact pulse_keeps s n
  | encoderSilence => exact silence_keeps s
  | backupBaseTick => exact backupTick_keeps s
  | startLimitExpiry => exact startLimit_keeps s
  | supplyWarningAsserted => exact assertSupply_keeps s
  | supplyWarningCleared => exact clearSupply_keeps s
  | drainComplete => exact drainDone_keeps s
  | trayReadyChange t => exact setLines_keeps s _
  | binDoorOpened o => cases h
  | binDoorClosed b e => exact closeDoor_keeps s b e
  | trayGrant => cases h
  | releaseGrant => cases h
  | pickLaunch => exact pickLaunch_keeps s
  | pickWindowExpiry t => exact expireAt_keeps s (exitOf t)
  | leadWindowExpiry x => exact .ite (fun _ => .refl s) fun _ => expireAt_keeps s x
  | trailWindowExpiry t => exact expireTrailOf_keeps s t
  | releaseWindowExpiry => exact expireReleaseWindow_keeps s
  | park => cases h
  | gaugeReading r l => exact gaugeSample_keeps s r l
  | deadlineExpiry t => exact expireDeadline_keeps s t
  | gateThrow g => exact throwDue_keeps s g
  | gatePassage g => exact passageDue_keeps s g
  | gateClearance g => exact takeClearance_keeps s g
  | jam n => exact takeFaultAt_keeps s n
  | runoutComplete => exact runoutDone_keeps s
  | breakStatement n => exact takeBreakAt_keeps s n
  | condemn n => exact takeCondemnAt_keeps s n
  | reroute => exact rerouteOldest_keeps s
  | flush => exact flushOldest_keeps s
  | spoilRangeOpening => exact takeOpening_keeps s
  | closingRequest => exact takeClosing_keeps s

theorem meetDoor_cases (s : State) (o : Opening) : meetDoor s o = trayGrant true s ∨ meetDoor s o = openDoor s o.bin := by
  unfold meetDoor
  split
  · exact .inl rfl
  · exact .inr rfl

theorem meetDoor_keepsBounds (s : State) (o : Opening) : KeepsBounds s (meetDoor s o) := by
  rcases meetDoor_cases s o with h | h
  · exact h ▸ trayGrant_keepsBounds s true
  · exact h ▸ (openDoor_keeps s o.bin).toKeepsBounds

/-- The rows that grow the path. -/
theorem growsPath_eq_true {c : Instr} (h : growsPath c = true) :
    c = .trayGrant ∨ (∃ o, c = .binDoorOpened o) ∨ c = .releaseGrant ∨ c = .park := by
  cases c <;> simp_all [growsPath]

/-- What every command keeps. -/
theorem effect_keepsBounds (c : Instr) (s : State) : KeepsBounds s (effect c s) := by
  cases hgrows : growsPath c with
  | false => exact (effect_keeps hgrows s).toKeepsBounds
  | true =>
    obtain rfl | ⟨o, rfl⟩ | rfl | rfl := growsPath_eq_true hgrows
    · exact trayGrant_keepsBounds s false
    · exact meetDoor_keepsBounds s o
    · exact releaseGrant_keepsBounds s
    · exact parkDue_keepsBounds s

/-- Every step is the effect of the command in front, and what the end of the step adds; an idle one changes nothing. -/
theorem step_cases {s t : State} (h : step s = .next t) :
    t = s ∨ ∃ c rest, s.pending = c :: rest ∧ Keeps (effect c { s with pending := rest }) t := by
  unfold step at h
  split at h
  · cases h
    exact .inl rfl
  case h_2 c rest hpending =>
    rw [exec_eq_finish] at h
    exact .inr ⟨c, rest, hpending, finish_keeps h⟩

/-- A step keeps every bound and the legality of the statements. -/
theorem step_keepsBounds {s t : State} (h : step s = .next t) : ∃ p, KeepsBounds { s with pending := p } t := by
  rcases step_cases h with rfl | ⟨c, rest, -, hend⟩
  · exact ⟨t.pending, (Keeps.refl t).toKeepsBounds⟩
  · exact ⟨rest, (effect_keepsBounds c _).trans hend.toKeepsBounds⟩

end Sys2Proof.Machine
end

section
/-! The invariants of the part: every step keeps them, and they hold at power-on. -/

namespace Sys2Proof.Machine

set_option Elab.async false

/-! ## The step and its command -/

/-- Settles O1: by the two cases of the step's definition. -/
theorem stepTakesTheFrontCommand : Obligations.StepTakesTheFrontCommand := by
  intro s
  refine ⟨fun c rest h => ?_, fun h => ?_⟩
  case refine_1 => simp only [step, h]
  case refine_2 => simp only [step, h]

/-- Settles O2: every command ends as every step does, and neither its effect nor the end touches the queue. -/
theorem everyCommandAnswersANextState : Obligations.EveryCommandAnswersANextState := by
  intro c s
  obtain ⟨t, hfinish, -⟩ := finish_spec s (effect c s)
  refine ⟨t, by rw [exec_eq_finish, hfinish], ?_⟩
  rw [(finish_keeps hfinish).pending, (effect_keepsBounds c s).pending]

/-! ## The statements and the bounds -/

/-- Settles O57: the bounds of every step carry the statements' legality. -/
theorem everyStepKeepsTheGenerations : Obligations.EveryStepKeepsTheGenerations := by
  intro s t hlegal hstep
  obtain ⟨p, hkeeps⟩ := step_keepsBounds hstep
  exact hkeeps.statements hlegal

/-- The bounds of the part, block by block. -/
theorem bounded_iff (s : State) : Bounded s ↔ PortBounded s.cpt ∧ FeedBounded s.adm ∧ ListsBounded s.ptk.lists ∧
    VerdictsBounded s.ptk.verdicts ∧ GatesBounded s.gsc.records ∧ BinsBounded s.bnm.records ∧ s.jam.further ≤ 255 := by
  have hentries : ∀ q, s.adm.entries q = s.queue q := by intro q; cases q <;> rfl
  constructor
  case mp =>
    rintro ⟨hbuffer, hnotices, hselect, hqueues, hlists, hwaiting, hstacking, hverdicts, hfurther, hstarvation⟩
    exact ⟨⟨hbuffer, hnotices, hselect⟩, ⟨fun q => hentries q ▸ hqueues q, hstarvation⟩, hlists, hverdicts, hwaiting,
      hstacking, hfurther⟩
  case mpr =>
    rintro ⟨⟨hbuffer, hnotices, hselect⟩, ⟨hqueues, hstarvation⟩, hlists, hverdicts, hwaiting, hstacking, hfurther⟩
    exact ⟨hbuffer, hnotices, hselect, fun q => hentries q ▸ hqueues q, hlists, hwaiting, hstacking, hverdicts, hfurther,
      hstarvation⟩

theorem KeepsBounds.bounded {s t : State} (h : KeepsBounds s t) (hs : Bounded s) : Bounded t := by
  rw [bounded_iff] at hs ⊢
  obtain ⟨hport, hfeed, hlists, hverdicts, hgates, hbins, hfurther⟩ := hs
  exact ⟨h.port hport, h.feed hfeed, h.lists hlists, h.verdicts hverdicts, h.gates hgates, h.bins hbins,
    h.further hfurther⟩

/-! ## What the growing rows do to the records -/

theorem mem_tagsWhere {s : State} {p : Sheet → Bool} {t : Tag} :
    t ∈ s.tagsWhere p ↔ ∃ r, s.sheet t = some r ∧ p r = true := by
  simp [State.tagsWhere, tags, Option.any_eq_true]

theorem nodup_tagsWhere (s : State) (p : Sheet → Bool) : (s.tagsWhere p).Nodup :=
  (List.nodup_finRange 48).filter _

/-- Of the records of a head's path nothing is PICKING where the head evaluates to NONE (R56). -/
theorem picking_of_eligible {s : State} {e : Entry} (h : evaluateHead s e = .none_) {t : Tag} {r : Sheet}
    (hr : s.sheet t = some r) : r.state ≠ .picking := by
  intro hpicking
  have hbusy : (s.anySheet fun q => q.state = .picking) = true :=
    List.any_eq_true.mpr ⟨t, List.mem_finRange t, by simp [hr, hpicking]⟩
  unfold evaluateHead at h
  rw [if_pos hbusy] at h
  split at h <;> cases h

/-- The sequence has room for the pitches of a head that evaluates to NONE (R56). -/
theorem room_of_eligible {s : State} {e : Entry} {st : Statement} (h : evaluateHead s e = .none_)
    (hst : s.ofPair e.slot e.generation = some st) :
    s.tsq.pitches.length + (s.tagsWhere Sheet.backPending).length + (if st.plex = .duplex then 2 else 1) ≤ 8 := by
  unfold evaluateHead at h
  rw [hst] at h
  refine Classical.byContradiction fun hshort => ?_
  have hsequence : sequenceShort s st.plex = true := by simpa [sequenceShort] using hshort
  simp only [hsequence, if_true] at h
  (repeat' split at h) <;> cases h

/-- The free tag holds no record. -/
theorem freeTag_free {s : State} {t : Tag} (h : s.freeTag = some t) : s.sheet t = none := by
  simpa using List.find?_some h

/-- The records after a grant: the new one at its tag, the others as they are. -/
theorem sheet_grantSteps (s : State) (q : Queue) (e : Entry) (st : Statement) (b : Bin) (t : Tag) (n : Nat) (d : Bool)
    (u : Tag) : (grantSteps s q e st b t n d).sheet u =
      if t = u then some (newSheet (reserved s q e st b d) e st b) else s.sheet u := by
  have hset : (grantSteps s q e st b t n d).sheet u =
      (s.setSheet t (some (newSheet (reserved s q e st b d) e st b))).sheet u := by
    rw [State.sheet, sheets_grantSteps]
    rfl
  rw [hset, State.sheet_setSheet]

/-- A release and the end of its steps only age the records (R29). -/
theorem releaseGrant_aged (s : State) : Aged s.sheets (releaseGrant s).sheets := by
  rcases releaseGrant_cases s with h | ⟨t, r, -, -, h⟩ <;> rw [h]
  · exact .refl _
  · have hclaim := (claimRelease_keeps (assertRelease (evaluateBoth s)) t r.owner s.now).records
    have hsheets : (assertRelease (evaluateBoth s)).sheets = s.sheets := by simp [assertRelease]
    rw [hsheets] at hclaim
    simpa [finishRelease, appendPitch] using hclaim

theorem sheet_claimPark (s : State) (t u : Tag) (o : Owner) :
    (claimPark s t o).sheet u = if t = u then
        (s.sheet t).map fun r => if r.owner = o ∧ r.state = .loop then { r with state := .parked, trail := none } else r
      else s.sheet u := by
  unfold claimPark
  rw [sheet_claim]
  congr 1
  congr 1
  funext r
  by_cases hloop : r.state = .loop <;> simp [hloop]

/-- A park leaves the part as it is, or moves one record of the loop to PARKED where none is (R28, R98). -/
theorem parkDue_cases (s : State) : (parkDue s).sheets = s.sheets ∨ (s.parkedTag = none ∧ ∃ t, ∀ u,
    (parkDue s).sheet u = s.sheet u ∨ (u = t ∧ ∃ r, s.sheet u = some r ∧
      (parkDue s).sheet u = some { r with state := .parked, trail := none })) := by
  unfold parkDue
  split
  · exact .inl rfl
  case h_2 w hw =>
    split
    case isFalse => exact .inl rfl
    case isTrue hdue =>
      refine .inr ⟨by simpa using hdue.2.1, w.tag, fun u => ?_⟩
      rw [sheet_claimPark]
      split
      case isFalse => exact .inl rfl
      case isTrue htu =>
        subst htu
        change (s.sheet w.tag).map _ = s.sheet w.tag ∨ _ ∧ ∃ r, _ ∧ (s.sheet w.tag).map _ = _
        cases hr : s.sheet w.tag with
        | none => exact .inl rfl
        | some r =>
          simp only [Option.map_some]
          split
          · exact .inr ⟨trivial, r, rfl, rfl⟩
          · exact .inl rfl

/-! ## One PARKED, one PICKING -/

theorem Aged.oneParkedOnePicking {s t : State} (h : Aged s.sheets t.sheets) (hs : OneParkedOnePicking s) :
    OneParkedOnePicking t := by
  obtain ⟨hparked, hpicking⟩ := hs
  constructor
  case left =>
    intro a b r q hr hq hpr hpq
    obtain ⟨r', hr', hp', -⟩ := h a r hr
    obtain ⟨q', hq', hk', -⟩ := h b q hq
    exact hparked a b r' q' hr' hq' (hp' hpr) (hk' hpq)
  case right =>
    intro a b r q hr hq hpr hpq
    obtain ⟨r', hr', -, hp', -⟩ := h a r hr
    obtain ⟨q', hq', -, hk', -⟩ := h b q hq
    exact hpicking a b r' q' hr' hq' (hp' hpr) (hk' hpq)

theorem oneParkedOnePicking_trayGrant (d : Bool) {s : State} (hs : OneParkedOnePicking s) :
    OneParkedOnePicking (trayGrant d s) := by
  rcases trayGrant_cases s d with h | h | ⟨q, e, st, b, t, n, haward, -, h⟩ <;> rw [h]
  · exact hs
  · exact (evaluateBoth_keeps s).records.oneParkedOnePicking hs
  · have hsheet : ∀ u, (grantSteps (evaluateBoth s) q e st b t n d).sheet u =
        if t = u then some (newSheet (reserved (evaluateBoth s) q e st b d) e st b) else s.sheet u := fun u => by
      rw [sheet_grantSteps, State.sheet, evaluateBoth_eq]
      rfl
    have hold : ∀ u r, (grantSteps (evaluateBoth s) q e st b t n d).sheet u = some r →
        (u = t ∧ r.state = .picking) ∨ (s.sheet u = some r ∧ r.state ≠ .picking) := by
      intro u r hr
      rw [hsheet] at hr
      split at hr
      case isTrue htu =>
        cases hr
        exact .inl ⟨htu.symm, rfl⟩
      case isFalse => exact .inr ⟨hr, picking_of_eligible haward.eligible hr⟩
    refine ⟨fun a b r p hr hp hpr hpp => ?_, fun a b r p hr hp hpr hpp => ?_⟩
    · have hra : s.sheet a = some r := by
        rcases hold a r hr with ⟨-, hpicking⟩ | ⟨hra, -⟩
        · exact absurd (hpr.symm.trans hpicking) (by decide)
        · exact hra
      have hpb : s.sheet b = some p := by
        rcases hold b p hp with ⟨-, hpicking⟩ | ⟨hpb, -⟩
        · exact absurd (hpp.symm.trans hpicking) (by decide)
        · exact hpb
      exact hs.1 a b r p hra hpb hpr hpp
    · rcases hold a r hr with ⟨rfl, -⟩ | ⟨-, hnot⟩
      · rcases hold b p hp with ⟨rfl, -⟩ | ⟨-, hnot⟩
        · rfl
        · exact absurd hpp hnot
      · exact absurd hpr hnot

/-- No record is PARKED where none bears the parked tag (R24). -/
theorem not_parked_of_parkedTag {s : State} (h : s.parkedTag = none) {t : Tag} {r : Sheet} (hr : s.sheet t = some r) :
    r.state ≠ .parked := by
  have hnone := List.find?_eq_none.mp h t (List.mem_finRange t)
  simpa [hr] using hnone

theorem oneParkedOnePicking_parkDue {s : State} (hs : OneParkedOnePicking s) : OneParkedOnePicking (parkDue s) := by
  rcases parkDue_cases s with h | ⟨hnone, t, hsheet⟩
  · rw [OneParkedOnePicking]
    simp only [State.sheet, h]
    exact hs
  · have hparked : ∀ u r, (parkDue s).sheet u = some r → r.state = .parked → u = t := by
      intro u r hr hp
      rcases hsheet u with hsame | ⟨hut, -⟩
      · exact absurd hp (not_parked_of_parkedTag hnone (hsame ▸ hr))
      · exact hut
    have hpicking : ∀ u r, (parkDue s).sheet u = some r → r.state = .picking → s.sheet u = some r := by
      intro u r hr hp
      rcases hsheet u with hsame | ⟨-, q, -, hq⟩
      · exact hsame ▸ hr
      · rw [hq] at hr
        cases hr
        cases hp
    exact ⟨fun a b r q hr hq hpr hpq => (hparked a r hr hpr).trans (hparked b q hq hpq).symm,
      fun a b r q hr hq hpr hpq => hs.2 a b r q (hpicking a r hr hpr) (hpicking b q hq hpq) hpr hpq⟩

theorem oneParkedOnePicking_meetDoor (o : Opening) {s : State} (hs : OneParkedOnePicking s) :
    OneParkedOnePicking (meetDoor s o) := by
  rcases meetDoor_cases s o with h | h <;> rw [h]
  · exact oneParkedOnePicking_trayGrant true hs
  · exact (openDoor_keeps s o.bin).records.oneParkedOnePicking hs

theorem oneParkedOnePicking_effect (c : Instr) {s : State} (hs : OneParkedOnePicking s) :
    OneParkedOnePicking (effect c s) := by
  cases hgrows : growsPath c with
  | false => exact (effect_keeps hgrows s).records.oneParkedOnePicking hs
  | true =>
    obtain rfl | ⟨o, rfl⟩ | rfl | rfl := growsPath_eq_true hgrows
    · exact oneParkedOnePicking_trayGrant false hs
    · exact oneParkedOnePicking_meetDoor o hs
    · exact (releaseGrant_aged s).oneParkedOnePicking hs
    · exact oneParkedOnePicking_parkDue hs

/-- Settles O58: the end of a step only ages the records, and a grant and a park look for one first. -/
theorem everyStepKeepsOneParkedAndOnePicking : Obligations.EveryStepKeepsOneParkedAndOnePicking := by
  intro s t hs hstep
  rcases step_cases hstep with rfl | ⟨c, rest, -, hend⟩
  · exact hs
  · exact hend.records.oneParkedOnePicking (oneParkedOnePicking_effect c (s := { s with pending := rest }) hs)

/-! ## The room of the sequence -/

/-- The records that await their back side, and the pitches, are no more than before. -/
theorem SequenceFits.mono {s t : State} (hs : SequenceFits s) (hp : t.tsq.pitches.length ≤ s.tsq.pitches.length)
    (hb : t.tagsWhere Sheet.backPending ⊆ s.tagsWhere Sheet.backPending) : SequenceFits t := by
  have hlen := (nodup_tagsWhere t Sheet.backPending).length_le_of_subset hb
  unfold SequenceFits at hs ⊢
  omega

theorem Keeps.sequenceFits {s t : State} (h : Keeps s t) (hs : SequenceFits s) : SequenceFits t := by
  refine hs.mono h.pitches fun u hu => ?_
  obtain ⟨r, hr, hback⟩ := mem_tagsWhere.mp hu
  obtain ⟨q, hq, -, -, hages⟩ := h.records u r hr
  exact mem_tagsWhere.mpr ⟨q, hq, hages hback⟩

theorem sequenceFits_trayGrant (d : Bool) {s : State} (hs : SequenceFits s) : SequenceFits (trayGrant d s) := by
  rcases trayGrant_cases s d with h | h | ⟨q, e, st, b, t, n, haward, -, h⟩ <;> rw [h]
  · exact hs
  · exact (evaluateBoth_keeps s).sequenceFits hs
  · have hroom := room_of_eligible haward.eligible haward.statement
    have hpitches := length_pitches_grantSteps (evaluateBoth s) q e st b t n d
    rw [evaluateBoth_frame s |>.2.2.2.1] at hpitches
    have hsheet : ∀ u, (grantSteps (evaluateBoth s) q e st b t n d).sheet u =
        if t = u then some (newSheet (reserved (evaluateBoth s) q e st b d) e st b) else s.sheet u := fun u => by
      rw [sheet_grantSteps, State.sheet, evaluateBoth_eq]
      rfl
    have hsubset : (grantSteps (evaluateBoth s) q e st b t n d).tagsWhere Sheet.backPending ⊆
        (if st.plex = .duplex then [t] else []) ++ s.tagsWhere Sheet.backPending := by
      intro u hu
      obtain ⟨r, hr, hback⟩ := mem_tagsWhere.mp hu
      rw [hsheet] at hr
      split at hr
      case isTrue htu =>
        cases hr
        rw [newSheet_backPending, decide_eq_true_eq] at hback
        simp [hback, htu]
      case isFalse => exact List.mem_append_right _ (mem_tagsWhere.mpr ⟨r, hr, hback⟩)
    have hlen := (nodup_tagsWhere _ Sheet.backPending).length_le_of_subset hsubset
    unfold SequenceFits
    rw [List.length_append] at hlen
    split at hlen <;> simp_all <;> omega

/-- A release appends the back pitch of a record that awaited it, and ends its waiting (R29, R62). -/
theorem sequenceFits_releaseGrant {s : State} (hs : SequenceFits s) (hawait : ParkedAwaitBack s) :
    SequenceFits (releaseGrant s) := by
  rcases releaseGrant_cases s with h | ⟨t, r, hr, hparked, h⟩ <;> rw [h]
  · exact hs
  · generalize hu : assertRelease (evaluateBoth s) = u
    have hsheets : u.sheets = s.sheets := by rw [← hu]; simp [assertRelease]
    have htsq : u.tsq = s.tsq := by rw [← hu]; simp [assertRelease]
    have hsheet : ∀ v, (finishRelease (claimRelease u t r.owner s.now).1 t r s.now).sheet v =
        (claimRelease u t r.owner s.now).1.sheet v := fun v => by simp [finishRelease, appendPitch, State.sheet]
    have hpitches : (finishRelease (claimRelease u t r.owner s.now).1 t r s.now).tsq.pitches.length =
        s.tsq.pitches.length + 1 := by simp [finishRelease, appendPitch, claimRelease, htsq]
    have hreleased : t ∉ (finishRelease (claimRelease u t r.owner s.now).1 t r s.now).tagsWhere Sheet.backPending := by
      rw [mem_tagsWhere]
      rintro ⟨q, hq, hback⟩
      have hur : u.sheet t = some r := by rw [State.sheet, hsheets]; exact hr
      rw [hsheet, claimRelease, sheet_claim, if_pos rfl, hur] at hq
      simp [hparked] at hq
      rw [← hq] at hback
      simp [Sheet.backPending] at hback
    have hsubset : t :: (finishRelease (claimRelease u t r.owner s.now).1 t r s.now).tagsWhere Sheet.backPending ⊆
        s.tagsWhere Sheet.backPending := by
      intro v hv
      rw [mem_tagsWhere]
      rcases List.mem_cons.mp hv with rfl | hv
      · exact ⟨r, hr, hawait v r hr hparked⟩
      · obtain ⟨q, hq, hback⟩ := mem_tagsWhere.mp hv
        rw [hsheet] at hq
        obtain ⟨p, hp, -, -, hages⟩ := (claimRelease_keeps u t r.owner s.now).records v q hq
        rw [hsheets] at hp
        exact ⟨p, hp, hages hback⟩
    have hnodup := List.nodup_cons.mpr ⟨hreleased, nodup_tagsWhere _ Sheet.backPending⟩
    have hlen := List.Nodup.length_le_of_subset hnodup hsubset
    rw [List.length_cons] at hlen
    unfold SequenceFits at hs ⊢
    omega

theorem sequenceFits_parkDue {s : State} (hs : SequenceFits s) : SequenceFits (parkDue s) := by
  have htsq : (parkDue s).tsq = s.tsq := by
    unfold parkDue
    split
    · rfl
    · split <;> simp
  refine hs.mono (Nat.le_of_eq (by rw [htsq])) fun u hu => ?_
  obtain ⟨r, hr, hback⟩ := mem_tagsWhere.mp hu
  rcases parkDue_cases s with h | ⟨-, t, hsheet⟩
  · exact mem_tagsWhere.mpr ⟨r, by rwa [State.sheet, h] at hr, hback⟩
  · rcases hsheet u with hsame | ⟨-, q, hq, hparked⟩
    · exact mem_tagsWhere.mpr ⟨r, hsame ▸ hr, hback⟩
    · rw [hparked] at hr
      cases hr
      exact mem_tagsWhere.mpr ⟨q, hq, hback⟩

theorem sequenceFits_meetDoor (o : Opening) {s : State} (hs : SequenceFits s) : SequenceFits (meetDoor s o) := by
  rcases meetDoor_cases s o with h | h <;> rw [h]
  · exact sequenceFits_trayGrant true hs
  · exact (openDoor_keeps s o.bin).sequenceFits hs

theorem sequenceFits_effect (c : Instr) {s : State} (hs : SequenceFits s) (hawait : ParkedAwaitBack s) :
    SequenceFits (effect c s) := by
  cases hgrows : growsPath c with
  | false => exact (effect_keeps hgrows s).sequenceFits hs
  | true =>
    obtain rfl | ⟨o, rfl⟩ | rfl | rfl := growsPath_eq_true hgrows
    · exact sequenceFits_trayGrant false hs
    · exact sequenceFits_meetDoor o hs
    · exact sequenceFits_releaseGrant hs hawait
    · exact sequenceFits_parkDue hs

/-- Settles O59: the bounds of every step, and the room of the sequence, which a grant looks for and a release uses. -/
theorem everyStepKeepsTheBounds : Obligations.EveryStepKeepsTheBounds := by
  refine ⟨fun s t hs hstep => ?_, fun s t hs hawait hstep => ?_⟩
  case refine_1 =>
    obtain ⟨p, hkeeps⟩ := step_keepsBounds hstep
    exact hkeeps.bounded (s := { s with pending := p }) ((bounded_iff s).mp hs |> (bounded_iff { s with pending := p }).mpr)
  case refine_2 =>
    rcases step_cases hstep with rfl | ⟨c, rest, -, hend⟩
    · exact hs
    · exact hend.sequenceFits (sequenceFits_effect c (s := { s with pending := rest }) hs hawait)

/-! ## The invariants at power-on -/

/-- Settles O60: the blocks right after power-on hold their cold reset values. -/
theorem theInvariantsHoldAtReset : Obligations.TheInvariantsHoldAtReset := by
  have hfree : ∀ t, State.reset.sheet t = none := by decide
  refine ⟨⟨rfl, rfl⟩, ⟨nofun, nofun⟩, statementsLegal_free, ⟨?_, ?_⟩, ?_, ?_, ?_⟩
  · intro t u r q hr
    rw [hfree] at hr
    cases hr
  · intro t u r q hr
    rw [hfree] at hr
    cases hr
  · exact (bounded_iff _).mpr ⟨portBounded_reset, feedBounded_reset, listsBounded_empty, verdictsBounded_reset,
      gatesBounded_atReset, binsBounded_reset _, Nat.zero_le _⟩
  · unfold SequenceFits
    decide
  · intro t r hr
    rw [hfree] at hr
    cases hr

end Sys2Proof.Machine
end

section
/-! The run lines and the start count follow the transport state (R162): the rows that leave the transport as it is, and
what the others make of it. -/

namespace Sys2Proof.Machine

set_option Elab.async false

/-! ## The rows that leave the transport as it is -/

@[simp] theorem refuse_fst (s : State) (code : ResultCode) : (s.refuse code).1 = s := rfl

/-- What a write to GO leaves of the transport. -/
theorem command_tsv {s : State} {n : Nat} {take : List Word → State → State × Answer}
    (h : ∀ ws, (take ws s).1.tsv = s.tsv) : (s.command n take).tsv = s.tsv := by
  unfold State.command
  split
  · rfl
  · split
    · rfl
    · exact h s.cpt.buffer

@[simp] theorem writeProfile_tsv (s : State) (p : Profile) : (writeProfile s p).1.tsv = s.tsv := by
  unfold writeProfile
  split <;> rfl

@[simp] theorem resumeTray_tsv (s : State) (tray : Tray) : (resumeTray s tray).tsv = s.tsv := by
  have hnaming : ∀ (u : State) q, (evaluateNaming u tray q).tsv = u.tsv := by
    intro u q
    unfold evaluateNaming
    split <;> simp
  unfold resumeTray
  dsimp only
  split <;> simp [hnaming]

@[simp] theorem takeOpen_tsv (ws : List Word) (s : State) : (takeOpen ws s).1.tsv = s.tsv := by
  unfold takeOpen
  repeat' split
  all_goals simp [openSlot]

@[simp] theorem takePage_tsv (ws : List Word) (s : State) : (takePage ws s).1.tsv = s.tsv := by
  unfold takePage
  repeat' split
  all_goals simp [acceptPage]

@[simp] theorem takeRestart_tsv (ws : List Word) (s : State) : (takeRestart ws s).1.tsv = s.tsv := by
  unfold takeRestart
  repeat' split
  all_goals simp

@[simp] theorem takeDiscard_tsv (ws : List Word) (s : State) : (takeDiscard ws s).1.tsv = s.tsv := by
  unfold takeDiscard
  repeat' split
  all_goals simp

@[simp] theorem takeQueryStatement_tsv (ws : List Word) (s : State) : (takeQueryStatement ws s).1.tsv = s.tsv := by
  unfold takeQueryStatement
  repeat' split
  all_goals rfl

@[simp] theorem takeQuerySheet_tsv (ws : List Word) (s : State) : (takeQuerySheet ws s).1.tsv = s.tsv := by
  unfold takeQuerySheet
  repeat' split
  all_goals simp

@[simp] theorem takeFindSheets_tsv (ws : List Word) (s : State) : (takeFindSheets ws s).1.tsv = s.tsv := by
  unfold takeFindSheets
  repeat' split
  all_goals simp

@[simp] theorem takeTrayResume_tsv (ws : List Word) (s : State) : (takeTrayResume ws s).1.tsv = s.tsv := by
  unfold takeTrayResume
  repeat' split
  all_goals simp

@[simp] theorem takeQueryQueue_tsv (ws : List Word) (s : State) : (takeQueryQueue ws s).1.tsv = s.tsv := by
  unfold takeQueryQueue
  repeat' split
  all_goals simp

@[simp] theorem takeSideReady_tsv (ws : List Word) (s : State) : (takeSideReady ws s).1.tsv = s.tsv := by
  unfold takeSideReady
  repeat' split
  all_goals simp [readyPitch]

@[simp] theorem takeSideFail_tsv (ws : List Word) (s : State) : (takeSideFail ws s).1.tsv = s.tsv := by
  unfold takeSideFail
  repeat' split
  all_goals simp

@[simp] theorem takeBinAccept_tsv (ws : List Word) (s : State) : (takeBinAccept ws s).1.tsv = s.tsv := by
  unfold takeBinAccept
  repeat' split
  all_goals simp [acceptBin]

@[simp] theorem takeBinRole_tsv (ws : List Word) (s : State) : (takeBinRole ws s).1.tsv = s.tsv := by
  unfold takeBinRole
  repeat' split
  all_goals simp

@[simp] theorem takeSetLeg_tsv (ws : List Word) (s : State) : (takeSetLeg ws s).1.tsv = s.tsv := by
  unfold takeSetLeg
  repeat' split
  all_goals simp

@[simp] theorem takeSetTray_tsv (ws : List Word) (s : State) : (takeSetTray ws s).1.tsv = s.tsv := by
  unfold takeSetTray
  repeat' split
  all_goals simp

@[simp] theorem takeSetSensor_tsv (ws : List Word) (s : State) : (takeSetSensor ws s).1.tsv = s.tsv := by
  unfold takeSetSensor
  repeat' split
  all_goals simp [writePolarity]

@[simp] theorem takeSetGate_tsv (ws : List Word) (s : State) : (takeSetGate ws s).1.tsv = s.tsv := by
  unfold takeSetGate
  repeat' split
  all_goals simp

@[simp] theorem takeSetLimits_tsv (ws : List Word) (s : State) : (takeSetLimits ws s).1.tsv = s.tsv := by
  unfold takeSetLimits
  repeat' split
  all_goals simp

@[simp] theorem takeSetCapacity_tsv (ws : List Word) (s : State) : (takeSetCapacity ws s).1.tsv = s.tsv := by
  unfold takeSetCapacity
  repeat' split
  all_goals simp [writeCapacity]

@[simp] theorem setUnits_tsv (s : State) (u : Units) : (setUnits s u).1.tsv = s.tsv := by
  unfold setUnits
  repeat' split
  all_goals simp

@[simp] theorem takeSetUnits_tsv (ws : List Word) (s : State) : (takeSetUnits ws s).1.tsv = s.tsv := by
  unfold takeSetUnits
  repeat' split
  all_goals simp

@[simp] theorem takeQueryBin_tsv (e : Bool) (ws : List Word) (s : State) : (takeQueryBin e ws s).1.tsv = s.tsv := by
  unfold takeQueryBin
  repeat' split
  all_goals simp [readEmpty]

@[simp] theorem takeQueryProfile_tsv (u : Units) (ws : List Word) (s : State) :
    (takeQueryProfile u ws s).1.tsv = s.tsv := by
  unfold takeQueryProfile
  dsimp only
  repeat' split
  all_goals simp

@[simp] theorem takeCalibrate_tsv (r1 r2 r3 r4 : BitVec 10) (ws : List Word) (s : State) :
    (takeCalibrate r1 r2 r3 r4 ws s).1.tsv = s.tsv := by
  unfold takeCalibrate
  dsimp only
  repeat' split
  all_goals simp

@[simp] theorem completeDebounce_tsv (s : State) (x : Sensor) (later : Bool) : (completeDebounce s x later).tsv = s.tsv := by
  unfold completeDebounce
  repeat' split
  all_goals simp

@[simp] theorem changeLine_tsv (s : State) (x : Sensor) : (changeLine s x).tsv = s.tsv := by
  have htoggle : ∀ u : State, (toggleSensor u x).tsv = u.tsv := fun _ => rfl
  unfold changeLine
  dsimp only
  repeat' split
  all_goals simp [htoggle]

@[simp] theorem expireAt_tsv (s : State) (x : Sensor) : (expireAt s x).tsv = s.tsv := by
  unfold expireAt
  split <;> simp

@[simp] theorem closeDoor_tsv (s : State) (b : Bin) (e : Bool) : (closeDoor s b e).tsv = s.tsv := by
  unfold closeDoor
  dsimp only
  repeat' split
  all_goals simp [readEmpty]

@[simp] theorem countVerdict_tsv (s : State) (tray : Tray) (v : Verdict) (later : Bool) :
    (countVerdict s tray v later).tsv = s.tsv := by
  have hsend : ∀ u : State, (sendSuspect u tray later).tsv = u.tsv := by
    intro u
    unfold sendSuspect
    split <;> simp
  unfold countVerdict
  dsimp only
  repeat' split
  all_goals simp [hsend]

@[simp] theorem gaugeSample_tsv (s : State) (reading : BitVec 10) (later : Bool) :
    (gaugeSample s reading later).tsv = s.tsv := by
  have hspoil : ∀ (u : State) t o, (spoilByGauge u t o).tsv = u.tsv := fun _ _ _ => rfl
  unfold gaugeSample
  split
  · rfl
  · split
    · unfold takeReading
      dsimp only
      split
      · rfl
      · unfold endBurst
        dsimp only
        rw [countVerdict_tsv]
        split <;> simp [hspoil]
    · rfl

@[simp] theorem trayGrant_tsv (d : Bool) (s : State) : (trayGrant d s).tsv = s.tsv := by
  rcases trayGrant_cases s d with h | h | ⟨q, e, st, b, t, n, -, -, h⟩ <;> rw [h] <;> simp

@[simp] theorem releaseGrant_tsv (s : State) : (releaseGrant s).tsv = s.tsv := by
  rcases releaseGrant_cases s with h | ⟨t, r, -, -, h⟩ <;> rw [h]
  simp [finishRelease, appendPitch, assertRelease]

@[simp] theorem pickLaunch_tsv (s : State) : (pickLaunch s).tsv = s.tsv := by
  unfold pickLaunch
  repeat' split
  all_goals simp [launchPick]

@[simp] theorem parkDue_tsv (s : State) : (parkDue s).tsv = s.tsv := by
  unfold parkDue
  repeat' split
  all_goals simp

/-- The rows that write the transport record. -/
def drives : Instr → Bool
  | .clearJam | .start | .stop | .warmReset | .coldReset _ | .encoderPulse _ | .encoderSilence | .backupBaseTick
  | .startLimitExpiry | .supplyWarningAsserted | .drainComplete | .binDoorOpened _ | .jam _ | .runoutComplete => true
  | _ => false

theorem effect_tsv {c : Instr} (h : drives c = false) (s : State) : (effect c s).tsv = s.tsv := by
  cases c with
  | openStatement => exact command_tsv fun ws => takeOpen_tsv ws s
  | page => exact command_tsv fun ws => takePage_tsv ws s
  | restartStatement => exact command_tsv fun ws => takeRestart_tsv ws s
  | discardStatement => exact command_tsv fun ws => takeDiscard_tsv ws s
  | queryStatement => exact command_tsv fun ws => takeQueryStatement_tsv ws s
  | querySheet => exact command_tsv fun ws => takeQuerySheet_tsv ws s
  | findSheets => exact command_tsv fun ws => takeFindSheets_tsv ws s
  | trayResume => exact command_tsv fun ws => takeTrayResume_tsv ws s
  | queryQueue => exact command_tsv fun ws => takeQueryQueue_tsv ws s
  | sideReady => exact command_tsv fun ws => takeSideReady_tsv ws s
  | sideFail => exact command_tsv fun ws => takeSideFail_tsv ws s
  | calibrateZero r1 r2 r3 r4 => exact command_tsv fun ws => takeCalibrate_tsv r1 r2 r3 r4 ws s
  | readSnapshot => exact command_tsv fun _ => rfl
  | binAccept => exact command_tsv fun ws => takeBinAccept_tsv ws s
  | binRole => exact command_tsv fun ws => takeBinRole_tsv ws s
  | queryBin e => exact command_tsv fun ws => takeQueryBin_tsv e ws s
  | queryTransport => exact command_tsv fun _ => rfl
  | setLeg => exact command_tsv fun ws => takeSetLeg_tsv ws s
  | setTray => exact command_tsv fun ws => takeSetTray_tsv ws s
  | setSensor => exact command_tsv fun ws => takeSetSensor_tsv ws s
  | setGate => exact command_tsv fun ws => takeSetGate_tsv ws s
  | setLimits => exact command_tsv fun ws => takeSetLimits_tsv ws s
  | setCapacity => exact command_tsv fun ws => takeSetCapacity_tsv ws s
  | setUnits => exact command_tsv fun ws => takeSetUnits_tsv ws s
  | queryProfile u => exact command_tsv fun ws => takeQueryProfile_tsv u ws s
  | clearNoticeLost => exact command_tsv fun _ => rfl
  | badCommand w =>
    rw [effect]
    split <;> rfl
  | commandData w =>
    rw [effect, pushWord]
    (repeat' split) <;> rfl
  | result =>
    rw [effect, readResult]
    repeat' split
    all_goals rfl
  | notice =>
    rw [effect, readNotice]
    repeat' split
    all_goals rfl
  | noticeData =>
    rw [effect, readNoticeData]
    repeat' split
    all_goals rfl
  | call =>
    rw [effect, readCall]
    repeat' split
    all_goals rfl
  | callData =>
    rw [effect, readCallData]
    repeat' split
    all_goals rfl
  | snapshotSelect w => rfl
  | ignoredRegisterWrite o w => rfl
  | sensorLineChange x => exact changeLine_tsv s x
  | debounceComplete e => exact completeDebounce_tsv s e.sensor e.retireLater
  | supplyWarningCleared =>
    rw [effect, clearSupply]
    split <;> simp [setSupply]
  | trayReadyChange t => rfl
  | binDoorClosed b e => exact closeDoor_tsv s b e
  | trayGrant => exact trayGrant_tsv false s
  | releaseGrant => exact releaseGrant_tsv s
  | pickLaunch => exact pickLaunch_tsv s
  | pickWindowExpiry t => exact expireAt_tsv s (exitOf t)
  | leadWindowExpiry x =>
    rw [effect]
    split <;> simp
  | trailWindowExpiry t => simp [effect]
  | releaseWindowExpiry => simp [effect]
  | park => exact parkDue_tsv s
  | gaugeReading r l => exact gaugeSample_tsv s r l
  | deadlineExpiry t => simp [effect]
  | gateThrow g =>
    rw [effect, throwDue]
    repeat' split
    all_goals simp
  | gatePassage g =>
    rw [effect, passageDue]
    repeat' split
    all_goals simp
  | gateClearance g => simp [effect]
  | breakStatement n =>
    rw [effect, takeBreakAt]
    split <;> simp
  | condemn n =>
    rw [effect, takeCondemnAt]
    split <;> simp
  | reroute =>
    rw [effect, rerouteOldest]
    split <;> simp
  | flush =>
    rw [effect, flushOldest]
    split <;> simp
  | spoilRangeOpening =>
    rw [effect, takeOpening]
    split <;> simp
  | closingRequest =>
    rw [effect, takeClosing]
    split <;> simp
  | _ => cases h

/-! ## The run lines -/

/-- The run lines and the start count are as the state of the transport gives them (R162). -/
def Transport.Follows (v : Transport) : Prop :=
  (match v.state with
    | .stopped | .jammed => v.mainRun = false ∧ v.outputRun = false
    | .starting | .running | .draining => v.mainRun = true ∧ v.outputRun = true
    | .runout => v.mainRun = false) ∧ (v.startCount.isSome ↔ v.state = .starting)

theorem follows_iff (s : State) : s.tsv.Follows ↔ RunLinesFollow s ∧ StartCountFollows s := Iff.rfl

/-- Nothing but the state, the run lines and the start count matters. -/
theorem Transport.Follows.congr {v w : Transport} (hv : v.Follows) (hstate : w.state = v.state)
    (hmain : w.mainRun = v.mainRun) (houtput : w.outputRun = v.outputRun) (hcount : w.startCount = v.startCount) :
    w.Follows := by
  unfold Follows at hv ⊢
  rw [hstate, hmain, houtput, hcount]
  exact hv

theorem endStart_follows (s : State) (cause : TransportCause) (reason : StartReason) :
    (endStart s cause reason).tsv.Follows := by
  rw [tsv_endStart]
  exact ⟨⟨rfl, rfl⟩, nofun, nofun⟩

/-- A state between which a drain and a run change needs no other lines. -/
theorem drain_follows {s : State} (h : s.tsv.Follows) (hstate : s.tsv.state = .running ∨ s.tsv.state = .draining)
    (cause : TransportCause) : (enter s .draining cause .none_).tsv.Follows := by
  rw [tsv_enter]
  rcases hstate with hstate | hstate <;> simp_all [Transport.Follows]

theorem stopEvent_follows {s : State} (h : s.tsv.Follows) (cause : TransportCause) : (stopEvent s cause).tsv.Follows := by
  unfold stopEvent
  split
  case h_1 hstate => exact drain_follows h (.inl hstate) cause
  case h_2 => exact endStart_follows s cause .none_
  all_goals exact h

theorem acceptStart_follows (s : State) : (acceptStart s).tsv.Follows := by
  rw [acceptStart, tsv_enter]
  exact ⟨⟨rfl, rfl⟩, fun _ => rfl, fun _ => rfl⟩

/-- Withdrawn from anywhere with no start count pending: STOPPED and JAMMED (R149, R153, R168). -/
theorem withdrawn_follows {v : Transport} (hcount : v.startCount = none) (hmain : v.mainRun = false)
    (houtput : v.outputRun = false) (hstate : v.state = .stopped ∨ v.state = .jammed) : v.Follows := by
  rcases hstate with hstate | hstate <;> simp [Transport.Follows, hstate, hcount, hmain, houtput]

/-- Outside STARTING there is no start count. -/
theorem startCount_none {v : Transport} (h : v.Follows) (hstate : v.state ≠ .starting) : v.startCount = none := by
  have hiff := h.2
  simpa [hstate] using hiff

theorem completeDrain_follows {s : State} (h : s.tsv.Follows) (hstate : s.tsv.state = .draining) :
    (completeDrain s).tsv.Follows := by
  have hcount : s.tsv.startCount = none := startCount_none h (by simp [hstate])
  have htsv : (completeDrain s).tsv = (enter (withdrawBoth s) .stopped .drainComplete .none_).tsv := by
    simp [completeDrain, tsv_enter]
  rw [htsv, tsv_enter, tsv_withdrawBoth]
  exact withdrawn_follows hcount rfl rfl (.inl rfl)

theorem endRunOut_follows {s : State} (hcount : s.tsv.startCount = none) : (endRunOut s).tsv.Follows := by
  rw [tsv_endRunOut]
  exact withdrawn_follows hcount rfl rfl (.inr rfl)

theorem runOut_follows {s : State} (hcount : s.tsv.startCount = none) (hmain : s.tsv.mainRun = false) :
    (runOut s).tsv.Follows := by
  unfold runOut
  dsimp only
  split
  · refine endRunOut_follows ?_
    simp [tsv_enter, hcount]
  · simp [tsv_enter, Transport.Follows, hcount, hmain]

theorem stopOutput_follows {s : State} (hcount : s.tsv.startCount = none) : (stopOutput s).tsv.Follows := by
  rw [tsv_stopOutput]
  exact withdrawn_follows hcount rfl rfl (.inr rfl)

theorem declareJam_follows (s : State) (f : PathFault) : (declareJam s f).tsv.Follows := by
  have hstop : ∀ u : State, (stopMain u).tsv.startCount = none ∧ (stopMain u).tsv.mainRun = false := fun u => by
    rw [tsv_stopMain]
    exact ⟨rfl, rfl⟩
  obtain ⟨hcount, hmain⟩ := hstop (recordJam s f)
  unfold declareJam
  dsimp only
  split
  · exact runOut_follows hcount hmain
  · exact stopOutput_follows hcount

theorem secondFault_follows {s : State} (f : PathFault) (hcount : s.tsv.startCount = none) :
    (secondFault s f).tsv.Follows := by
  unfold secondFault
  refine withdrawn_follows ?_ ?_ ?_ (.inr ?_) <;> simp [tsv_enter, tsv_withdrawBoth, hcount]

theorem takeFault_follows {s : State} (h : s.tsv.Follows) (f : PathFault) : (takeFault s f).tsv.Follows := by
  unfold takeFault
  split
  case h_5 hstate => exact secondFault_follows f (startCount_none h (by simp [hstate]))
  case h_6 =>
    have htsv : (reportFurther s f).tsv = s.tsv := by simp
    rw [htsv]
    exact h
  all_goals exact declareJam_follows s f

theorem clearPath_follows {s : State} (h : s.tsv.Follows) (hstate : s.tsv.state = .jammed) :
    (clearPath s).tsv.Follows := by
  have hlines := h.1
  rw [hstate] at hlines
  have hfold : (tags.foldl resolve s).tsv = s.tsv := foldl_keeps (f := State.tsv) (by simp) tags s
  unfold clearPath
  dsimp only
  rw [tsv_enter]
  refine withdrawn_follows ?_ ?_ ?_ (.inl rfl) <;> simp [hfold, hlines, startCount_none h (by simp [hstate])]

/-- The takeover leaves the state, the run lines and the start count (R170). -/
theorem takeOver_follows {s : State} (h : s.tsv.Follows) : (takeOver s).tsv.Follows ∧ (takeOver s).tsv.state = s.tsv.state := by
  have hexpiries : ∀ u : State, (takeExpiries u).tsv = u.tsv := fun u => by simp
  unfold takeOver
  dsimp only
  rw [hexpiries]
  constructor
  · refine h.congr ?_ ?_ ?_ ?_ <;> simp [advance, beginBackup, loseEncoder]
  · simp [advance, beginBackup, loseEncoder]

theorem takeSilence_follows {s : State} (h : s.tsv.Follows) : (takeSilence s).tsv.Follows := by
  obtain ⟨hover, hsame⟩ := takeOver_follows h
  unfold takeSilence
  split
  case h_1 => exact endStart_follows _ _ _
  case h_2 hstate => exact drain_follows hover (.inl (hsame.trans hstate)) .encoderLost
  case h_3 hstate => exact drain_follows hover (.inr (hsame.trans hstate)) .encoderLost
  case h_4 hstate =>
    rw [tsv_enter]
    exact hover.congr (hsame.trans hstate).symm rfl rfl rfl
  all_goals exact h

theorem endSpan_follows {s : State} (h : s.tsv.Follows) (time : Nat) : (endSpan s time).tsv.Follows := by
  unfold endSpan
  dsimp only
  split
  case isFalse => exact h.congr rfl rfl rfl rfl
  case isTrue hstart =>
    have hlines := h.1
    rw [hstart.1] at hlines
    rw [startComplete, tsv_enter]
    exact ⟨hlines, nofun, nofun⟩

theorem measure_follows {s : State} (h : s.tsv.Follows) (elapsed : Nat) : (measure s elapsed).tsv.Follows := by
  unfold measure
  split
  · exact h.congr rfl rfl rfl rfl
  · split
    · exact h.congr rfl rfl rfl rfl
    · exact endSpan_follows h _

theorem pulse_follows {s : State} (h : s.tsv.Follows) (elapsed : Nat) : (pulse s elapsed).tsv.Follows := by
  have hnote : (notePulse s).tsv.Follows := by
    unfold notePulse
    split
    · exact h.congr rfl rfl rfl rfl
    · exact h
  unfold pulse
  dsimp only
  split
  · refine measure_follows ?_ elapsed
    exact hnote.congr rfl rfl rfl rfl
  · exact hnote

theorem openDoor_follows {s : State} (h : s.tsv.Follows) (b : Bin) : (openDoor s b).tsv.Follows := by
  unfold openDoor openWith
  dsimp only
  split
  · exact h
  · split
    · exact h
    · unfold afterOpening
      split
      · split
        case isTrue hrun =>
          refine drain_follows ?_ (.inl ?_) .purgeDoor
          · simpa using h
          · simpa using hrun
        case isFalse => simpa using h
      · simpa using h

theorem warmReset_follows (s : State) : (warmReset s).tsv.Follows := by
  have hbreak : ∀ u slot, (resetBreak u slot).tsv = u.tsv := by
    intro u slot
    unfold resetBreak
    split
    · rfl
    · split
      · rfl
      · dsimp only
        split
        · simp
        · simp [discardClaims, drainRequests, foldl_keeps]
  have hfold : (slots.foldl resetBreak (clearMotion (warmPort s))).tsv = (clearMotion (warmPort s)).tsv :=
    foldl_keeps hbreak slots _
  have htsv : (warmReset s).tsv = (clearMotion (warmPort s)).tsv := by
    unfold warmReset
    simp [hfold]
  rw [htsv]
  exact ⟨⟨rfl, rfl⟩, nofun, nofun⟩

/-- A write to GO keeps the run lines where what its owner makes of it does. -/
theorem command_follows {s : State} {n : Nat} {take : List Word → State → State × Answer} (h : s.tsv.Follows)
    (htake : ∀ ws, (take ws s).1.tsv.Follows) : (s.command n take).tsv.Follows := by
  unfold State.command
  split
  · exact h
  · split
    · exact h
    · exact htake s.cpt.buffer

theorem takeClearJam_follows {s : State} (h : s.tsv.Follows) (ws : List Word) : (takeClearJam ws s).1.tsv.Follows := by
  unfold takeClearJam
  split
  · exact h
  case isFalse hjammed =>
    split
    · exact h
    · have hpath := clearPath_follows h (Classical.not_not.mp hjammed)
      generalize clearPath s = u at hpath ⊢
      exact hpath

theorem takeStart_follows {s : State} (h : s.tsv.Follows) (ws : List Word) : (takeStart ws s).1.tsv.Follows := by
  unfold takeStart
  split
  · exact h
  · split
    · exact h
    · split
      · exact h
      · exact acceptStart_follows s

theorem takeStop_follows {s : State} (h : s.tsv.Follows) (ws : List Word) : (takeStop ws s).1.tsv.Follows := by
  unfold takeStop
  split
  case h_1 => exact h
  case h_2 => exact h
  all_goals exact stopEvent_follows h .stop

/-- Every command that drives the transport keeps its lines and its start count with its state. -/
theorem effect_follows (c : Instr) {s : State} (h : s.tsv.Follows) : (effect c s).tsv.Follows := by
  cases hdrives : drives c with
  | false =>
    rw [effect_tsv hdrives]
    exact h
  | true =>
    cases c with
    | clearJam => exact command_follows h (takeClearJam_follows h)
    | start => exact command_follows h (takeStart_follows h)
    | stop => exact command_follows h (takeStop_follows h)
    | warmReset =>
      rw [effect]
      refine command_follows h fun ws => ?_
      have hreset := warmReset_follows s
      rw [takeWarmReset]
      generalize warmReset s = u at hreset ⊢
      exact hreset
    | coldReset u => exact ⟨⟨rfl, rfl⟩, nofun, nofun⟩
    | encoderPulse n => exact pulse_follows h n
    | encoderSilence =>
      rw [effect, silence]
      split
      · exact takeSilence_follows h
      · exact h
    | backupBaseTick =>
      rw [effect, backupTick]
      split
      · exact h.congr rfl rfl rfl rfl
      · exact h
    | startLimitExpiry =>
      rw [effect, startLimit]
      split
      · exact endStart_follows s _ _
      · exact h
    | supplyWarningAsserted =>
      rw [effect, assertSupply]
      split
      · exact h
      · refine stopEvent_follows ?_ .supply
        simpa [setSupply] using h
    | drainComplete =>
      rw [effect, drainDone]
      split
      case isTrue hdone => exact completeDrain_follows h hdone.1
      case isFalse => exact h
    | binDoorOpened o =>
      rw [effect]
      rcases meetDoor_cases s o with hdoor | hdoor <;> rw [hdoor]
      · rw [trayGrant_tsv]
        exact h
      · exact openDoor_follows h o.bin
    | jam n =>
      rw [effect, takeFaultAt]
      split
      · exact h
      · refine takeFault_follows ?_ _
        exact h
    | runoutComplete =>
      rw [effect, runoutDone]
      split
      case isTrue hdone => exact endRunOut_follows (startCount_none h (by simp [hdone.1]))
      case isFalse => exact h
    | _ => cases hdrives

/-- Settles O56: every command keeps the lines with the state, and the end of the step leaves the transport. -/
theorem everyStepKeepsTheRunLines : Obligations.EveryStepKeepsTheRunLines := by
  intro s t hlines hcount hstep
  have hs : s.tsv.Follows := (follows_iff s).mpr ⟨hlines, hcount⟩
  rw [← follows_iff]
  unfold step at hstep
  split at hstep
  · cases hstep
    exact hs
  case h_2 c rest hpending =>
    rw [exec_eq_finish] at hstep
    obtain ⟨u, hu, hend⟩ := finish_spec { s with pending := rest } (effect c { s with pending := rest })
    rw [hu] at hstep
    cases hstep
    have htsv : t.tsv = (effect c { s with pending := rest }).tsv := hend.frame.2.2.2.2.2.2.2.1
    rw [htsv]
    exact effect_follows c (s := { s with pending := rest }) hs

end Sys2Proof.Machine
end

section
/-! The accesses of the port: reads, writes, and what each leaves (R182 to R190). -/

namespace Sys2Proof.Machine

set_option Elab.async false

/-- A command runs as its effect. -/
theorem runs_of_effect {c : Instr} {s u : State} (h : effect c s = u) : Runs c s u :=
  runs_of_finish (by rw [exec_eq_finish, h])

/-! ## The words of the snapshot -/

/-- The number whose bits below `k` are those of `f`. -/
def bitSum (f : Nat → Bool) : Nat → Nat
  | 0 => 0
  | k + 1 => bitSum f k + if f k then 2 ^ k else 0

theorem bitSum_lt (f : Nat → Bool) (k : Nat) : bitSum f k < 2 ^ k := by
  induction k with
  | zero => simp [bitSum]
  | succ k ih =>
    rw [bitSum, Nat.pow_succ]
    split <;> omega

theorem testBit_bitSum (f : Nat → Bool) (k n : Nat) : (bitSum f k).testBit n = (decide (n < k) && f n) := by
  induction k with
  | zero => simp [bitSum]
  | succ k ih =>
    have hsum : bitSum f (k + 1) = 2 ^ k * (if f k then 1 else 0) + bitSum f k := by
      rw [bitSum]
      split <;> omega
    rw [hsum, Nat.testBit_two_pow_mul_add _ (bitSum_lt f k)]
    rcases Nat.lt_trichotomy n k with hlt | rfl | hgt
    · rw [if_pos hlt, ih]
      simp [hlt, Nat.lt_succ_of_lt hlt]
    · cases f n <;> simp
    · have hbit : (if f k then 1 else 0 : Nat).testBit (n - k) = false := by
        have hle : (if f k then 1 else 0 : Nat) ≤ 1 := by split <;> omega
        exact Nat.testBit_lt_two_pow (Nat.lt_of_le_of_lt hle (Nat.one_lt_two_pow (by omega)))
      rw [if_neg (by omega), hbit]
      simp [show ¬ n < k + 1 by omega]

/-- The level of sensor `n`, off where there is none. -/
def levelAt (levels : Vector Bool 14) (n : Nat) : Bool := if k : n < 14 then levels[n] else false

theorem levelBits_eq (levels : Vector Bool 14) : levelBits levels = word (bitSum (levelAt levels) 14) := rfl

theorem getElem_levelBits (levels : Vector Bool 14) (n : Nat) (h : n < 16) : (levelBits levels)[n] = levelAt levels n := by
  have hlt : bitSum (levelAt levels) 14 < 65536 := Nat.lt_trans (bitSum_lt _ 14) (by decide)
  rw [levelBits_eq, BitVec.getElem_eq_testBit_toNat, word_toNat _ hlt, testBit_bitSum]
  unfold levelAt
  split <;> simp_all

/-- The word of the snapshot's marks (R189, word 6). -/
theorem getElem_marks (a b c d : Bool) : ∀ n : Fin 16, (word ((if a then 1 else 0) + (if b then 2 else 0) +
    (if c then 4 else 0) + (if d then 8 else 0)))[n] =
      if n = 0 then a else if n = 1 then b else if n = 2 then c else if n = 3 then d else false := by
  revert a b c d
  decide

/-! ## The reads -/

theorem jogLine_iff (s : State) (b : Bin) :
    s.jogLine b = true ↔ b ≠ .p ∧ (s.bin b).state ≠ .off ∧ (s.bin b).jogRight = true := by
  simp [State.jogLine, and_assoc]

/-- The words that a read of the snapshot port shows, by the index held (R189). -/
theorem snapshotData_words (s : State) :
    (s.cpt.select = 0 → ∀ (n : Nat) (h : n < 16),
        s.snapshotData[n] = if k : n < 14 then s.ptk.snapshot.levels[n] else false) ∧
      (s.cpt.select = 1 → s.snapshotData = s.ptk.snapshot.count.extractLsb' 0 16) ∧
      (s.cpt.select = 2 → s.snapshotData = s.ptk.snapshot.count.extractLsb' 16 16) ∧
      (s.cpt.select = 3 → s.snapshotData = match s.ptk.snapshot.cause with
        | none => 0
        | some cause => cause.code) ∧
      (s.cpt.select = 4 → s.snapshotData = sensorCode s.ptk.snapshot.sensor) ∧
      (s.cpt.select = 5 → s.snapshotData = match s.ptk.snapshot.tag with
        | none => 0
        | some tag => tagCode tag) ∧
      (s.cpt.select = 6 → s.snapshotData[0] = s.ptk.snapshot.locked ∧ s.snapshotData[1] = s.ptk.snapshot.second ∧
        s.snapshotData[2] = s.ptk.snapshot.tag.isSome ∧ s.snapshotData[3] = s.ptk.snapshot.cause.isSome ∧
        ∀ (n : Nat) (h : n < 16), 4 ≤ n → s.snapshotData[n] = false) := by
  unfold State.snapshotData
  refine ⟨fun h => ?_, fun h => ?_, fun h => ?_, fun h => ?_, fun h => ?_, fun h => ?_, fun h => ?_⟩ <;> rw [h]
  case refine_1 => exact fun n hn => getElem_levelBits s.ptk.snapshot.levels n hn
  case refine_2 => rfl
  case refine_3 => rfl
  case refine_4 => cases hcause : s.ptk.snapshot.cause <;> simp [Snapshot.words, dword, hcause]
  case refine_5 => rfl
  case refine_6 => cases htag : s.ptk.snapshot.tag <;> simp [Snapshot.words, dword, htag]
  case refine_7 =>
    have hmarks := getElem_marks s.ptk.snapshot.locked s.ptk.snapshot.second s.ptk.snapshot.tag.isSome
      s.ptk.snapshot.cause.isSome
    refine ⟨hmarks 0, hmarks 1, hmarks 2, hmarks 3, fun n hn hle => ?_⟩
    have hbit := hmarks ⟨n, hn⟩
    have hne : ∀ k : Fin 16, k.val < 4 → (⟨n, hn⟩ : Fin 16) ≠ k := fun k hk heq => by
      have hval := congrArg Fin.val heq
      dsimp only at hval
      omega
    rw [if_neg (hne 0 (by decide)), if_neg (hne 1 (by decide)), if_neg (hne 2 (by decide)),
      if_neg (hne 3 (by decide))] at hbit
    exact hbit

theorem readResult_eq (s : State) : readResult s = if s.cpt.busy then returns s 0 else
    match s.cpt.result[s.cpt.cursor]? with
    | none => returns s 0
    | some w => returns { s with cpt := { s.cpt with cursor := s.cpt.cursor + 1 } } w := rfl

/-- Settles O53: the plain reads are values of the state; each other read is its function's case. -/
theorem readsOfThePort : Obligations.ReadsOfThePort := by
  intro s
  refine ⟨⟨rfl, rfl, rfl, rfl, rfl, ?_, ?_⟩, snapshotData_words s, jogLine_iff s, ?_, ?_, ?_, ?_, ?_, ?_, ?_, ?_, ?_,
    ?_, ?_⟩
  · simp only [List.forall_mem_cons]
    exact ⟨rfl, rfl, rfl, rfl, rfl, rfl, nofun⟩
  · simp only [List.forall_mem_cons]
    exact ⟨rfl, rfl, rfl, rfl, rfl, nofun⟩
  · exact fun hbusy => runs_of_effect (by rw [effect, readResult, if_pos hbusy]; rfl)
  · intro hend
    refine runs_of_effect ?_
    rw [effect, readResult, hend]
    split <;> rfl
  · intro w hbusy hword
    refine runs_of_effect ?_
    rw [effect, readResult, if_neg (by simp [hbusy]), hword]
    rfl
  · exact fun hnone => runs_of_effect (by rw [effect, readNotice, hnone]; rfl)
  · exact fun n rest hnotices => runs_of_effect (by rw [effect, readNotice, hnotices]; rfl)
  · exact fun hnone => runs_of_effect (by rw [effect, readNoticeData, hnone]; rfl)
  · exact fun w rest hwords => runs_of_effect (by rw [effect, readNoticeData, hwords]; rfl)
  · intro hread
    have hnone : (s.tsq.pitches.find? fun p => !p.read) = none := by simpa [List.find?_eq_none] using hread
    exact runs_of_effect (by rw [effect, readCall, hnone]; rfl)
  · exact fun p hp => runs_of_effect (by rw [effect, readCall, hp]; rfl)
  · exact fun hnone => runs_of_effect (by rw [effect, readCallData, hnone]; rfl)
  · exact fun w rest hwords => runs_of_effect (by rw [effect, readCallData, hwords]; rfl)

/-! ## The writes -/

/-- Every code of the index is a write to GO with its number of words (R183). -/
theorem effect_command {c : Instr} {n : Nat} (h : argWords c = some n) : ∃ take, ∀ s, effect c s = s.command n take := by
  cases c <;> cases h <;> simp only [effect] <;> exact ⟨_, fun _ => rfl⟩

theorem command_busy {s : State} (n : Nat) (take : List Word → State → State × Answer) (h : s.cpt.busy = true) :
    s.command n take = s :=
  if_pos h

theorem command_wrongCount {s : State} {n : Nat} (take : List Word → State → State × Answer) (h : s.cpt.busy = false)
    (hn : s.cpt.buffer.length ≠ n ∨ s.cpt.overrun = true) : s.command n take = s.answer (.badArgument, []) := by
  unfold State.command
  rw [if_neg (by simp [h]), if_pos hn.symm]

/-- An answer without values, given while BUSY is clear. -/
theorem answer_code {s : State} (h : s.cpt.busy = false) (code : ResultCode) : s.answer (code, []) =
    { s with cpt := { s.cpt with result := [header code.code 1], cursor := 0, buffer := [], overrun := false } } := by
  rw [State.answer, ← h]
  rfl

/-- Settles O54: BUSY comes first, then the count of the words; each write else is its function's case. -/
theorem writesOfThePort : Obligations.WritesOfThePort := by
  intro s
  refine ⟨fun w hbusy => ⟨?_, ?_⟩, fun c n hc => ⟨fun hbusy => ?_, fun hbusy hn => ?_⟩, ?_, ?_, ?_, ?_, ?_, ?_, ?_⟩
  · exact runs_of_effect (if_pos hbusy)
  · exact runs_of_effect (if_pos hbusy)
  · obtain ⟨take, htake⟩ := effect_command hc
    exact runs_of_effect (by rw [htake, command_busy n take hbusy])
  · obtain ⟨take, htake⟩ := effect_command hc
    have hcode : header ResultCode.badArgument.code 1 = 0x0102 := by decide
    exact runs_of_effect (by rw [htake, command_wrongCount take hbusy hn, answer_code hbusy, hcode])
  · intro w hbusy hroom
    exact runs_of_effect (by rw [effect, if_neg (by simp [hbusy]), pushWord, if_pos hroom])
  · intro w hbusy hfull
    exact runs_of_effect (by rw [effect, if_neg (by simp [hbusy]), pushWord, if_neg (by omega)])
  · intro w hbusy
    have hcode : header ResultCode.badCommand.code 1 = 0x0101 := by decide
    exact runs_of_effect (by rw [effect, if_neg (by simp [hbusy]), answer_code hbusy, hcode])
  · intro hport
    have hcode : header ResultCode.ok.code 1 = 0x0100 := by decide
    refine runs_of_effect ?_
    rw [effect, command_taken takeClearNoticeLost hport (n := 0) rfl, ← hcode]
    rfl
  · exact fun w hw => runs_of_effect (by rw [effect, if_pos hw])
  · exact fun w hw => runs_of_effect (by rw [effect, if_neg (by omega)])
  · exact fun offset w => runs_of_effect rfl

/-! ## TRAY RESUME and the tray-ready line -/

theorem argTray_eq_none {w : Word} (h : 2 < w.toNat) : argTray w = none :=
  List.getElem?_eq_none (show 3 ≤ w.toNat by omega)

/-- What the owning block makes of the words is what the command answers and leaves. -/
theorem answers_of_effect {c : Instr} {s u : State} {ws : List Word} {n : Nat} {code : ResultCode} {values : List Word}
    (take : List Word → State → State × Answer) (hc : effect c s = s.command n take) (h : PortHolds s ws)
    (hn : ws.length = n) (ht : take ws s = (u, (code, values))) : Answers c s u code values :=
  answers_of_take take (by rw [exec_eq_finish, hc]) h hn ht

/-- Settles O12: the tray of the word decides, then its condition. -/
theorem trayResumeAndTrayReady : Obligations.TrayResumeAndTrayReady := by
  refine ⟨fun s w hport hw => ?_, fun s tray hport => ⟨fun hheld => ?_, fun hok => ?_⟩, fun s tray => runs_of_effect rfl⟩
  · exact answers_of_effect takeTrayResume rfl hport rfl (by simp only [takeTrayResume, argTray_eq_none hw]; rfl)
  · exact answers_of_effect takeTrayResume rfl hport rfl (by simp only [takeTrayResume, argTray_code, resumeTray, if_neg hheld])
  · exact answers_of_effect takeTrayResume rfl hport rfl (by simp only [takeTrayResume, argTray_code, resumeTray, if_pos hok])

end Sys2Proof.Machine
end

section
/-! The operands outside their range, and the answers of the queries (R18, R40, R41, R65, R143, R173, R181). -/

namespace Sys2Proof.Machine

set_option Elab.async false

/-! ## Operands -/

theorem word_cases_of_le_one {w : Word} (h : w.toNat ≤ 1) : w = 0 ∨ w = 1 := by
  rcases Nat.le_one_iff_eq_zero_or_eq_one.mp h with h | h
  · exact .inl (BitVec.eq_of_toNat_eq h)
  · exact .inr (BitVec.eq_of_toNat_eq h)

theorem ne_of_one_lt {w : Word} (h : 1 < w.toNat) : w ≠ 0 ∧ w ≠ 1 := by
  constructor <;> rintro rfl <;> contradiction

theorem argBool_eq_none {w : Word} (h : 1 < w.toNat) : argBool w = none := by
  obtain ⟨h0, h1⟩ := ne_of_one_lt h
  simp only [argBool, if_neg h0, if_neg h1]

theorem argPlex_eq_none {w : Word} (h : 1 < w.toNat) : argPlex w = none := by
  obtain ⟨h0, h1⟩ := ne_of_one_lt h
  simp only [argPlex, if_neg h0, if_neg h1]

theorem argQueue_eq_none {w : Word} (h : 1 < w.toNat) : argQueue w = none := by
  obtain ⟨h0, h1⟩ := ne_of_one_lt h
  simp only [argQueue, if_neg h0, if_neg h1]

theorem argPolarity_eq_none {w : Word} (h : 1 < w.toNat) : argPolarity w = none := by
  obtain ⟨h0, h1⟩ := ne_of_one_lt h
  simp only [argPolarity, if_neg h0, if_neg h1]

theorem argSlot_eq_none {w : Word} (h : 15 < w.toNat) : argSlot w = none := dif_neg (by omega)

theorem argSlot_val {w : Word} {slot : Slot} (h : slot.val = w.toNat) : argSlot w = some slot := by
  have hlt : w.toNat < 16 := by omega
  rw [argSlot, dif_pos hlt]
  exact congrArg some (Fin.ext h.symm)

theorem argIn_eq_none {w : Word} {lo hi : Nat} (h : w.toNat < lo ∨ hi < w.toNat) : argIn w lo hi = none :=
  if_neg (by omega)

theorem argIn_eq_some {w : Word} {lo hi : Nat} (hlo : lo ≤ w.toNat) (hhi : w.toNat ≤ hi) : argIn w lo hi = some w.toNat :=
  if_pos ⟨hlo, hhi⟩

/-- The lowest index that satisfies a predicate. -/
theorem find?_finRange_eq_some {n : Nat} {p : Fin n → Bool} {i : Fin n} :
    (List.finRange n).find? p = some i ↔ p i = true ∧ ∀ j < i, p j = false := by
  rw [List.find?_eq_some_iff_getElem]
  constructor
  case mp =>
    rintro ⟨hp, k, hk, hki, hbefore⟩
    have hval : i.val = k := by simp [← hki]
    refine ⟨hp, fun j hj => ?_⟩
    have hjk := hbefore j.val (by omega)
    simpa using hjk
  case mpr =>
    rintro ⟨hp, hbefore⟩
    refine ⟨hp, i.val, by simp, by simp, fun j hj => ?_⟩
    have hjn : j < n := by omega
    simpa using hbefore ⟨j, hjn⟩ hj

theorem find?_finRange_eq_none {n : Nat} {p : Fin n → Bool} : (List.finRange n).find? p = none ↔ ∀ j, p j = false := by
  simp [List.find?_eq_none]

/-! ## Statements by slot and by id -/

theorem slotOfIdent_eq_none {s : State} {ident : Ident} :
    s.slotOfIdent ident = none ↔ ∀ slot r, s.statement slot = some r → r.ident ≠ ident := by
  rw [State.slotOfIdent, slots, find?_finRange_eq_none]
  simp [Option.any_eq_false]

theorem slotOfIdent_eq_some {s : State} {ident : Ident} {slot : Slot} {r : Statement} (hr : s.statement slot = some r)
    (hident : r.ident = ident) (hlowest : ∀ j q, j < slot → s.statement j = some q → q.ident ≠ ident) :
    s.slotOfIdent ident = some slot := by
  rw [State.slotOfIdent, slots, find?_finRange_eq_some]
  refine ⟨by simp [hr, hident], fun j hj => ?_⟩
  rw [Option.any_eq_false]
  exact fun q hq => decide_eq_false (hlowest j q hj hq)

/-- The answer of QUERY STATEMENT for a selector and value words out of their range (R18). -/
theorem takeQueryStatement_outOfRange {sel lo hi : Word} (s : State)
    (h : 1 < sel.toNat ∨ (sel = 0 ∧ (15 < lo.toNat ∨ hi ≠ 0))) :
    takeQueryStatement [sel, lo, hi] s = s.refuse .badArgument := by
  rcases h with hsel | ⟨rfl, hslot | hhi⟩
  · obtain ⟨h0, h1⟩ := ne_of_one_lt hsel
    simp only [takeQueryStatement, if_neg h0, if_neg h1]
  · simp only [takeQueryStatement, if_true, argSlot_eq_none hslot]
  · cases hslot : argSlot lo <;> simp only [takeQueryStatement, if_true, hslot, if_neg hhi]

theorem takeQueryStatement_ident (s : State) (id0 id1 : Word) : takeQueryStatement [1, id0, id1] s =
    match s.slotOfIdent (ofDword id0 id1) with
    | some slot => answerStatement s slot
    | none => s.refuse .noEntry := rfl

/-! ## Sheets by tag and by state -/

/-- A filter word, or a mask, out of its range (R41). -/
theorem takeFindSheets_outOfRange {mask present value : Word} (s : State)
    (h : mask = 0 ∨ 0x7F < mask.toNat ∨ 1 < present.toNat ∨ (present = 1 ∧ 15 < value.toNat)) :
    takeFindSheets [mask, present, value] s = s.refuse .badArgument := by
  cases hfilter : argFilter present value with
  | none => simp only [takeFindSheets, hfilter]
  | some filter =>
    have hmask : mask = 0 ∨ 0x7F < mask.toNat := by
      rcases h with h | h | h | ⟨rfl, h⟩
      · exact .inl h
      · exact .inr h
      · simp [argFilter, argBool_eq_none h] at hfilter
      · simp [argFilter, argBool, argSlot_eq_none h] at hfilter
    simp only [takeFindSheets, hfilter, if_pos hmask]

theorem takeFindSheets_found {mask present value : Word} (s : State) {filter : Option Slot}
    (hfilter : argFilter present value = some filter) (hlo : 1 ≤ mask.toNat) (hhi : mask.toNat ≤ 0x7F) :
    takeFindSheets [mask, present, value] s = (s, (.ok,
      word (tags.filter fun t => sheetMatches mask filter (s.sheet t)).length ::
        optWords 1 ((tags.find? fun t => sheetMatches mask filter (s.sheet t)).map fun t => [tagCode t]))) := by
  have hmask : ¬(mask = 0 ∨ 0x7F < mask.toNat) := by
    rintro (rfl | h)
    · exact absurd hlo (by decide)
    · omega
  simp only [takeFindSheets, hfilter, if_neg hmask, List.head?_filter]

theorem argFilter_slot (slot : Slot) : argFilter 1 (slotCode slot) = some (some slot) := by
  simp [argFilter, argBool, argSlot_code]

/-! ## The profile groups -/

/-- A group answers exactly where its code is 0 to 6 (R181). -/
theorem groupWords_eq_none {s : State} {g : Word} : groupWords s g = none ↔ 6 < g.toNat := by
  have hlit : ∀ k : Nat, k < 65536 → (g = BitVec.ofNat 16 k ↔ g.toNat = k) := fun k hk => by
    rw [← BitVec.toNat_inj, BitVec.toNat_ofNat, Nat.mod_eq_of_lt hk]
  have h0 := hlit 0 (by decide)
  have h1 := hlit 1 (by decide)
  have h2 := hlit 2 (by decide)
  have h3 := hlit 3 (by decide)
  have h4 := hlit 4 (by decide)
  have h5 := hlit 5 (by decide)
  have h6 := hlit 6 (by decide)
  unfold groupWords
  (repeat' split) <;> simp_all
  omega

theorem readEmpty_same (s : State) (b : Bin) : readEmpty s b s.lines.empties[b.idx] = s := by
  simp [readEmpty]

/-- Settles O9: each query's words are its owner's function of the state. -/
theorem queriesAnswerAndChangeNothing : Obligations.QueriesAnswerAndChangeNothing := by
  refine ⟨?_, ?_, ?_, ?_, ?_, ?_, ?_, ?_, ?_, ?_, ?_, ?_, ?_, ?_, ?_, ?_, ?_, ?_⟩
  · intro s slot hport
    exact answers_of_effect takeQueryStatement rfl hport rfl (by
      simp only [takeQueryStatement, if_true, argSlot_code]
      rfl)
  · intro s sel lo hi hport h
    exact answers_of_effect takeQueryStatement rfl hport rfl (takeQueryStatement_outOfRange s h)
  · intro s id0 id1 slot r hport hr hident hlowest
    have hslot : s.slotOfIdent (ofDword id0 id1) = some slot := slotOfIdent_eq_some hr hident hlowest
    exact answers_of_effect takeQueryStatement rfl hport rfl (by
      rw [takeQueryStatement_ident, hslot, ← hr]
      rfl)
  · intro s id0 id1 hport hnone
    have hslot : s.slotOfIdent (ofDword id0 id1) = none := slotOfIdent_eq_none.mpr hnone
    exact answers_of_effect takeQueryStatement rfl hport rfl (by
      rw [takeQueryStatement_ident, hslot]
      rfl)
  · intro s tag hport
    exact answers_of_effect takeQuerySheet rfl hport rfl (by simp only [takeQuerySheet, argTag_code])
  · intro s w hport hw
    exact answers_of_effect takeQuerySheet rfl hport rfl (by
      simp only [takeQuerySheet, argTag_eq_none hw]
      rfl)
  · intro s mask hport hlo hhi
    exact answers_of_effect takeFindSheets rfl hport rfl (takeFindSheets_found s rfl hlo hhi)
  · intro s mask slot hport hlo hhi
    exact answers_of_effect takeFindSheets rfl hport rfl (takeFindSheets_found s (argFilter_slot slot) hlo hhi)
  · intro s mask present value hport h
    exact answers_of_effect takeFindSheets rfl hport rfl (takeFindSheets_outOfRange s h)
  · intro s hport
    exact answers_of_effect takeQueryQueue rfl hport rfl rfl
  · intro s hport
    exact answers_of_effect takeQueryQueue rfl hport rfl rfl
  · intro s w hport hw
    exact answers_of_effect takeQueryQueue rfl hport rfl (by
      simp only [takeQueryQueue, argQueue_eq_none hw]
      rfl)
  · intro s b hport
    exact answers_of_effect (takeQueryBin _) rfl hport rfl (by
      simp only [takeQueryBin, argBin_code, readEmpty_same])
  · intro s w emptyActive hport hw
    exact answers_of_effect (takeQueryBin emptyActive) rfl hport rfl (by
      simp only [takeQueryBin, argBin_eq_none hw]
      rfl)
  · intro s hport
    exact answers_of_effect takeQueryTransport rfl hport rfl rfl
  · intro s g ws hport hwords
    exact answers_of_effect (takeQueryProfile s.lines.straps) rfl hport rfl (by
      simp only [takeQueryProfile, hwords])
  · exact fun s g => groupWords_eq_none
  · intro s g straps hport hg
    have hnone : groupWords { s with lines := { s.lines with straps := straps } } g = none := groupWords_eq_none.mpr hg
    exact answers_of_effect (takeQueryProfile straps) rfl hport rfl (by
      simp only [takeQueryProfile, hnone]
      rfl)

end Sys2Proof.Machine
end

section
/-! The statement commands OPEN STATEMENT and PAGE (R3 to R6), the break (R12 to R14) and the condemnation (R34). -/

namespace Sys2Proof.Machine

set_option Elab.async false

/-! ## OPEN STATEMENT -/

theorem argBool_eq_some {w : Word} (h : w.toNat ≤ 1) : argBool w = some (decide (w = 1)) := by
  rcases word_cases_of_le_one h with rfl | rfl <;> decide

theorem argPlex_eq_some {w : Word} (h : w.toNat ≤ 1) : argPlex w = some (if w = 0 then .simplex else .duplex) := by
  rcases word_cases_of_le_one h with rfl | rfl <;> decide

/-- Check 1 of OPEN STATEMENT: the arguments (R3). -/
theorem takeOpen_outOfRange {p d o : Word} (id0 id1 acc0 acc1 : Word) (s : State)
    (h : 1 < p.toNat ∨ 4095 < d.toNat ∨ 1 < o.toNat) :
    takeOpen [id0, id1, acc0, acc1, p, d, o] s = s.refuse .badArgument := by
  have hnone : argPlex p = none ∨ argIn d 0 4095 = none ∨ argBool o = none :=
    h.imp argPlex_eq_none (Or.imp (fun hd => argIn_eq_none (.inr hd)) argBool_eq_none)
  unfold takeOpen
  dsimp only
  split
  case h_1 => simp_all
  case h_2 => rfl

/-- The checks of OPEN STATEMENT behind the first, in order (R3). -/
theorem takeOpen_inRange {p d o : Word} (id0 id1 acc0 acc1 : Word) (s : State) (hp : p.toNat ≤ 1) (hd : d.toNat ≤ 4095)
    (ho : o.toNat ≤ 1) : takeOpen [id0, id1, acc0, acc1, p, d, o] s =
      let plex : Plex := if p = 0 then .simplex else .duplex
      if plex = .duplex ∧ !s.profile.enabled.duplex then s.refuse .badArgument
      else if (s.slotOfIdent (id1 ++ id0)).isSome then s.refuse .duplicate
      else
        match s.freeSlot with
        | none => s.refuse .limit
        | some slot =>
          (openSlot s slot (newStatement s (id1 ++ id0) (acc1 ++ acc0) plex d.toNat (decide (o = 1))),
            (.ok, [slotCode slot])) := by
  simp only [takeOpen, argPlex_eq_some hp, argIn_eq_some (Nat.zero_le _) hd, argBool_eq_some ho]
  rfl

theorem freeSlot_eq_none {s : State} : s.freeSlot = none ↔ ∀ slot, s.statement slot ≠ none := by
  rw [State.freeSlot, slots, find?_finRange_eq_none]
  simp [Option.isSome_iff_ne_none]

theorem freeSlot_eq_some {s : State} {slot : Slot} :
    s.freeSlot = some slot ↔ s.statement slot = none ∧ ∀ j < slot, s.statement j ≠ none := by
  rw [State.freeSlot, slots, find?_finRange_eq_some]
  simp [Option.isSome_iff_ne_none]

/-- The slot taken by a new statement, as the statement of OPEN STATEMENT writes it (R3). -/
theorem openSlot_eq (s : State) (slot : Slot) (r : Statement) : openSlot s slot r =
    { s with
      stu :=
        { table := s.stu.table.set slot (some r)
          openings := s.stu.openings.set slot (s.stu.openings[slot] + 1) }
      requests := { s.requests with
        breaks := s.requests.breaks.filter fun q => decide ¬(q.slot = slot ∧ q.opening = none) } } := by
  have hdrop : (fun q : BreakRequest => !(q.slot = slot && q.opening.isNone)) =
      fun q => decide ¬(q.slot = slot ∧ q.opening = none) := by
    funext q
    cases q.opening <;> simp
  rw [openSlot, hdrop]
  rfl

/-- Settles O5: the checks stand in their order in `takeOpen_inRange`. -/
theorem openStatementFillsTheLowestFreeSlot : Obligations.OpenStatementFillsTheLowestFreeSlot := by
  intro s id0 id1 acc0 acc1 p d o hport
  refine ⟨fun h => ?_, fun hp hd ho => ⟨fun hduplex hoff => ?_, fun hplex => ⟨fun hheld => ?_, fun hfree => ⟨fun hfull => ?_,
    fun slot hslot hlowest => ?_⟩⟩⟩⟩
  case refine_1 => exact answers_of_effect takeOpen rfl hport rfl (takeOpen_outOfRange id0 id1 acc0 acc1 s h)
  all_goals
    refine answers_of_effect takeOpen rfl hport rfl ?_
    rw [takeOpen_inRange id0 id1 acc0 acc1 s hp hd ho]
    dsimp only
  case refine_2 =>
    subst hduplex
    rw [if_pos (by simp [hoff])]
    rfl
  all_goals rw [if_neg (by rcases hplex with rfl | hon <;> simp_all)]
  case refine_3 =>
    obtain ⟨slot, r, hr, hident⟩ := hheld
    have hsome : (s.slotOfIdent (id1 ++ id0)).isSome = true := by
      rw [Option.isSome_iff_ne_none, Ne, slotOfIdent_eq_none]
      exact fun hnone => hnone slot r hr hident
    rw [if_pos hsome]
    rfl
  all_goals rw [if_neg (by simp [slotOfIdent_eq_none.mpr hfree])]
  case refine_4 =>
    rw [freeSlot_eq_none.mpr hfull]
    rfl
  case refine_5 =>
    rw [freeSlot_eq_some.mpr ⟨hslot, hlowest⟩]
    dsimp only
    rw [openSlot_eq]
    simp [newStatement, classAtOpen, BitVec.toNat_eq]

/-! ## PAGE -/

theorem named_eq_none {s : State} {slot : Slot} {ident : Ident} (h : ∀ r, s.statement slot = some r → r.ident ≠ ident) :
    s.named slot ident = none := by
  rw [State.named, Option.filter_eq_none_iff]
  exact fun r hr => by simpa using h r hr

theorem named_eq_some {s : State} {slot : Slot} {ident : Ident} {r : Statement} (hr : s.statement slot = some r)
    (hident : r.ident = ident) : s.named slot ident = some r := by
  simp [State.named, hr, hident]

/-- Check 1 of PAGE: the arguments (R5). -/
theorem takePage_outOfRange {sl pg l tr : Word} (id0 id1 : Word) (s : State)
    (h : 15 < sl.toNat ∨ pg = 0 ∨ 4095 < pg.toNat ∨ 1 < l.toNat ∨ 2 < tr.toNat) :
    takePage [sl, id0, id1, pg, l, tr] s = s.refuse .badArgument := by
  have hnone : argSlot sl = none ∨ argIn pg 1 4095 = none ∨ argBool l = none ∨ argTray tr = none := by
    rcases h with h | rfl | h | h | h
    · exact .inl (argSlot_eq_none h)
    · exact .inr (.inl rfl)
    · exact .inr (.inl (argIn_eq_none (.inr h)))
    · exact .inr (.inr (.inl (argBool_eq_none h)))
    · exact .inr (.inr (.inr (argTray_eq_none h)))
  unfold takePage
  dsimp only
  split
  case h_1 => simp_all
  case h_2 => rfl

/-- The checks of PAGE behind the first, in order (R5). -/
theorem takePage_inRange (s : State) (slot : Slot) (id0 id1 : Word) {page : Nat} (last : Bool) (tray : Tray)
    (hlo : 1 ≤ page) (hhi : page ≤ 4095) :
    takePage [slotCode slot, id0, id1, word page, yesNo last, trayCode tray] s =
      match s.named slot (id1 ++ id0) with
      | none => s.refuse .noEntry
      | some r =>
        if r.state.ended then s.refuse .stale
        else if r.state = .closed then s.refuse .state
        else if page ≠ r.nextPage then s.refuse .order
        else if lastMismatch r page last then s.refuse .badArgument
        else if !s.queueHasRoom (queueOf r.generation) then s.refuse .queueFull
        else (acceptPage s slot r page last tray, (.ok, [slotCode slot, word (page + 1)])) := by
  simp only [takePage, argSlot_code, argIn_word page 1 4095 hlo hhi (by decide), argBool_code, argTray_code]
  rfl

theorem lastMismatch_iff (r : Statement) (page : Nat) (last : Bool) :
    lastMismatch r page last = true ↔ last = true ∧ ∃ d, r.declared = some d ∧ d ≠ page := by
  simp [lastMismatch, Option.any_eq_true]

theorem closesStatement_iff (r : Statement) (page : Nat) (last : Bool) :
    closesStatement r page last = true ↔ last = true ∨ r.declared = some (r.queued + 1) ∨ page = 4095 := by
  simp [closesStatement, or_assoc]

/-- The queue of a page's generation gains its entry, the other one none. -/
theorem queue_acceptPage (s : State) (slot : Slot) (r : Statement) (page : Nat) (last : Bool) (tray : Tray) (q : Queue) :
    (acceptPage s slot r page last tray).queue q = if queueOf r.generation = q then
      s.queue q ++ [{ slot, generation := r.generation, page, last := closesStatement r page last, tray, attempts := 0 }]
      else s.queue q := by
  unfold acceptPage
  generalize queueOf r.generation = p
  cases p <;> cases q <;> rfl

theorem statement_acceptPage (s : State) (slot : Slot) (r : Statement) (page : Nat) (last : Bool) (tray : Tray) (j : Slot) :
    (acceptPage s slot r page last tray).statement j = if slot = j then
      some { r with
        queued := r.queued + 1
        nextPage := page + 1
        lastSeen := r.lastSeen || closesStatement r page last
        state := if closesStatement r page last then .closed else r.state } else s.statement j := by
  unfold acceptPage
  dsimp only
  rw [State.statement_setStatement]
  congr 1
  exact statement_of_eq (State.setQueue_stu s _ _) j

@[simp] theorem acceptPage_frame (s : State) (slot : Slot) (r : Statement) (page : Nat) (last : Bool) (tray : Tray) :
    (acceptPage s slot r page last tray).sheets = s.sheets ∧ (acceptPage s slot r page last tray).bnm = s.bnm ∧
    (acceptPage s slot r page last tray).adm.pick = s.adm.pick ∧ (acceptPage s slot r page last tray).cpt = s.cpt := by
  have hpick : ∀ q l, (s.setQueue q l).adm.pick = s.adm.pick := fun q l => by cases q <;> rfl
  simp [acceptPage, hpick]

/-- Settles O6: the checks stand in their order in `takePage_inRange`. -/
theorem pageQueuesThePageOrSaysWhyNot : Obligations.PageQueuesThePageOrSaysWhyNot := by
  refine ⟨fun s sl id0 id1 pg l tr hport h => ?_, fun s slot id0 id1 page last tray hport hlo hhi => ⟨fun hnone => ?_,
    fun r hr hident => ?_⟩⟩
  case refine_1 => exact answers_of_effect takePage rfl hport rfl (takePage_outOfRange id0 id1 s h)
  case refine_2 =>
    refine answers_of_effect takePage rfl hport rfl ?_
    rw [takePage_inRange s slot id0 id1 last tray hlo hhi, named_eq_none hnone]
    rfl
  case refine_3 =>
    have htake := takePage_inRange s slot id0 id1 last tray hlo hhi
    rw [named_eq_some hr hident] at htake
    dsimp only at htake
    refine ⟨fun hended => ?_, fun hclosed => ?_, fun hopen hpage => ?_, fun hopen hpage hlast hdeclared => ?_,
      fun hopen hpage hlast => ⟨fun hfull => ?_, fun hroom => ?_⟩⟩
    · refine answers_of_effect takePage rfl hport rfl ?_
      rw [htake, if_pos (by rcases hended with h | h <;> rw [h] <;> rfl)]
      rfl
    · refine answers_of_effect takePage rfl hport rfl ?_
      rw [htake, if_neg (by rw [hclosed]; decide), if_pos hclosed]
      rfl
    all_goals rw [if_neg (by rw [hopen]; decide), if_neg (by rw [hopen]; decide)] at htake
    · refine answers_of_effect takePage rfl hport rfl ?_
      rw [htake, if_pos hpage]
      rfl
    all_goals rw [if_neg (by simpa using hpage)] at htake
    · refine answers_of_effect takePage rfl hport rfl ?_
      rw [htake, if_pos ((lastMismatch_iff r page last).mpr ⟨hlast, hdeclared⟩)]
      rfl
    all_goals
      have hmatch : ¬lastMismatch r page last = true := by
        rw [lastMismatch_iff]
        rintro ⟨hl, d, hd, hne⟩
        rcases hlast with h | h | h <;> simp_all
      rw [if_neg hmatch] at htake
    · refine answers_of_effect takePage rfl hport rfl ?_
      rw [htake, if_pos (by simp [queueOf, hfull])]
      rfl
    · rw [if_neg (by simp [queueOf, hroom])] at htake
      refine ⟨(acceptPage s slot r page last tray).answer (.ok, [slotCode slot, word (page + 1)]),
        closesStatement r page last, ?_, closesStatement_iff r page last, ?_, ?_, ?_, ?_, ?_, ?_, ?_, ?_, ?_⟩
      · exact answers_of_effect takePage rfl hport rfl htake
      · have hstatement := statement_acceptPage s slot r page last tray slot
        rw [if_pos rfl, hopen] at hstatement
        exact hstatement
      · intro other hother
        have hstatement := statement_acceptPage s slot r page last tray other
        rwa [if_neg hother.symm] at hstatement
      · have hqueue := queue_acceptPage s slot r page last tray (queueOf r.generation)
        rwa [if_pos rfl] at hqueue
      · have hqueue := queue_acceptPage s slot r page last tray (if r.generation = 0 then .restart else .new)
        have hother : queueOf r.generation ≠ if r.generation = 0 then .restart else .new := by
          unfold queueOf
          split <;> decide
        rw [if_neg hother] at hqueue
        exact hqueue
      · have hcode : header ResultCode.ok.code 3 = 0x0300 := by decide
        exact congrArg (· :: _) hcode
      · simp
      · simp
      · simp [acceptPage]
      · simp

/-! ## The break -/

/-- The opening request of a break, of a record that has delivered pages (R13). -/
def openingRequest (r : Statement) : List BinRequest :=
  match r.bin, r.firstPos, r.lastPos with
  | some b, some first, some last => if 0 < r.delivered then [.opening b r.ident first last] else []
  | _, _, _ => []

/-- The closing request of an ended record (R10). -/
def closingRequest (slot : Slot) (r : Statement) : List BinRequest :=
  match r.bin with
  | none => []
  | some b => if r.inFlight = 0 then [.closing b slot r.generation r.ident] else []

/-- The notice of a break (R13, R14). -/
def brokenNotice (slot : Slot) (r : Statement) (cause : BreakCause) : Notice :=
  if r.generation < 3 then .stmtBroken slot r.ident cause r.delivered else .stmtAbandoned slot r.ident cause r.delivered

/-- The requests of a break (R13). -/
def breakAsks (w : Requests) (slot : Slot) (r : Statement) : Requests :=
  { w with
    condemns := w.condemns ++ [{ tag := none, slot, generation := r.generation, cause := .broken }]
    reroutes := w.reroutes ++ [{ tag := none, slot, generation := r.generation }]
    flushes := w.flushes ++ [{ slot, generation := r.generation }]
    bins := w.bins ++ openingRequest r }

theorem breakRequests_eq (s : State) (slot : Slot) (r : Statement) (cause : BreakCause) :
    breakRequests s slot r cause =
      ({ s with requests := breakAsks s.requests slot r }).notify (brokenNotice slot r cause) := by
  unfold breakRequests brokenNotice
  dsimp only
  congr 1
  unfold breakAsks openingRequest
  split
  · split <;> simp_all [State.askBin, State.claimCondemn, State.askReroute, State.askFlush]
  · simp [State.claimCondemn, State.askReroute, State.askFlush]

/-- The requests of a break, with its closing request (R10, R13). -/
def endedRequests (w : Requests) (slot : Slot) (r : Statement) : Requests :=
  { breakAsks w slot r with bins := w.bins ++ openingRequest r ++ closingRequest slot r }

theorem closeIfClear_eq {s : State} {slot : Slot} {r : Statement} (hr : s.statement slot = some r)
    (hended : r.state.ended = true) : closeIfClear s slot =
      { s with requests := { s.requests with bins := s.requests.bins ++ closingRequest slot r } } := by
  unfold closeIfClear closingRequest
  rw [hr]
  dsimp only
  cases r.bin with
  | none => simp
  | some b =>
    dsimp only
    by_cases hclear : r.inFlight = 0
    · rw [if_pos ⟨hended, hclear⟩, if_pos hclear]
      rfl
    · rw [if_neg (fun h => hclear h.2), if_neg hclear]
      simp

/-- A break taken by an OPEN or CLOSED record of the pair (R12 to R14). -/
theorem breakNow_taken {s : State} {slot : Slot} {r : Statement} (hr : s.statement slot = some r)
    (hopen : r.state.ended = false) (cause : BreakCause) : breakNow s slot r.generation cause =
      ({ s.setStatement slot (some (r.broken r.generation cause)) with
        requests := endedRequests s.requests slot r }).notify (brokenNotice slot r cause) := by
  have hpair : s.ofPair slot r.generation = some r := by simp [State.ofPair, hr]
  have hbroken : r.broken r.generation cause =
      { r with state := if r.generation < 3 then .broken else .abandoned, cause := some cause } :=
    if_pos ⟨rfl, hopen⟩
  unfold breakNow
  rw [hpair]
  dsimp only
  rw [if_neg (by simp [hopen]), breakRequests_eq, hbroken]
  generalize hw : ({ r with
    state := if r.generation < 3 then StatementState.broken else .abandoned, cause := some cause } : Statement) = w
  have hended : w.state.ended = true := by
    rw [← hw]
    dsimp only
    split <;> rfl
  have hclosing : closingRequest slot w = closingRequest slot r := by rw [← hw]; rfl
  generalize hu : State.notify _ _ = u
  have hstatement : u.statement slot = some w := by
    have hstu : u.stu = (s.setStatement slot (some w)).stu := by rw [← hu, State.notify_stu]
    rw [statement_of_eq hstu, State.statement_setStatement, if_pos rfl]
  rw [closeIfClear_eq hstatement hended, hclosing, ← hu]
  unfold State.notify endedRequests
  dsimp only
  split <;> rfl

/-- A break of an ended record, or of no record of the pair, changes nothing (R2, R12). -/
theorem breakNow_dropped {s : State} {slot : Slot} {generation : Nat} (cause : BreakCause)
    (h : ∀ r, s.statement slot = some r → r.generation = generation → r.state.ended = true) :
    breakNow s slot generation cause = s := by
  unfold breakNow
  split
  · rfl
  case h_2 r hr =>
    obtain ⟨hs, hg⟩ := ofPair_statement hr
    rw [if_pos (h r hs hg)]

theorem takeBreakAt_some {s : State} {place : Nat} {q : BreakRequest} (h : s.requests.breaks[place]? = some q) :
    takeBreakAt s place =
      takeBreak { s with requests := { s.requests with breaks := s.requests.breaks.eraseIdx place } } q := by
  simp only [takeBreakAt, h]

theorem ended_iff (st : StatementState) : st.ended = true ↔ st = .broken ∨ st = .abandoned := by
  cases st <;> simp [StatementState.ended]

/-- Settles O10: the request taken is `breakNow`, dropped or taken by the record. -/
theorem breakEndsTheGenerationOnce : Obligations.BreakEndsTheGenerationOnce := by
  intro s place q hq
  have htake := takeBreakAt_some hq
  refine ⟨fun hdropped => runs_of_effect ?_, fun r hr hgeneration hstate hopening => ?_⟩
  case refine_1 =>
    refine htake.trans ?_
    unfold takeBreak
    split
    case isFalse => rfl
    case isTrue hsame =>
      refine breakNow_dropped q.cause fun r hr hg => ?_
      change s.statement q.slot = some r at hr
      rw [ended_iff]
      rcases hdropped with hnone | ⟨p, hp, hdone⟩ | ⟨n, hn, hne⟩
      · simp [hnone] at hr
      · rw [hr] at hp
        cases hp
        exact hdone.resolve_left (absurd hg)
      · rw [hn] at hsame
        have hopening : n = s.openingOf q.slot := beq_iff_eq.mp hsame
        exact absurd hopening hne
  case refine_2 =>
    have hopen : r.state.ended = false := by rcases hstate with h | h <;> rw [h] <;> rfl
    have hsame : (q.opening.all fun n => n == s.openingOf q.slot) = true := by
      rcases hopening with h | h <;> simp [h]
    have heffect : effect (.breakStatement place) s = breakNow
        { s with requests := { s.requests with breaks := s.requests.breaks.eraseIdx place } } q.slot r.generation q.cause := by
      refine htake.trans ?_
      rw [takeBreak, hgeneration]
      exact if_pos hsame
    rw [breakNow_taken (by exact hr) hopen] at heffect
    have hbroken : r.broken r.generation q.cause =
        { r with state := if r.generation < 3 then .broken else .abandoned, cause := some q.cause } :=
      if_pos ⟨rfl, hopen⟩
    refine ⟨_, runs_of_effect heffect, ?_, ?_, ?_, ?_, ?_, ?_, ?_, ?_, ?_, ?_, ?_⟩
    · rw [← hbroken, statement_of_eq (State.notify_stu _ _)]
      refine (State.statement_setStatement s q.slot q.slot _).trans (if_pos rfl)
    · intro other hother
      rw [statement_of_eq (State.notify_stu _ _)]
      exact (State.statement_setStatement s q.slot other _).trans (if_neg hother.symm)
    · simp [endedRequests, breakAsks]
    · simp [endedRequests, breakAsks]
    · simp [endedRequests, breakAsks]
    · intro b first last hb hfirst hlast hdelivered hflight
      simp [endedRequests, breakAsks, openingRequest, closingRequest, hb, hfirst, hlast, hdelivered, Nat.pos_iff_ne_zero.mp hflight]
    · intro b first last hb hfirst hlast hdelivered hflight
      simp [endedRequests, breakAsks, openingRequest, closingRequest, hb, hfirst, hlast, hdelivered, hflight]
    · intro b hb hdelivered hflight
      cases hfirst : r.firstPos <;> cases hlast : r.lastPos <;>
        simp [endedRequests, breakAsks, openingRequest, closingRequest, hb, hfirst, hlast, hdelivered, hflight]
    · intro hb
      simp [endedRequests, breakAsks, openingRequest, closingRequest, hb]
    · intro hroom
      rw [State.notify_room _ _ (by exact hroom)]
      rfl
    · simp

/-! ## The condemnation -/

theorem takeCondemnAt_some {s : State} {place : Nat} {q : CondemnClaim} (h : s.requests.condemns[place]? = some q) :
    takeCondemnAt s place =
      takeCondemn { s with requests := { s.requests with condemns := s.requests.condemns.eraseIdx place } } q := by
  simp only [takeCondemnAt, h]

/-- A condemnation keeps the first cause (R34). -/
theorem condemn_eq (r : Sheet) (cause : CondemnCause) :
    r.condemn cause = if r.condemned = none then { r with condemned := some cause } else r := by
  cases h : r.condemned with
  | none => simp [Sheet.condemn, h]
  | some c =>
    rw [if_neg (by simp)]
    cases r
    subst h
    rfl

/-- Settles O11: what the claim makes of each record, by `sheet_takeCondemn`. -/
theorem condemnKeepsTheFirstCause : Obligations.CondemnKeepsTheFirstCause := by
  intro s place q hq
  refine ⟨_, runs_of_effect (takeCondemnAt_some hq), fun tag => ?_, ?_⟩
  · rw [sheet_takeCondemn]
    congr 1
    funext r
    rw [condemn_eq]
    (repeat' split) <;> simp_all
  · simp

end Sys2Proof.Machine
end

section
/-! The settling of a statement's requests ahead of RESTART and DISCARD, and the two commands (R16, R17). -/

namespace Sys2Proof.Machine

set_option Elab.async false

/-! ## What a reroute leaves -/

/-- The waiting requests but for the path faults. -/
def Requests.unfaulted (w : Requests) : Requests := { w with faults := [] }

@[simp] theorem handFault_unfaulted (s : State) (cause : JamCause) (x : Sensor) (t : Option Tag) :
    (s.handFault cause x t).requests.unfaulted = s.requests.unfaulted := rfl

@[simp] theorem expect_unfaulted (s : State) (x : Sensor) (e : Expectation) :
    (expect s x e).requests.unfaulted = s.requests.unfaulted := by
  unfold expect
  split <;> simp

@[simp] theorem addRequest_unfaulted (s : State) (g : Gate) (q : GateRequest) :
    (addRequest s g q).requests.unfaulted = s.requests.unfaulted := by
  unfold addRequest
  dsimp only
  split <;> simp

@[simp] theorem moveToPurge_unfaulted (s : State) (t : Tag) (c : Count) :
    (moveToPurge s t c).requests.unfaulted = s.requests.unfaulted := by
  unfold moveToPurge
  repeat' split
  all_goals simp

@[simp] theorem rerouteGates_unfaulted (s : State) (g : Gate) (t : Tag) (o : Owner) (c : Count) :
    (rerouteGates s g t o c).requests.unfaulted = s.requests.unfaulted := by
  unfold rerouteGates
  split
  · have hfold := fun u : State => foldl_keeps (f := fun v : State => v.requests.unfaulted)
      (g := fun v h => addRequest v h { tag := t, owner := o, kind := .passage, count := requestCount v h c })
      (fun v h => addRequest_unfaulted v h _) (gatesBeyond g) u
    dsimp only at hfold ⊢
    rw [hfold]
    simp
  · rfl

@[simp] theorem rerouteOne_unfaulted (s : State) (t : Tag) :
    (rerouteOne s t).requests.unfaulted = s.requests.unfaulted := by
  unfold rerouteOne
  dsimp only
  repeat' split
  all_goals simp

@[simp] theorem takeReroute_unfaulted (s : State) (q : RerouteRequest) :
    (takeReroute s q).requests.unfaulted = s.requests.unfaulted := by
  unfold takeReroute
  split
  · split <;> simp
  · exact foldl_keeps (f := fun v : State => v.requests.unfaulted) (fun v t => rerouteOne_unfaulted v t) _ s

/-- A reroute of one record writes no other. -/
theorem sheet_rerouteOne (s : State) {t u : Tag} (h : u ≠ t) : (rerouteOne s t).sheet u = s.sheet u := by
  have hset : ∀ r, (s.setSheet t (some r)).sheet u = s.sheet u := fun r => by
    rw [State.sheet_setSheet, if_neg h.symm]
  unfold rerouteOne
  split
  · rfl
  case h_2 r hr =>
    split
    · rfl
    · split
      · rfl
      · rw [← hset { r with target := .p }]
        simp [State.sheet]

theorem sheet_rerouteAll {l : List Tag} {u : Tag} (h : u ∉ l) (s : State) : (l.foldl rerouteOne s).sheet u = s.sheet u := by
  induction l generalizing s with
  | nil => rfl
  | cons t l ih =>
    rw [List.mem_cons, not_or] at h
    rw [List.foldl_cons, ih h.2, sheet_rerouteOne s h.1]

/-- A reroute request of a pair writes no record of another (R120). -/
theorem sheet_takeReroute {s : State} {q : RerouteRequest} {o : Owner} (hq : q.names o = true) {u : Tag} {r : Sheet}
    (hr : s.sheet u = some r) (hother : ¬(r.slot = o.slot ∧ r.generation = o.generation)) :
    (takeReroute s q).sheet u = some r := by
  have hpair : q.slot = o.slot ∧ q.generation = o.generation := by simpa [RerouteRequest.names] using hq
  obtain ⟨hslot, hgeneration⟩ := hpair
  rw [← hr]
  unfold takeReroute
  split
  · split
    case isTrue hclaimed =>
      refine sheet_rerouteOne s ?_
      rintro rfl
      refine hother ?_
      simpa [State.claimed, hr, Sheet.owner, hslot, hgeneration] using hclaimed
    case isFalse => rfl
  · refine sheet_rerouteAll ?_ s
    rw [mem_tagsWhere]
    rintro ⟨p, hp, hsame⟩
    rw [hr] at hp
    cases hp
    exact hother (by simpa [hslot, hgeneration] using hsame)

theorem sheet_takeCondemn_other {s : State} {c : CondemnClaim} {o : Owner} (hc : c.names o = true) {u : Tag} {r : Sheet}
    (hr : s.sheet u = some r) (hother : ¬(r.slot = o.slot ∧ r.generation = o.generation)) :
    (takeCondemn s c).sheet u = some r := by
  have hpair : c.slot = o.slot ∧ c.generation = o.generation := by simpa [CondemnClaim.names] using hc
  obtain ⟨hslot, hgeneration⟩ := hpair
  rw [sheet_takeCondemn, hr, Option.map_some, if_neg]
  rintro ⟨h1, h2, -⟩
  exact hother ⟨h1.trans hslot, h2.trans hgeneration⟩

/-- A fact of the state that every step of a fold over listed requests keeps. -/
theorem foldl_induction {α : Type} {P : State → Prop} {g : State → α → State} {l : List α} {s : State} (hs : P s)
    (h : ∀ u, ∀ a ∈ l, P u → P (g u a)) : P (l.foldl g s) := by
  induction l generalizing s with
  | nil => exact hs
  | cons a l ih => exact ih (h s a List.mem_cons_self hs) fun u b hb => h u b (List.mem_cons_of_mem a hb)

/-! ## The requests of the BNM up to the last closing request -/

/-- What is taken is the front of the list, and what is left closes nothing of the pair. -/
theorem upToClosing_append (o : Owner) (l : List BinRequest) :
    ∃ rest, l = upToClosing o l ++ rest ∧ rest.any (BinRequest.closes o) = false := by
  induction l with
  | nil => exact ⟨[], rfl, rfl⟩
  | cons q l ih =>
    obtain ⟨rest, hl, hrest⟩ := ih
    cases hany : (q :: l).any (BinRequest.closes o) with
    | false => exact ⟨q :: l, by rw [upToClosing_none hany]; rfl, hany⟩
    | true => exact ⟨rest, by rw [upToClosing, if_pos hany, List.cons_append, ← hl], hrest⟩

/-- What is taken ends with a closing request of the pair. -/
theorem upToClosing_concat {o : Owner} {l : List BinRequest} (h : upToClosing o l ≠ []) :
    ∃ front last, upToClosing o l = front ++ [last] ∧ last.closes o = true := by
  induction l with
  | nil => exact absurd rfl h
  | cons q l ih =>
    cases hany : (q :: l).any (BinRequest.closes o) with
    | false => exact absurd (upToClosing_none hany) h
    | true =>
      rw [upToClosing, if_pos hany]
      cases hrest : upToClosing o l with
      | nil =>
        refine ⟨[], q, rfl, ?_⟩
        have hnone : l.any (BinRequest.closes o) = false := by
          obtain ⟨rest, hl, hclosing⟩ := upToClosing_append o l
          rw [hrest, List.nil_append] at hl
          rwa [hl]
        rwa [List.any_cons, hnone, Bool.or_false] at hany
      | cons p k =>
        obtain ⟨front, last, heq, hlast⟩ := ih (by simp [hrest])
        exact ⟨q :: front, last, by rw [← hrest, heq, List.cons_append], hlast⟩

theorem closes_iff {o : Owner} {q : BinRequest} :
    q.closes o = true ↔ ∃ b ident, q = .closing b o.slot o.generation ident := by
  cases q <;> simp [BinRequest.closes]

theorem any_closes_eq_false {o : Owner} {l : List BinRequest} :
    l.any (BinRequest.closes o) = false ↔ ∀ b ident, BinRequest.closing b o.slot o.generation ident ∉ l := by
  constructor
  case mp =>
    intro h b ident hmem
    rw [List.any_eq_false] at h
    exact h _ hmem (closes_iff.mpr ⟨b, ident, rfl⟩)
  case mpr =>
    intro h
    rw [List.any_eq_false]
    intro q hq hcloses
    obtain ⟨b, ident, rfl⟩ := closes_iff.mp hcloses
    exact h b ident hq

/-- Every closing request of the pair is among those taken. -/
theorem mem_upToClosing {o : Owner} {l : List BinRequest} {q : BinRequest} (hq : q ∈ l) (h : q.closes o = true) :
    q ∈ upToClosing o l := by
  obtain ⟨rest, hl, hrest⟩ := upToClosing_append o l
  rw [hl, List.mem_append] at hq
  refine hq.resolve_right fun hmem => ?_
  rw [List.any_eq_false] at hrest
  exact hrest q hmem h

/-! ## What a request of the BNM does to the stacking lists -/

@[simp] theorem stacking_evaluateFence (s : State) (b c : Bin) :
    ((evaluateFence s b).bin c).stacking = (s.bin c).stacking := by
  unfold evaluateFence
  split
  · rw [bin_of_eq (State.notify_bnm _ _), State.bin_setBin]
    split
    case isTrue h => rw [h]
    case isFalse => rfl
  · rfl

/-- No request of the BNM adds to a stacking list (R135). -/
theorem stacking_takeBin (s : State) (q : BinRequest) (c : Bin) :
    ((takeBin s q).bin c).stacking ⊆ (s.bin c).stacking := by
  cases q with
  | opening b ident first last =>
    have hsame : ((takeBin s (.opening b ident first last)).bin c).stacking = (s.bin c).stacking := by
      unfold takeBin openSpoil
      dsimp only
      split
      · rw [State.bin_setBin]
        split
        case isTrue h => rw [h]
        case isFalse => rfl
      · rw [stacking_evaluateFence, State.bin_setBin]
        split
        case isTrue h => rw [h]
        case isFalse => rfl
    rw [hsame]
    exact List.Subset.refl _
  | closing b slot generation ident =>
    unfold takeBin closeSpoil removeStacked
    rw [State.bin_setBin]
    split
    case isTrue h =>
      subst h
      rw [State.bin_setBin, if_pos rfl]
      exact List.filter_sublist.subset
    case isFalse h =>
      rw [State.bin_setBin, if_neg h]
      exact List.Subset.refl _

/-- A closing request takes its pair out of the stacking list and closes the range of its id (R135). -/
theorem bin_closing (s : State) (b : Bin) (o : Owner) (ident : Ident) :
    o ∉ ((takeBin s (.closing b o.slot o.generation ident)).bin b).stacking ∧
      ∀ g ∈ ((takeBin s (.closing b o.slot o.generation ident)).bin b).spoil, g.isOpen = true → g.ident ≠ ident := by
  unfold takeBin closeSpoil removeStacked
  rw [State.bin_setBin, if_pos rfl, State.bin_setBin, if_pos rfl]
  constructor
  case left => simp
  case right =>
    intro g hg hopen hident
    obtain ⟨g', -, rfl⟩ := List.mem_map.mp hg
    by_cases hrange : g'.isOpen = true ∧ g'.ident = ident
    · rw [if_pos hrange] at hopen
      cases hopen
    · rw [if_neg hrange] at hopen hident
      exact hrange ⟨hopen, hident⟩

theorem not_stacked_takeBins {o : Owner} {b : Bin} {ident : Ident} {l : List BinRequest}
    (h : BinRequest.closing b o.slot o.generation ident ∈ l) (s : State) : o ∉ ((l.foldl takeBin s).bin b).stacking := by
  obtain ⟨front, rear, rfl⟩ := List.append_of_mem h
  rw [List.foldl_append, List.foldl_cons]
  refine foldl_induction (P := fun u : State => o ∉ (u.bin b).stacking) (bin_closing _ b o ident).1 fun u q _ hu hmem => ?_
  exact hu (stacking_takeBin u q b hmem)

/-! ## The settling -/

section Settle
variable (s : State) (o : Owner)

/-- The settling up to the requests of the BNM. -/
def settledPages : State :=
  let s := (s.requests.condemns.filter fun c => c.names o).foldl takeCondemn
    { s with requests := { s.requests with condemns := s.requests.condemns.filter fun c => !c.names o } }
  let s := (s.requests.reroutes.filter fun q => q.names o).foldl takeReroute
    { s with requests := { s.requests with reroutes := s.requests.reroutes.filter fun q => !q.names o } }
  (s.requests.flushes.filter fun q => q = o).foldl takeFlush
    { s with requests := { s.requests with flushes := s.requests.flushes.filter fun q => q ≠ o } }

theorem settleStatement_eq : settleStatement s o =
    let u := settledPages s o
    (upToClosing o u.requests.bins).foldl takeBin
      { u with requests := { u.requests with bins := u.requests.bins.drop (upToClosing o u.requests.bins).length } } := rfl

/-- The condemnations of the pair taken. -/
def condemned : State :=
  (s.requests.condemns.filter fun c => c.names o).foldl takeCondemn
    { s with requests := { s.requests with condemns := s.requests.condemns.filter fun c => !c.names o } }

theorem condemned_rest : (condemned s o).requests =
      { s.requests with condemns := s.requests.condemns.filter fun c => !c.names o } ∧
    (condemned s o).adm = s.adm := by
  constructor
  · exact foldl_keeps (f := State.requests) (by simp) _ _
  · exact foldl_keeps (f := State.adm) (by simp) _ _

/-- The reroutes of the pair taken besides. -/
def rerouted : State :=
  let s := condemned s o
  (s.requests.reroutes.filter fun q => q.names o).foldl takeReroute
    { s with requests := { s.requests with reroutes := s.requests.reroutes.filter fun q => !q.names o } }

theorem rerouted_rest : (rerouted s o).requests.unfaulted =
      { s.requests.unfaulted with
        condemns := s.requests.condemns.filter fun c => !c.names o
        reroutes := s.requests.reroutes.filter fun q => !q.names o } ∧
    (rerouted s o).adm = s.adm := by
  obtain ⟨hrequests, hadm⟩ := condemned_rest s o
  constructor
  · refine (foldl_keeps (f := fun v : State => v.requests.unfaulted) (fun v q => takeReroute_unfaulted v q) _ _).trans ?_
    dsimp only
    rw [hrequests]
    rfl
  · refine (foldl_keeps (f := State.adm) (by simp) _ _).trans ?_
    exact hadm

theorem settledPages_eq : settledPages s o =
    let u := rerouted s o
    (u.requests.flushes.filter fun q => q = o).foldl takeFlush
      { u with requests := { u.requests with flushes := u.requests.flushes.filter fun q => q ≠ o } } := rfl

theorem settledPages_unfaulted : (settledPages s o).requests.unfaulted =
    { s.requests.unfaulted with
      condemns := s.requests.condemns.filter fun c => !c.names o
      reroutes := s.requests.reroutes.filter fun q => !q.names o
      flushes := s.requests.flushes.filter fun q => q ≠ o } := by
  obtain ⟨hrequests, -⟩ := rerouted_rest s o
  rw [settledPages_eq]
  refine (foldl_keeps (f := fun v : State => v.requests.unfaulted) (by simp) _ _).trans ?_
  have hflushes : (rerouted s o).requests.flushes = s.requests.flushes := (congrArg Requests.flushes hrequests :)
  have hwrite : ∀ w : Requests, ({ w with flushes := w.flushes.filter fun q => q ≠ o } : Requests).unfaulted =
      { w.unfaulted with flushes := w.flushes.filter fun q => q ≠ o } := fun w => rfl
  dsimp only
  rw [hwrite, hrequests, hflushes]

/-- The requests of the pair are taken, and the others wait on (R16, R17; log 35). -/
theorem settleStatement_unfaulted : (settleStatement s o).requests.unfaulted =
    { s.requests.unfaulted with
      condemns := s.requests.condemns.filter fun c => !c.names o
      reroutes := s.requests.reroutes.filter fun q => !q.names o
      flushes := s.requests.flushes.filter fun q => q ≠ o
      bins := s.requests.bins.drop (upToClosing o s.requests.bins).length } := by
  have hpages := settledPages_unfaulted s o
  have hbins : (settledPages s o).requests.bins = s.requests.bins := (congrArg Requests.bins hpages :)
  rw [settleStatement_eq]
  refine (foldl_keeps (f := fun v : State => v.requests.unfaulted) (by simp) _ _).trans ?_
  have hwrite : ∀ (w : Requests) l, ({ w with bins := l } : Requests).unfaulted = { w.unfaulted with bins := l } :=
    fun _ _ => rfl
  dsimp only
  rw [hwrite, hpages, hbins]

/-- A waiting flush of the pair takes its pages out of both queues, once for all (R46). -/
theorem queue_takeFlushes {n : Nat} (u : State) (q : Queue) :
    ((List.replicate n o).foldl takeFlush u).queue q = if 0 < n then
      (u.queue q).filter fun e => decide ¬(e.slot = o.slot ∧ e.generation = o.generation) else u.queue q := by
  induction n generalizing u with
  | zero => rfl
  | succ n ih =>
    have hflush : (takeFlush u o).queue q =
        (u.queue q).filter fun e => decide ¬(e.slot = o.slot ∧ e.generation = o.generation) := by
      rw [takeFlush_eq]
      cases q <;> rfl
    rw [List.replicate_succ, List.foldl_cons, ih, hflush, if_pos (Nat.succ_pos n)]
    split
    · rw [List.filter_filter]
      simp
    · rfl

theorem queue_settleStatement (q : Queue) : (settleStatement s o).queue q = if o ∈ s.requests.flushes then
    (s.queue q).filter fun e => decide ¬(e.slot = o.slot ∧ e.generation = o.generation) else s.queue q := by
  obtain ⟨hrequests, hadm⟩ := rerouted_rest s o
  have hflushes : (rerouted s o).requests.flushes = s.requests.flushes := (congrArg Requests.flushes hrequests :)
  have hbins : (settleStatement s o).adm = (settledPages s o).adm := by
    rw [settleStatement_eq]
    exact (takeBin_frame_all _ _).2.2.2.1
  have hqueue : (settleStatement s o).queue q = (settledPages s o).queue q := by
    cases q <;> simp only [State.queue, hbins]
  have hfilter : (s.requests.flushes.filter fun p => p = o) = List.replicate (s.requests.flushes.count o) o := by
    rw [← List.filter_eq]
  rw [hqueue, settledPages_eq]
  dsimp only
  rw [hflushes, hfilter, queue_takeFlushes]
  have hsame : ∀ w, ({ rerouted s o with requests := w } : State).queue q = s.queue q := fun w => by
    cases q <;> simp only [State.queue, hadm]
  simp only [hsame, List.count_pos_iff]

theorem sheet_settleStatement {u : Tag} {r : Sheet} (hr : s.sheet u = some r)
    (hother : ¬(r.slot = o.slot ∧ r.generation = o.generation)) : (settleStatement s o).sheet u = some r := by
  have hcondemned : (condemned s o).sheet u = some r :=
    foldl_induction (P := fun v : State => v.sheet u = some r) hr fun v c hc hv =>
      sheet_takeCondemn_other (List.mem_filter.mp hc).2 hv hother
  have hrerouted : (rerouted s o).sheet u = some r :=
    foldl_induction (P := fun v : State => v.sheet u = some r) hcondemned fun v q hq hv =>
      sheet_takeReroute (List.mem_filter.mp hq).2 hv hother
  have hpages : (settledPages s o).sheets = (rerouted s o).sheets := by
    rw [settledPages_eq]
    exact foldl_keeps (f := State.sheets) (by simp) _ _
  have hsettled : (settleStatement s o).sheets = (settledPages s o).sheets := by
    rw [settleStatement_eq]
    exact (takeBin_frame_all _ _).2.2.1
  rw [State.sheet, hsettled, hpages]
  exact hrerouted

/-- The pair leaves the stacking list that its closing request names, and the last of them closes its range (R129). -/
theorem bin_settleStatement {b : Bin} {ident : Ident} (h : BinRequest.closing b o.slot o.generation ident ∈ s.requests.bins) :
    o ∉ ((settleStatement s o).bin b).stacking ∧
      ((∀ c i, BinRequest.closing c o.slot o.generation i ∈ s.requests.bins → c = b ∧ i = ident) →
        ∀ g ∈ ((settleStatement s o).bin b).spoil, g.isOpen = true → g.ident ≠ ident) := by
  have hbins : (settledPages s o).requests.bins = s.requests.bins := (congrArg Requests.bins (settledPages_unfaulted s o) :)
  have hmem := mem_upToClosing h (closes_iff.mpr ⟨b, ident, rfl⟩)
  rw [settleStatement_eq]
  dsimp only
  rw [hbins]
  refine ⟨not_stacked_takeBins hmem _, fun honly => ?_⟩
  obtain ⟨front, last, hlast, hcloses⟩ := upToClosing_concat (List.ne_nil_of_mem hmem)
  obtain ⟨c, i, rfl⟩ := closes_iff.mp hcloses
  have htaken : BinRequest.closing c o.slot o.generation i ∈ s.requests.bins := by
    obtain ⟨rest, hl, -⟩ := upToClosing_append o s.requests.bins
    rw [hl, hlast]
    simp
  obtain ⟨rfl, rfl⟩ := honly c i htaken
  rw [hlast, List.foldl_append, List.foldl_cons, List.foldl_nil]
  exact (bin_closing _ c o i).2

end Settle

/-! ## RESTART STATEMENT and DISCARD STATEMENT -/

theorem takeRestart_named {sl : Word} {slot : Slot} (hsl : slot.val = sl.toNat) (id0 id1 : Word) (s : State) :
    takeRestart [sl, id0, id1] s =
      match s.named slot (id1 ++ id0) with
      | none => s.refuse .noEntry
      | some r =>
        if r.state ≠ .broken then s.refuse .state
        else if r.inFlight ≠ 0 then s.refuse .wait
        else
          ((settleStatement s { slot, generation := r.generation }).setStatement slot (some r.restart),
           (.ok, [word (r.generation + 1)])) := by
  simp only [takeRestart, argSlot_val hsl]
  rfl

theorem takeDiscard_named {sl : Word} {slot : Slot} (hsl : slot.val = sl.toNat) (id0 id1 : Word) (s : State) :
    takeDiscard [sl, id0, id1] s =
      match s.named slot (id1 ++ id0) with
      | none => s.refuse .noEntry
      | some r =>
        if !r.state.ended then s.refuse .state
        else if r.inFlight ≠ 0 then s.refuse .wait
        else ((settleStatement s { slot, generation := r.generation }).setStatement slot none, (.ok, [])) := by
  simp only [takeDiscard, argSlot_val hsl]
  rfl

/-- The settling as the second half of O7 states it. -/
theorem settleStatement_settles (s t : State) (o : Owner) (ht : t = settleStatement s o) :
    ((∀ c ∈ s.requests.condemns, c.names o = false) → (∀ q ∈ s.requests.reroutes, q.names o = false) →
      o ∉ s.requests.flushes → (∀ b ident, BinRequest.closing b o.slot o.generation ident ∉ s.requests.bins) → t = s) ∧
    (∀ c ∈ t.requests.condemns, c.names o = false) ∧ (∀ q ∈ t.requests.reroutes, q.names o = false) ∧
    o ∉ t.requests.flushes ∧ (∀ b ident, BinRequest.closing b o.slot o.generation ident ∉ t.requests.bins) ∧
    t.requests.breaks = s.requests.breaks := by
  subst ht
  have hrequests := settleStatement_unfaulted s o
  have hcondemns : (settleStatement s o).requests.condemns = _ := (congrArg Requests.condemns hrequests :)
  have hreroutes : (settleStatement s o).requests.reroutes = _ := (congrArg Requests.reroutes hrequests :)
  have hflushes : (settleStatement s o).requests.flushes = _ := (congrArg Requests.flushes hrequests :)
  have hbins : (settleStatement s o).requests.bins = _ := (congrArg Requests.bins hrequests :)
  have hbreaks : (settleStatement s o).requests.breaks = s.requests.breaks := (congrArg Requests.breaks hrequests :)
  rw [hcondemns, hreroutes, hflushes, hbins]
  refine ⟨fun hc hr hf hb => settleStatement_none hc hr hf (any_closes_eq_false.mpr hb), ?_, ?_, ?_, ?_, hbreaks⟩
  · simp
  · simp
  · simp
  · rw [← any_closes_eq_false]
    obtain ⟨rest, hl, hrest⟩ := upToClosing_append o s.requests.bins
    have hdrop : s.requests.bins.drop (upToClosing o s.requests.bins).length = rest :=
      (congrArg (List.drop _) hl).trans List.drop_left
    rw [hdrop]
    exact hrest

/-- Settles O7: the checks stand in order in `takeRestart_named` and `takeDiscard_named`; the settling keeps its lists by
`settleStatement_unfaulted`, `bin_settleStatement`, `queue_settleStatement` and `sheet_settleStatement`. -/
theorem restartAndDiscardEndABrokenGeneration : Obligations.RestartAndDiscardEndABrokenGeneration := by
  refine ⟨fun s sl id0 id1 hport => ⟨fun hsl => ⟨?_, ?_⟩, fun slot hsl => ⟨fun hnone => ⟨?_, ?_⟩, fun r hr hident => ?_⟩⟩,
    fun s t o ht => ?_⟩
  · exact answers_of_effect takeRestart rfl hport rfl (by simp only [takeRestart, argSlot_eq_none hsl]; rfl)
  · exact answers_of_effect takeDiscard rfl hport rfl (by simp only [takeDiscard, argSlot_eq_none hsl]; rfl)
  · exact answers_of_effect takeRestart rfl hport rfl (by rw [takeRestart_named hsl, named_eq_none hnone]; rfl)
  · exact answers_of_effect takeDiscard rfl hport rfl (by rw [takeDiscard_named hsl, named_eq_none hnone]; rfl)
  · have hrestart := takeRestart_named hsl id0 id1 s
    have hdiscard := takeDiscard_named hsl id0 id1 s
    rw [named_eq_some hr hident] at hrestart hdiscard
    dsimp only at hrestart hdiscard
    have hended : ∀ {p : Prop}, r.state = .broken ∨ r.state = .abandoned → ((!r.state.ended) = true → p) := by
      intro p h hnot
      rw [(ended_iff _).mpr h] at hnot
      cases hnot
    refine ⟨fun hstate => ?_, fun hstate hflight => ?_, fun hstate hflight => ?_, fun hbroken habandoned => ?_,
      fun hstate hflight => ?_, fun hstate hflight => ?_⟩
    · exact answers_of_effect takeRestart rfl hport rfl (by rw [hrestart, if_pos hstate]; rfl)
    · exact answers_of_effect takeRestart rfl hport rfl (by
        rw [hrestart, if_neg (Classical.not_not.mpr hstate), if_pos hflight]; rfl)
    · exact answers_of_effect takeRestart rfl hport rfl (by
        rw [hrestart, if_neg (Classical.not_not.mpr hstate), if_neg (Classical.not_not.mpr hflight)]; rfl)
    · have hnot : (!r.state.ended) = true := by
        rw [Bool.not_eq_true', Bool.eq_false_iff, Ne, ended_iff]
        exact not_or.mpr ⟨hbroken, habandoned⟩
      exact answers_of_effect takeDiscard rfl hport rfl (by rw [hdiscard, if_pos hnot]; rfl)
    · exact answers_of_effect takeDiscard rfl hport rfl (by
        rw [hdiscard, if_neg (hended hstate), if_pos hflight]; rfl)
    · exact answers_of_effect takeDiscard rfl hport rfl (by
        rw [hdiscard, if_neg (hended hstate), if_neg (Classical.not_not.mpr hflight)])
  · obtain ⟨hsame, hcondemns, hreroutes, hflushes, hbins, hbreaks⟩ := settleStatement_settles s t o ht
    subst ht
    obtain ⟨-, hstu, htsq, hjam, htsv, hprofile, hlines⟩ := settleStatement_frame s o
    exact ⟨hsame, hcondemns, hreroutes, hflushes, hbins, fun b ident h => bin_settleStatement s o h,
      queue_settleStatement s o, fun tag r hr hother => sheet_settleStatement s o hr hother, hstu, htsq, hjam, htsv,
      hprofile, hlines, hbreaks⟩

end Sys2Proof.Machine
end

section
/-! The hold reasons of the feed queues, in the order of R55, and the bin that a claim would give (R55 to R59). -/

namespace Sys2Proof.Machine

set_option Elab.async false

/-! ## Records and tags -/

theorem anySheet_iff {s : State} {p : Sheet → Bool} : s.anySheet p = true ↔ ∃ t r, s.sheet t = some r ∧ p r = true := by
  simp [State.anySheet, tags, Option.any_eq_true]

theorem anySheet_eq_false {s : State} {p : Sheet → Bool} (h : ∀ t r, s.sheet t = some r → p r = false) :
    s.anySheet p = false := by
  rw [Bool.eq_false_iff, Ne, anySheet_iff]
  rintro ⟨t, r, hr, hp⟩
  rw [h t r hr] at hp
  cases hp

theorem freeTag_isNone {s : State} : s.freeTag.isNone = true ↔ ∀ t, s.sheet t ≠ none := by
  simp [State.freeTag, tags]

theorem backPending_eq : Sheet.backPending = fun r => decide (r.plex = .duplex ∧ r.back = some .none_) := by
  funext r
  rw [Bool.eq_iff_iff]
  simp [Sheet.backPending]

theorem backUndone_eq : Sheet.backUndone = fun r => decide (r.plex = .duplex ∧ r.back ≠ some .done) := by
  funext r
  rw [Bool.eq_iff_iff]
  simp [Sheet.backUndone]

theorem purgeShort_iff (s : State) : purgeShort s = true ↔
    s.capacity .p - (s.bin .p).fill ≤ (tags.filter fun tag => (s.sheet tag).isSome).length := by
  rw [purgeShort, decide_eq_true_eq, live_eq_length_isSome]

theorem creditHeld_iff (s : State) (b : Bin) :
    creditHeld s b = true ↔ s.capacity b ≤ (s.bin b).fill + (s.bin b).reserved := by
  simp [creditHeld]

theorem overtakes_iff (s : State) (plex : Plex) (b : Bin) : overtakes s plex b = true ↔
    plex = .simplex ∧ (tags.any fun tag => (s.sheet tag).any fun r =>
      r.plex = .duplex ∧ r.back ≠ some .done ∧ r.target = b) = true := by
  have hpred : (fun r : Sheet => r.backUndone && decide (r.target = b)) =
      fun r => decide (r.plex = .duplex ∧ r.back ≠ some .done ∧ r.target = b) := by
    funext r
    rw [backUndone_eq, Bool.eq_iff_iff]
    simp [and_assoc]
  rw [overtakes, State.anySheet, hpred, Bool.and_eq_true, decide_eq_true_eq]

theorem sequenceShort_iff (s : State) (plex : Plex) : sequenceShort s plex = true ↔
    8 < s.tsq.pitches.length + (tags.filter fun tag => (s.sheet tag).any fun r =>
      r.plex = .duplex ∧ r.back = some .none_).length + (if plex = .duplex then 2 else 1) := by
  rw [sequenceShort, decide_eq_true_eq, State.tagsWhere, backPending_eq]

theorem depthFull_iff (s : State) (plex : Plex) : depthFull s plex = true ↔
    plex = .duplex ∧ 3 ≤ (tags.filter fun tag => (s.sheet tag).any fun r =>
      r.plex = .duplex ∧ r.back ≠ some .done).length := by
  rw [depthFull, Bool.and_eq_true, decide_eq_true_eq, decide_eq_true_eq, State.tagsWhere, backUndone_eq]

theorem trayHeld_iff (s : State) (t : Tray) :
    trayHeld s t = true ↔ s.condition t ≠ .ok ∨ s.lines.trayReady[t.idx] = false := by
  simp [trayHeld]

theorem loopGuarded_iff (s : State) : loopGuarded s = true ↔
    ∃ tag r, s.sheet tag = some r ∧ (r.state = .parked ∨ (r.state = .loop ∧
      (r.lastSensor = some .dup2 ∨ ∃ c, r.lastLead = some c ∧
        isLater (plus c (s.leg .dup1Dup2)) (plus s.now (s.limit .loopGuard)) = false))) := by
  rw [loopGuarded, anySheet_iff]
  simp [nearsPark, Option.any_eq_true]

/-! ## The evaluation, check by check -/

theorem evaluate_head {s : State} {q : Queue} {e : Entry} {rest : List Entry} (h : s.queue q = e :: rest) :
    evaluate s q = evaluateHead s e := by
  simp only [evaluate, h, List.head?_cons]

theorem evaluate_empty {s : State} {q : Queue} (h : s.queue q = []) : evaluate s q = evaluateEmpty s := by
  simp only [evaluate, h, List.head?_nil]

/-- The checks that every evaluation makes first: the transport, a pick under way, a free tag (R56). -/
theorem evaluate_anyHead (s : State) (q : Queue) :
    (s.tsv.state ≠ .running → evaluate s q = .transport) ∧
    (s.tsv.state = .running → (s.anySheet fun r => r.state = .picking) = true → evaluate s q = .pickBusy) ∧
    (s.tsv.state = .running → (s.anySheet fun r => r.state = .picking) = false → s.freeTag.isNone = true →
      evaluate s q = .tag) := by
  unfold evaluate evaluateEmpty evaluateHead
  split <;> simp_all

section Heads
variable {s : State} (hrun : s.tsv.state = .running) (hpick : (s.anySheet fun r => r.state = .picking) = false)
  (htag : s.freeTag.isNone = false)

include hrun hpick htag

theorem evaluateEmpty_free : evaluateEmpty s =
    if loopGuarded s then .loopGuard else if purgeShort s then .purge else .empty := by
  simp [evaluateEmpty, hrun, hpick, htag]

theorem evaluateHead_free (e : Entry) : evaluateHead s e =
    if trayHeld s e.tray then .tray
    else
      match s.ofPair e.slot e.generation with
      | none => if loopGuarded s then .loopGuard else .bin
      | some st =>
        if sequenceShort s st.plex then .sequence
        else if depthFull s st.plex then .depth
        else if loopGuarded s then .loopGuard
        else
          match binFor s st with
          | none => .bin
          | some b =>
            if creditHeld s b then .credit
            else if overtakes s st.plex b then .order
            else if purgeShort s then .purge
            else .none_ :=
  (if_neg (by simp [hrun])).trans ((if_neg (by simp [hpick])).trans (if_neg (by simp [htag])))

end Heads

theorem ofPair_eq_none {s : State} {slot : Slot} {generation : Nat}
    (h : ∀ st, s.statement slot = some st → st.generation ≠ generation) : s.ofPair slot generation = none := by
  unfold State.ofPair
  split
  · rfl
  case h_2 r hr => exact if_neg (h r hr)

theorem ofPair_eq_some {s : State} {slot : Slot} {generation : Nat} {st : Statement} (h : s.statement slot = some st)
    (hg : st.generation = generation) : s.ofPair slot generation = some st := by
  simp [State.ofPair, h, hg]

/-- The overflow request of a queue, of its head's statement (R59). -/
theorem overflowRequests_eq (s : State) (q : Queue) : overflowRequests s q = match s.queue q with
    | [] => []
    | e :: _ =>
      if evaluate s q = .credit ∧ (s.statement e.slot).any (fun st => st.generation = e.generation ∧
          (binFor s st).any fun b => (s.bin b).reserved = 0) then
        [{ slot := e.slot
           generation := e.generation
           cause := .binOverflow
           opening := some (s.openingOf e.slot) }]
      else [] := by
  unfold overflowRequests
  cases hq : s.queue q with
  | nil => rfl
  | cons e rest =>
    have hoverflows : overflows s e = true ↔ evaluate s q = .credit ∧
        (s.statement e.slot).any (fun st => st.generation = e.generation ∧
          (binFor s st).any fun b => (s.bin b).reserved = 0) = true := by
      rw [evaluate_head hq, overflows, Bool.and_eq_true, decide_eq_true_eq]
      refine and_congr_right fun _ => ?_
      cases hs : s.statement e.slot with
      | none => simp [State.ofPair, hs]
      | some st => by_cases hg : st.generation = e.generation <;> simp [State.ofPair, hs, hg]
    dsimp only [List.head?_cons]
    simp only [hoverflows]

/-! ## The bin of a claim -/

theorem stillAdmitting_eq_false {s : State} {o : Owner} : stillAdmitting s o = false ↔
    ∀ r, s.statement o.slot = some r → r.generation = o.generation →
      r.state ≠ .opened ∧ (r.state = .closed → r.queued ≤ r.admitted) := by
  unfold stillAdmitting State.ofPair
  cases hs : s.statement o.slot with
  | none => simp
  | some r => by_cases hg : r.generation = o.generation <;> simp [hg]

theorem claimable_iff (s : State) (role : BinRole) (b : Bin) : claimable s role b = true ↔
    (s.bin b).role = role ∧ (s.bin b).state = .ready ∧ (s.bin b).stacking.length < 4 ∧
      ∀ o ∈ (s.bin b).stacking, ∀ r, s.statement o.slot = some r → r.generation = o.generation →
        r.state ≠ .opened ∧ (r.state = .closed → r.queued ≤ r.admitted) := by
  simp only [claimable, Bool.and_eq_true, decide_eq_true_eq, List.all_eq_true, Bool.not_eq_true', stillAdmitting_eq_false,
    and_assoc]

theorem qualifies_eq (s : State) (st : Statement) : qualifies s st = fun b =>
    claimable s .standard b && decide
      (st.declared.getD (s.limit .unknownLengthReserve) + (s.bin b).fill + (s.bin b).reserved ≤ s.capacity b ∨
        st.declared.getD (s.limit .unknownLengthReserve) = 0) := by
  funext b
  unfold qualifies State.credit
  congr 1
  rw [decide_eq_decide]
  omega

theorem binFor_cases (s : State) (st : Statement) :
    (∀ b, st.bin = some b → binFor s st = some b) ∧
    (st.bin = none → st.binClass = .oversize →
      binFor s st = [Bin.b1, .b2, .b3, .b4].find? (claimable s .oversize)) ∧
    (st.bin = none → st.binClass = .standard →
      binFor s st = (searchFrom s.bnm.pointer).find? (qualifies s st)) := by
  refine ⟨fun b hb => ?_, fun hb hclass => ?_, fun hb hclass => ?_⟩ <;> simp [binFor, claimBin, *]

/-! ## The evaluation after a tray-ready line has changed -/

theorem breaks_retireDelivered (s : State) (t : Tag) (o : Owner) :
    (retireDelivered s t o).requests.breaks = s.requests.breaks := by
  unfold retireDelivered retire
  repeat' split
  all_goals rfl

theorem breaks_takeRetirements (before s : State) : (takeRetirements before s).requests.breaks = s.requests.breaks := by
  unfold takeRetirements
  exact foldl_keeps (f := fun u : State => u.requests.breaks)
    (g := fun u (q : Retirement) => retireDelivered u q.tag q.owner) (fun u q => breaks_retireDelivered u q.tag q.owner) _ _

/-- Where the tray-ready lines have changed and no suspect claim waited, both queues are evaluated once (R55). -/
theorem finish_evaluates {before u : State} (hsuspects : before.adm.suspects = [])
    (hlines : u.lines.trayReady ≠ before.lines.trayReady) : ∃ t, finish before u = .next t ∧
      t.adm.newHold = evaluate (takeRetirements before u) .new ∧
      t.adm.restartHold = evaluate (takeRetirements before u) .restart ∧
      t.requests.breaks = u.requests.breaks ++ (overflowRequests (takeRetirements before u) .new ++
        overflowRequests (takeRetirements before u) .restart) := by
  have hview : ∀ q, evaluationView before q ≠ evaluationView (takeRetirements before u) q := by
    intro q heq
    have hready : before.lines.trayReady = (takeRetirements before u).lines.trayReady :=
      congrArg EvaluationView.trayReady heq
    have hsame : (takeRetirements before u).lines = u.lines := by simp
    rw [hsame] at hready
    exact hlines hready.symm
  refine ⟨evaluateAfter before (takeRetirements before u), ?_, ?_, ?_, ?_⟩
  · rw [finish, if_pos hsuspects]
  all_goals rw [evaluateAfter_eq]
  · exact if_neg (hview .new)
  · exact if_neg (hview .restart)
  · have hnew : requestsAfter before (takeRetirements before u) .new = _ := if_neg (hview .new)
    have hrestart : requestsAfter before (takeRetirements before u) .restart = _ := if_neg (hview .restart)
    dsimp only
    rw [hnew, hrestart, breaks_takeRetirements]

theorem toggle_ne {n : Nat} (v : Vector Bool n) (i : Fin n) : v.set i (!v[i]) ≠ v := by
  intro h
  have hread := congrArg (fun w : Vector Bool n => w[i]) h
  simp at hread

/-- Settles O8: the checks of R55 in their order are the branches of `evaluateHead_free` and `evaluateEmpty_free`. -/
theorem evaluationsGiveTheHoldReason : Obligations.EvaluationsGiveTheHoldReason := by
  refine ⟨fun s q => ?_, loopGuarded_iff, fun s st => ?_, claimable_iff, overflowRequests_eq, fun s u tray hsuspects hu => ?_⟩
  case refine_1 =>
    obtain ⟨htransport, hbusy, hfull⟩ := evaluate_anyHead s q
    refine ⟨htransport, fun hrun hpicking => hbusy hrun ?_, fun hrun hnone => ?_⟩
    · obtain ⟨tag, r, hr, hstate⟩ := hpicking
      exact anySheet_iff.mpr ⟨tag, r, hr, decide_eq_true hstate⟩
    · have hpick : (s.anySheet fun r => r.state = .picking) = false :=
        anySheet_eq_false fun t r hr => decide_eq_false (hnone t r hr)
      refine ⟨fun hall => hfull hrun hpick (freeTag_isNone.mpr hall), fun ⟨free, hfree⟩ => ?_⟩
      have htag : s.freeTag.isNone = false := by
        rw [Bool.eq_false_iff, Ne, freeTag_isNone]
        exact fun hall => hall free hfree
      refine ⟨fun hempty => ?_, fun e rest hqueue => ⟨fun hheld => ?_, fun hok hready => ⟨fun hnopair => ?_, fun st hst hg => ?_⟩⟩⟩
      · rw [evaluate_empty hempty, evaluateEmpty_free hrun hpick htag]
        simp only [purgeShort_iff]
      all_goals rw [evaluate_head hqueue, evaluateHead_free hrun hpick htag e]
      · rw [if_pos ((trayHeld_iff s e.tray).mpr hheld)]
      all_goals rw [if_neg (by rw [trayHeld_iff]; simp [hok, hready])]
      · rw [ofPair_eq_none hnopair]
      · rw [ofPair_eq_some hst hg]
        simp only [sequenceShort_iff, depthFull_iff, creditHeld_iff, overtakes_iff, purgeShort_iff] <;> rfl
  case refine_2 =>
    obtain ⟨hheld, hoversize, hstandard⟩ := binFor_cases s st
    refine ⟨hheld, hoversize, fun hb hclass => ?_⟩
    rw [hstandard hb hclass, qualifies_eq]
    cases s.bnm.pointer <;> rfl
  case refine_3 =>
    obtain ⟨t, ht, hnew, hrestart, hbreaks⟩ := finish_evaluates hsuspects (u := { s with lines := { s.lines with
      trayReady := s.lines.trayReady.set tray.idx (!s.lines.trayReady[tray.idx]) } }) (toggle_ne _ tray.idx)
    rw [← hu] at hnew hrestart hbreaks
    exact ⟨t, ht, hnew, hrestart, hbreaks⟩

end Sys2Proof.Machine
end

section
/-! Slot timing, the release grant and the pick launch (R53, R54, R61, R62). -/

namespace Sys2Proof.Machine

set_option Elab.async false

/-! ## Counts -/

theorem reaches_iff (a b : Count) : reaches a b = true ↔ (a - b).toNat < 2 ^ 31 := by
  have hmsb := BitVec.msb_eq_false_iff_two_mul_lt (x := a - b)
  rw [reaches, Bool.not_eq_true', hmsb]
  omega

theorem isLater_iff (a b : Count) : isLater a b = true ↔ 0 < (a - b).toNat ∧ (a - b).toNat < 2 ^ 31 := by
  have hne : (a != b) = true ↔ 0 < (a - b).toNat := by
    rw [bne_iff_ne, Nat.pos_iff_ne_zero]
    refine not_congr ?_
    constructor
    case mp =>
      rintro rfl
      simp
    case mpr =>
      intro h
      have hzero : a - b = 0 := BitVec.eq_of_toNat_eq h
      bv_omega
  rw [isLater, Bool.and_eq_true, reaches_iff, hne, and_comm]

theorem regLegOf_eq (tray : Tray) : regLegOf tray = match tray with | .t1 => .f1Reg | .t2 => .f2Reg | .t3 => .f3Reg := by
  cases tray <;> rfl

/-! ## The next slot count -/

theorem nextSlotCount_none {s : State} (h : s.adm.previous = none) (b : Bin) (plex : Plex) :
    nextSlotCount s b plex = none := by
  simp [nextSlotCount, h]

theorem nextSlotCount_some {s : State} {g : PreviousGrant} (h : s.adm.previous = some g) (b : Bin) (plex : Plex) :
    nextSlotCount s b plex = some (g.predicted + BitVec.ofNat 32 g.length + BitVec.ofNat 32 (s.limit .minimumGap) +
      (if g.target ≠ b ∨ g.plex ≠ plex then BitVec.ofNat 32 (s.limit .routeChangeGap) else 0)) := by
  rw [nextSlotCount, h, Option.map_some]
  congr 1
  by_cases hsame : g.target = b ∧ g.plex = plex
  · rw [if_pos hsame, if_neg (by simp [hsame])]
    exact (BitVec.add_zero _).symm
  · rw [if_neg hsame, if_pos (Classical.not_and_iff_not_or_not.mp hsame)]
    rfl

theorem releaseDue_none {s : State} (h : s.adm.previous = none) (r : Sheet) : releaseDue s r = true := by
  simp [releaseDue, nextSlotCount_none h]

theorem releaseDue_some {s : State} {g : PreviousGrant} (h : s.adm.previous = some g) (r : Sheet) :
    releaseDue s r = reaches s.tsv.pathCount (g.predicted + BitVec.ofNat 32 g.length +
      BitVec.ofNat 32 (s.limit .minimumGap) +
      (if g.target ≠ r.target ∨ g.plex ≠ .duplex then BitVec.ofNat 32 (s.limit .routeChangeGap) else 0) -
      BitVec.ofNat 32 (s.leg .releaseReg)) := by
  simp only [releaseDue, nextSlotCount_some h]
  rfl

/-! ## The release grant -/

/-- A release grant of the record PARKED whose release count is reached. -/
theorem releaseGrant_due {s : State} {tag : Tag} {r : Sheet} (hstate : s.tsv.state = .running ∨ s.tsv.state = .draining)
    (hfree : s.slotFree = true) (hparked : s.parkedTag = some tag) (hr : s.sheet tag = some r)
    (hdue : releaseDue s r = true) : releaseGrant s =
      finishRelease (claimRelease (assertRelease (evaluateBoth s)) tag r.owner s.now).1 tag r s.now := by
  have hclaimant := releaseClaimant_eq_some.mpr ⟨hstate, hparked, hr, hdue⟩
  have hnow : (evaluateBoth s).now = s.now := by rw [evaluateBoth_eq]; rfl
  rw [releaseGrant, if_pos hfree, hclaimant, ← hnow]
  exact releaseSheet_parked (by rw [evaluateBoth_eq]; exact hr) (parkedTag_parked hparked hr)

/-- The entry of a list with room is inserted by its open count (R90). -/
theorem expect_room {s : State} {x : Sensor} (e : Expectation) (h : (s.list x).length < 4) :
    expect s x e = s.setList x (insertByOpen e (s.list x)) :=
  if_pos h

/-- A claim that names the record's own pair reaches it (R39). -/
theorem claim_owner {s : State} {t : Tag} {r : Sheet} (hr : s.sheet t = some r) (f : Sheet → Option Sheet) :
    s.claim t r.owner f = match f r with
      | none => s
      | some q => s.setSheet t (some q) := by
  have hclaimed : s.claimed t r.owner = some r := by
    rw [State.claimed, hr]
    simp [Option.filter]
  rw [State.claim, hclaimed]
  rfl

/-- The release claim on a PARKED record (R29). -/
theorem claimRelease_parked {s : State} {t : Tag} {r : Sheet} {c : Count} (hr : s.sheet t = some r)
    (hp : r.state = .parked) : (claimRelease s t r.owner c).1 =
      s.setSheet t (some { r with state := .main, back := some .called, lastLead := some c }) := by
  rw [claimRelease, claim_owner hr, if_pos hp]

/-- The end of a release with room in the list of REG (R62, R90). -/
theorem finishRelease_room {s : State} (t : Tag) (r : Sheet) (c : Count) (h : (s.list .reg).length < 4) :
    finishRelease s t r c =
      let predicted := plus c (s.leg .releaseReg)
      let u := (appendPitch s t r.slot r.generation r.page .back predicted).setList .reg
        (insertByOpen (entryAt s t r.owner predicted (s.limit .leadTolerance)) (s.list .reg))
      { u with
        ptk := { u.ptk with release := some (releaseWindowAt s t r c) }
        adm := { u.adm with
          previous := some { tag := t, predicted, length := r.length, target := r.target, plex := .duplex } } } := by
  unfold finishRelease
  dsimp only
  rw [expect_room _ (by exact h)]
  rfl

/-- Settles O14: the release grant is `releaseGrant_due`, whose fields are read off. -/
theorem releaseGrantReleasesTheParkedSheet : Obligations.ReleaseGrantReleasesTheParkedSheet := by
  refine ⟨fun s r => ⟨fun hnone => releaseDue_none hnone r, fun g release hg hrelease => ?_, reaches_iff⟩,
    fun s tag r hstate hfree hparked hr hdue hroom => ?_⟩
  case refine_1 => rw [releaseDue_some hg, hrelease]
  case refine_2 =>
    have hgrant := releaseGrant_due hstate hfree hparked hr hdue
    rw [evaluateBoth_eq, claimRelease_parked (by exact hr) (parkedTag_parked hparked hr)] at hgrant
    refine ⟨_, runs_of_effect (hgrant.trans (finishRelease_room tag r s.now (by exact hroom))), rfl, ?_, fun u hu => ?_,
      rfl, rfl, ?_, fun x hx => ?_, rfl, rfl, rfl, rfl, rfl, rfl, rfl, rfl, rfl, rfl, rfl⟩
    · exact (State.sheet_setSheet s tag tag _).trans (if_pos rfl)
    · exact (State.sheet_setSheet s tag u _).trans (if_neg hu.symm)
    · exact (State.list_setList s .reg .reg _).trans (if_pos rfl)
    · exact (State.list_setList s .reg x _).trans (if_neg hx.symm)

/-! ## The pick launch -/

/-- Settles O15: the launch with room in the list of the tray exit. -/
theorem pickLaunchOpensThePickWindow : Obligations.PickLaunchOpensThePickWindow := by
  intro s p hpick hissued hstate hdue hroom
  refine runs_of_effect ?_
  rw [effect, pickLaunch, hpick]
  dsimp only
  rw [if_pos ⟨by simp [hissued], hstate, hdue⟩, launchPick]
  dsimp only
  rw [expect_room _ (by exact hroom)]
  rfl

end Sys2Proof.Machine
end

section
/-! The tray grant: what it does to the record, the queue, the statement, the bin and the sequence (R51, R58, R60). -/

namespace Sys2Proof.Machine

set_option Elab.async false

/-! ## The decision -/

section Decision
variable {s : State} {q : Queue} {n : Nat} {e : Entry} {rest : List Entry} {st : Statement} {b : Bin} {tag : Tag}

/-- The queue that R51 awards the slot to, with the starvation count of R52. -/
theorem chooseHead_awards (h : (q = .restart ∧ evaluate s .restart = .none_ ∧
      ¬(evaluate s .new = .none_ ∧ s.adm.starvation = 4)) ∨
    (q = .new ∧ evaluate s .new = .none_ ∧ (s.adm.starvation = 4 ∨ evaluate s .restart ≠ .none_))) :
    chooseHead (evaluateBoth s) =
      some (q, if q = .restart ∧ evaluate s .new = .none_ then s.adm.starvation + 1 else 0) := by
  rw [chooseHead_evaluateBoth]
  rcases h with ⟨rfl, hrestart, hguard⟩ | ⟨rfl, hnew, hguard⟩
  · rw [if_neg hguard, if_pos hrestart]
    simp
  · rcases hguard with hguard | hguard
    · rw [if_pos ⟨hnew, hguard⟩]
      simp
    · rw [if_neg hguard, if_pos hnew]
      simp

theorem freeTag_eq_some : s.freeTag = some tag ↔ s.sheet tag = none ∧ ∀ u < tag, s.sheet u ≠ none := by
  rw [State.freeTag, tags, find?_finRange_eq_some]
  simp [Option.isSome_iff_ne_none]

theorem releaseClaimant_evaluateBoth (s : State) : releaseClaimant (evaluateBoth s) = releaseClaimant s := by
  rw [evaluateBoth_eq]
  rfl

/-- The decision awards the slot to the head of the queue chosen. -/
theorem trayGrant_award (d : Bool) (hrun : s.tsv.state = .running) (hfree : s.slotFree = true)
    (hrelease : releaseClaimant s = none) (hchoose : chooseHead (evaluateBoth s) = some (q, n))
    (hqueue : s.queue q = e :: rest) (hst : s.ofPair e.slot e.generation = some st) (htag : s.freeTag = some tag)
    (hbin : binFor s st = some b) : trayGrant d s = grantSteps (evaluateBoth s) q e st b tag n d := by
  rw [trayGrant, if_pos ⟨hrun, hfree⟩, decideTray, releaseClaimant_evaluateBoth, hrelease, hchoose]
  have hqueue' : (evaluateBoth s).queue q = e :: rest := by rw [evaluateBoth_eq, ← hqueue]; cases q <;> rfl
  have hst' : (evaluateBoth s).ofPair e.slot e.generation = some st := by rw [evaluateBoth_eq, ← hst]; rfl
  have htag' : (evaluateBoth s).freeTag = some tag := by rw [evaluateBoth_eq, ← htag]; rfl
  have hbin' : binFor (evaluateBoth s) st = some b := by rw [evaluateBoth_eq, ← hbin]; rfl
  simp [grantHead, hqueue', hst', htag', hbin']

/-- The bin that the decision newly claims (R58). -/
theorem grantClaim_award (hrun : s.tsv.state = .running) (hfree : s.slotFree = true)
    (hrelease : releaseClaimant s = none) (hchoose : chooseHead (evaluateBoth s) = some (q, n))
    (hqueue : s.queue q = e :: rest) (hst : s.ofPair e.slot e.generation = some st) (htag : s.freeTag = some tag)
    (hbin : binFor s st = some b) (hnone : st.bin = none) : grantClaim s = some b := by
  have hqueue' : (evaluateBoth s).queue q = e :: rest := by rw [evaluateBoth_eq, ← hqueue]; cases q <;> rfl
  have hst' : (evaluateBoth s).ofPair e.slot e.generation = some st := by rw [evaluateBoth_eq, ← hst]; rfl
  have htag' : (evaluateBoth s).freeTag = some tag := by rw [evaluateBoth_eq, ← htag]; rfl
  have hclaim : claimBin s st = some b := by simpa [binFor, hnone] using hbin
  have hclaim' : claimBin (evaluateBoth s) st = some b := by rw [evaluateBoth_eq, ← hclaim]; rfl
  simp [grantClaim, hrun, hfree, releaseClaimant_evaluateBoth, hrelease, hchoose, headClaim, hqueue', hst', htag', hnone,
    hclaim']

end Decision

/-! ## The claim with effect -/

/-- An append to a bin whose door is open breaks the statement at once (R129). -/
theorem appendStacked_doorOpen {s : State} {b : Bin} (slot : Slot) (generation : Nat) (h : (s.bin b).state = .doorOpen) :
    appendStacked s b slot generation =
      (s.setBin b { s.bin b with stacking := (s.bin b).stacking ++ [{ slot, generation }] }).askBreak slot generation
        .binOpened (some (s.openingOf slot)) := by
  generalize hu : s.setBin b { s.bin b with stacking := (s.bin b).stacking ++ [{ slot, generation }] } = u
  have hstate : (u.bin b).state = .doorOpen := by rw [← hu, State.bin_setBin, if_pos rfl]; exact h
  have hopening : u.openingOf slot = s.openingOf slot := by rw [← hu]; rfl
  have hfence : evaluateFence u b = u := if_neg (by rw [hstate]; simp)
  unfold appendStacked
  rw [hu, hfence]
  dsimp only
  rw [if_pos hstate, hopening]

/-- An append to a bin whose door is closed evaluates the fence (R129, R136). -/
theorem appendStacked_doorClosed {s : State} {b : Bin} (slot : Slot) (generation : Nat) (h : (s.bin b).state ≠ .doorOpen) :
    appendStacked s b slot generation =
      evaluateFence (s.setBin b { s.bin b with stacking := (s.bin b).stacking ++ [{ slot, generation }] }) b := by
  unfold appendStacked
  dsimp only
  refine if_neg ?_
  rw [bin_evaluateFence]
  split
  · nofun
  · rw [State.bin_setBin, if_pos rfl]
    exact h

/-- The door of a READY stacker opens (R138). -/
theorem openStacker_ready {s : State} {b : Bin} (hdoor : s.lines.doors[b.idx] = false) (hstate : (s.bin b).state = .ready) :
    openStacker s b = breakListed (((setDoor s b true).setBin b { s.bin b with state := .doorOpen }).notify
      (.bin b .doorOpen (s.bin b).fill)) b := by
  have hbin : (setDoor s b true).bin b = s.bin b := rfl
  unfold openStacker openWith
  rw [if_neg (by simp [hdoor])]
  dsimp only
  rw [hbin, if_neg (by simp [hstate])]

/-- The pointer of the search moves to the bin of a STANDARD claim (R58). -/
def moveTo (s : State) (st : Statement) (b : Bin) : State :=
  match st.binClass with
  | .standard => { s with bnm := { s.bnm with pointer := b } }
  | .oversize => s

theorem moveTo_eq (s : State) (st : Statement) (b : Bin) : moveTo s st b =
    { s with bnm := { s.bnm with pointer := if st.binClass = .standard then b else s.bnm.pointer } } := by
  cases h : st.binClass <;> simp [moveTo, h]

theorem claimWithEffect_eq (s : State) (slot : Slot) (st : Statement) (b : Bin) (d : Bool) :
    claimWithEffect s slot st b d =
      appendStacked (if d then openStacker (moveTo s st b) b else moveTo s st b) b slot st.generation := rfl

@[simp] theorem pointer_evaluateFence (s : State) (b : Bin) : (evaluateFence s b).bnm.pointer = s.bnm.pointer := by
  unfold evaluateFence
  split
  · rw [State.notify_bnm]
    rfl
  · rfl

theorem fenceCount_congr {s u : State} {b : Bin} (hstu : u.stu = s.stu) (hbin : u.bin b = s.bin b) :
    fenceCount u b = fenceCount s b := by
  simp only [fenceCount, holdsOpenRange, State.ofPair, statement_of_eq hstu, hbin]

/-- What a claim with effect on a READY bin whose door stays closed leaves (R129, R136). -/
theorem claimWithEffect_closed {s u : State} {b : Bin} {slot : Slot} {st : Statement} (hready : (s.bin b).state = .ready)
    (hu : u = s.setBin b { s.bin b with stacking := (s.bin b).stacking ++ [{ slot, generation := st.generation }] }) :
    (∀ c, (claimWithEffect s slot st b false).bin c = if b = c then { s.bin b with
        stacking := (s.bin b).stacking ++ [{ slot, generation := st.generation }]
        state := if (s.bin b).spoil ≠ [] ∧ 4 ≤ fenceCount u b then .fenced else .ready } else s.bin c) ∧
    (claimWithEffect s slot st b false).bnm.pointer = (if st.binClass = .standard then b else s.bnm.pointer) ∧
    (claimWithEffect s slot st b false).lines = s.lines ∧ (claimWithEffect s slot st b false).requests = s.requests := by
  rw [claimWithEffect_eq, moveTo_eq]
  dsimp only [Bool.false_eq_true, if_false]
  rw [if_neg (by decide), appendStacked_doorClosed slot st.generation (by exact hready ▸ nofun)]
  generalize hv : State.setBin _ b _ = v
  have hbin : ∀ c, v.bin c = if b = c then
      { s.bin b with stacking := (s.bin b).stacking ++ [{ slot, generation := st.generation }] } else s.bin c := fun c => by
    rw [← hv, State.bin_setBin]
    rfl
  have hcount : fenceCount v b = fenceCount u b :=
    fenceCount_congr (by rw [← hv, hu]; rfl) (by rw [hbin, hu, State.bin_setBin])
  refine ⟨fun c => ?_, ?_, ?_, ?_⟩
  · rw [bin_evaluateFence, hcount, hbin b, if_pos rfl, hbin]
    by_cases hc : b = c
    · subst hc
      by_cases hfence : (s.bin b).spoil ≠ [] ∧ 4 ≤ fenceCount u b
      · simp [hready, hfence]
      · simp [hready, hfence]
    · simp [hc]
  · rw [pointer_evaluateFence, ← hv]
    rfl
  · simp [← hv]
  · simp [← hv]

/-- The break requests of the listed statements of a bin whose door opens (R138). -/
def openedBreaks (s : State) (l : List Owner) : List BreakRequest :=
  l.map fun o => { slot := o.slot, generation := o.generation, cause := .binOpened, opening := some (s.openingOf o.slot) }

/-- What the opening of a READY stacker's door leaves (R138). -/
theorem openStacker_opens {s : State} {b : Bin} (hdoor : s.lines.doors[b.idx] = false) (hready : (s.bin b).state = .ready) :
    (∀ c, (openStacker s b).bin c = if b = c then { s.bin b with state := .doorOpen } else s.bin c) ∧
    (openStacker s b).bnm.pointer = s.bnm.pointer ∧
    (openStacker s b).lines = { s.lines with doors := s.lines.doors.set b.idx true } ∧
    (openStacker s b).requests =
      { s.requests with breaks := s.requests.breaks ++ openedBreaks s (s.bin b).stacking } ∧
    (s.cpt.notices.length < 32 → (openStacker s b).cpt.notices = s.cpt.notices ++ [.bin b .doorOpen (s.bin b).fill]) := by
  rw [openStacker_ready hdoor hready, breakListed_eq]
  generalize hw : State.notify _ _ = w
  have hwbin : ∀ c, w.bin c = if b = c then { s.bin b with state := .doorOpen } else s.bin c := fun c => by
    rw [← hw, bin_of_eq (State.notify_bnm _ _), State.bin_setBin]
    rfl
  refine ⟨hwbin, ?_, ?_, ?_, fun hroom => ?_⟩
  · rw [← hw, State.notify_bnm]
    rfl
  · rw [← hw, State.notify_lines]
    rfl
  · have hown := hwbin b
    rw [if_pos rfl] at hown
    have hrequests : w.requests = s.requests := by
      rw [← hw, State.notify_requests]
      rfl
    have hopening : ∀ j, w.openingOf j = s.openingOf j := fun j => by
      rw [State.openingOf, ← hw, State.notify_stu]
      rfl
    dsimp only
    rw [hrequests, hown]
    simp only [hopening, openedBreaks]
  · rw [← hw, State.notify_room _ _ (by exact hroom)]
    rfl

/-- What a claim with effect leaves whose bin's door opens between the claim and the append (R129, R144; log 44). -/
theorem claimWithEffect_opens {s : State} {b : Bin} {slot : Slot} {st : Statement} (hready : (s.bin b).state = .ready)
    (hdoor : s.lines.doors[b.idx] = false) :
    (∀ c, (claimWithEffect s slot st b true).bin c = if b = c then { s.bin b with
        stacking := (s.bin b).stacking ++ [{ slot, generation := st.generation }]
        state := .doorOpen } else s.bin c) ∧
    (claimWithEffect s slot st b true).bnm.pointer = (if st.binClass = .standard then b else s.bnm.pointer) ∧
    (claimWithEffect s slot st b true).lines = { s.lines with doors := s.lines.doors.set b.idx true } ∧
    (claimWithEffect s slot st b true).requests = { s.requests with
      breaks := s.requests.breaks ++ openedBreaks s ((s.bin b).stacking ++ [{ slot, generation := st.generation }]) } ∧
    (s.cpt.notices.length < 32 → (claimWithEffect s slot st b true).cpt.notices =
      s.cpt.notices ++ [.bin b .doorOpen (s.bin b).fill]) := by
  rw [claimWithEffect_eq, moveTo_eq, if_pos rfl]
  obtain ⟨hbin, hpointer, hlines, hrequests, hnotices⟩ := openStacker_opens (b := b)
    (s := { s with bnm := { s.bnm with pointer := if st.binClass = .standard then b else s.bnm.pointer } }) hdoor hready
  have hstu := (openStacker_frame
    { s with bnm := { s.bnm with pointer := if st.binClass = .standard then b else s.bnm.pointer } } b).2.1
  generalize openStacker _ b = w at hbin hpointer hlines hrequests hnotices hstu
  have hown := hbin b
  rw [if_pos rfl] at hown
  have hopening : ∀ j, w.openingOf j = s.openingOf j := fun j => by rw [State.openingOf, hstu]; rfl
  rw [appendStacked_doorOpen slot st.generation (by rw [hown])]
  refine ⟨fun c => ?_, hpointer, hlines, ?_, hnotices⟩
  · refine (State.bin_setBin w b c _).trans ?_
    rw [hown, hbin]
    by_cases hc : b = c
    · subst hc
      simp only [if_true]
      rfl
    · simp only [hc, if_false]
      rfl
  · rw [hopening]
    change ({ w.requests with breaks := w.requests.breaks ++ [_] } : Requests) = _
    rw [hrequests]
    simp only [openedBreaks, List.map_append, List.append_assoc]
    rfl

/-! ## The steps of a grant, block by block -/

section Steps
variable (s : State) (q : Queue) (e : Entry) (st : Statement) (b : Bin) (t : Tag) (n : Nat) (d : Bool)

theorem queue_grantSteps (p : Queue) :
    (grantSteps s q e st b t n d).queue p = if q = p then (s.queue q).tail else s.queue p := by
  have hadm : (admitted s q e st b t d).adm = (s.setQueue q (s.queue q).tail).adm := by
    simp [admitted, appendPitch, adm_reserved]
  have hqueue : (grantSteps s q e st b t n d).queue p = (s.setQueue q (s.queue q).tail).queue p := by
    rw [grantSteps_eq]
    cases p <;> simp only [State.queue, hadm]
  rw [hqueue, State.queue_setQueue]

theorem stu_reserved : (reserved s q e st b d).stu = s.stu := by
  unfold reserved
  dsimp only
  split <;> simp

/-- The report of an admission (R8). -/
theorem statement_reportAdmission {u : State} {slot : Slot} {generation : Nat} {r : Statement}
    (hr : u.ofPair slot generation = some r) (claimed : Option Bin) (j : Slot) :
    (reportAdmission u slot generation t claimed).statement j = if slot = j then some { r with
      admitted := r.admitted + 1
      inFlight := r.inFlight + 1
      bin := if r.bin.isSome then r.bin else claimed } else u.statement j := by
  unfold reportAdmission
  rw [hr]
  dsimp only
  split
  · refine (statement_of_eq ?_ j).trans (State.statement_setStatement u slot j _)
    rfl
  · exact State.statement_setStatement u slot j _

theorem requests_reportAdmission {u : State} {slot : Slot} {generation : Nat} {r : Statement}
    (hr : u.ofPair slot generation = some r) (claimed : Option Bin) :
    (reportAdmission u slot generation t claimed).requests = if r.state.ended then { u.requests with
      condemns := u.requests.condemns ++ [{ tag := some t, slot, generation, cause := .broken }]
      reroutes := u.requests.reroutes ++ [{ tag := some t, slot, generation }] } else u.requests := by
  unfold reportAdmission
  rw [hr]
  dsimp only
  split <;> rfl

theorem ofPair_reserved {r : Statement} (hr : s.ofPair e.slot e.generation = some r) :
    ((reserved s q e st b d).setSheet t (some (newSheet (reserved s q e st b d) e st b))).ofPair e.slot e.generation =
      some r := by
  simp only [State.ofPair, State.statement, State.setSheet_stu, stu_reserved] at hr ⊢
  exact hr

theorem statement_grantSteps (hst : s.ofPair e.slot e.generation = some st) (j : Slot) :
    (grantSteps s q e st b t n d).statement j = if e.slot = j then some { st with
      admitted := st.admitted + 1
      inFlight := st.inFlight + 1
      bin := if st.bin.isSome then st.bin else some b } else s.statement j := by
  have hreport := statement_reportAdmission t (ofPair_reserved s q e st b t d hst)
    (if st.bin.isSome then none else some b) j
  have hsame : ((reserved s q e st b d).setSheet t (some (newSheet (reserved s q e st b d) e st b))).statement j =
      s.statement j := statement_of_eq (by rw [State.setSheet_stu, stu_reserved]) j
  rw [hsame] at hreport
  rw [grantSteps_eq]
  refine hreport.trans ?_
  by_cases hbin : st.bin.isSome <;> simp [hbin]

theorem requests_grantSteps (hst : s.ofPair e.slot e.generation = some st) :
    (grantSteps s q e st b t n d).requests = if st.state.ended then { (reserved s q e st b d).requests with
      condemns := (reserved s q e st b d).requests.condemns ++
        [{ tag := some t, slot := e.slot, generation := e.generation, cause := .broken }]
      reroutes := (reserved s q e st b d).requests.reroutes ++
        [{ tag := some t, slot := e.slot, generation := e.generation }] }
      else (reserved s q e st b d).requests :=
  requests_reportAdmission t (ofPair_reserved s q e st b t d hst) _

theorem profile_reserved :
    (reserved s q e st b d).profile = s.profile ∧ (reserved s q e st b d).tsv = s.tsv := by
  unfold reserved
  dsimp only
  split <;> simp

/-- The record that a grant creates, whose length is the tray's setting (R25). -/
theorem newSheet_reserved : newSheet (reserved s q e st b d) e st b = newSheet s e st b := by
  obtain ⟨hprofile, -⟩ := profile_reserved s q e st b d
  simp only [newSheet, State.traySettings, hprofile]

theorem margin_congr {u v : State} (hprofile : u.profile = v.profile) (htsv : u.tsv = v.tsv) : u.margin = v.margin := by
  simp only [State.margin, State.widened, State.limit, hprofile, htsv]

/-- The front pitch of a grant, appended with the next call number (R69). -/
theorem tsq_grantSteps : (grantSteps s q e st b t n d).tsq = { s.tsq with
    pitches := s.tsq.pitches ++
      [{ call := s.tsq.nextCall
         tag := t
         slot := e.slot
         generation := e.generation
         page := e.page
         side := .front
         state := .called
         deadline := minus (predictedReg s e.tray (launchCount s e.tray b st.plex)) s.margin
         reason := none
         registered := false
         read := false }]
    nextCall := s.tsq.nextCall + 1 } := by
  obtain ⟨hprofile, htsv⟩ := profile_reserved s q e st b d
  have htsq := tsq_reserved s q e st b d
  rw [grantSteps_eq]
  unfold admitted appendPitch
  dsimp only
  rw [margin_congr (u := reportAdmission _ _ _ _ _) (v := s) (by simp [hprofile]) (by simp [htsv])]
  simp [htsq]

/-- The pick and the record of the grant (R53, R60). -/
theorem adm_grantSteps :
    (grantSteps s q e st b t n d).adm.pick = some
      { entry := e, source := q, tag := t, launch := launchCount s e.tray b st.plex, issued := false } ∧
    (grantSteps s q e st b t n d).adm.previous = some
      { tag := t
        predicted := predictedReg s e.tray (launchCount s e.tray b st.plex)
        length := (s.traySettings e.tray).length
        target := b
        plex := st.plex } ∧
    (grantSteps s q e st b t n d).adm.starvation = n := by
  obtain ⟨hprofile, -⟩ := profile_reserved s q e st b d
  have hadmitted : (admitted s q e st b t d).profile = s.profile := by simp [admitted, appendPitch, hprofile]
  refine ⟨rfl, ?_, rfl⟩
  rw [grantSteps_eq]
  simp only [State.traySettings, hadmitted]

theorem rest_grantSteps : (grantSteps s q e st b t n d).bnm = (reserved s q e st b d).bnm ∧
    (grantSteps s q e st b t n d).lines = (reserved s q e st b d).lines ∧
    (grantSteps s q e st b t n d).cpt = (reserved s q e st b d).cpt := by
  simp [grantSteps_eq, admitted, appendPitch]

end Steps

/-! ## The claim and the reservation of a grant -/

theorem pointer_reserve (s : State) (b : Bin) : (reserve s b).bnm.pointer = s.bnm.pointer := rfl

section Reserved
variable {s u : State} {q : Queue} {e : Entry} {st : Statement} {b : Bin} {d : Bool}

/-- A statement that holds its bin reserves it (R58). -/
theorem reserved_held (h : st.bin.isSome = true) :
    (∀ c, (reserved s q e st b d).bin c =
      if b = c then { s.bin b with reserved := (s.bin b).reserved + 1 } else s.bin c) ∧
    (reserved s q e st b d).bnm.pointer = s.bnm.pointer ∧ (reserved s q e st b d).lines = s.lines ∧
    (reserved s q e st b d).requests = s.requests := by
  have hbin : ∀ c, (s.setQueue q (s.queue q).tail).bin c = s.bin c := bin_of_eq (State.setQueue_bnm s q _)
  unfold reserved
  dsimp only
  rw [if_pos h]
  refine ⟨fun c => ?_, ?_, by simp, by simp⟩
  · rw [bin_reserve, hbin, hbin]
  · rw [pointer_reserve, State.setQueue_bnm]

theorem reserved_claims (h : st.bin.isSome = false) : reserved s q e st b d =
    reserve (claimWithEffect (s.setQueue q (s.queue q).tail) e.slot st b d) b := by
  unfold reserved
  dsimp only
  rw [if_neg (by simp [h])]

/-- A first admission claims its bin and reserves it (R58, R129). -/
theorem reserved_closed (h : st.bin.isSome = false) (hready : (s.bin b).state = .ready)
    (hu : u = s.setBin b { s.bin b with
      stacking := (s.bin b).stacking ++ [{ slot := e.slot, generation := st.generation }] }) :
    (∀ c, (reserved s q e st b false).bin c = if b = c then { s.bin b with
        reserved := (s.bin b).reserved + 1
        stacking := (s.bin b).stacking ++ [{ slot := e.slot, generation := st.generation }]
        state := if (s.bin b).spoil ≠ [] ∧ 4 ≤ fenceCount u b then .fenced else .ready } else s.bin c) ∧
    (reserved s q e st b false).bnm.pointer = (if st.binClass = .standard then b else s.bnm.pointer) ∧
    (reserved s q e st b false).lines = s.lines ∧ (reserved s q e st b false).requests = s.requests := by
  have hbin : ∀ c, (s.setQueue q (s.queue q).tail).bin c = s.bin c := bin_of_eq (State.setQueue_bnm s q _)
  obtain ⟨hclaim, hpointer, hlines, hrequests⟩ := claimWithEffect_closed (s := s.setQueue q (s.queue q).tail) (b := b)
    (slot := e.slot) (st := st) (by rw [hbin]; exact hready) rfl
  have hcount := fenceCount_congr (s := u) (b := b)
    (u := (s.setQueue q (s.queue q).tail).setBin b { (s.setQueue q (s.queue q).tail).bin b with
      stacking := ((s.setQueue q (s.queue q).tail).bin b).stacking ++ [{ slot := e.slot, generation := st.generation }] })
    (by rw [hu]; simp) (by rw [hu, State.bin_setBin, State.bin_setBin, hbin])
  rw [reserved_claims h]
  refine ⟨fun c => ?_, ?_, ?_, ?_⟩
  · rw [bin_reserve, hclaim, hclaim, hcount]
    simp only [hbin]
    by_cases hc : b = c <;> simp [hc]
  · rw [pointer_reserve, hpointer, State.setQueue_bnm]
  · simpa using hlines
  · simpa using hrequests

/-- A first admission within which the bin's door opens (R129, R144; log 44). -/
theorem reserved_opens (h : st.bin.isSome = false) (hready : (s.bin b).state = .ready)
    (hdoor : s.lines.doors[b.idx] = false) :
    (∀ c, (reserved s q e st b true).bin c = if b = c then { s.bin b with
        reserved := (s.bin b).reserved + 1
        stacking := (s.bin b).stacking ++ [{ slot := e.slot, generation := st.generation }]
        state := .doorOpen } else s.bin c) ∧
    (reserved s q e st b true).bnm.pointer = (if st.binClass = .standard then b else s.bnm.pointer) ∧
    (reserved s q e st b true).lines = { s.lines with doors := s.lines.doors.set b.idx true } ∧
    (reserved s q e st b true).requests = { s.requests with breaks := s.requests.breaks ++ (openedBreaks s
      ((s.bin b).stacking ++ [{ slot := e.slot, generation := st.generation }])) } ∧
    (s.cpt.notices.length < 32 → (reserved s q e st b true).cpt.notices =
      s.cpt.notices ++ [.bin b .doorOpen (s.bin b).fill]) := by
  have hbin : ∀ c, (s.setQueue q (s.queue q).tail).bin c = s.bin c := bin_of_eq (State.setQueue_bnm s q _)
  have hopened : ∀ l, openedBreaks (s.setQueue q (s.queue q).tail) l = openedBreaks s l := fun l => by
    simp only [openedBreaks, State.openingOf, State.setQueue_stu]
  obtain ⟨hclaim, hpointer, hlines, hrequests, hnotices⟩ := claimWithEffect_opens (s := s.setQueue q (s.queue q).tail)
    (b := b) (slot := e.slot) (st := st) (by rw [hbin]; exact hready) (by rw [State.setQueue_lines]; exact hdoor)
  rw [reserved_claims h]
  refine ⟨fun c => ?_, ?_, ?_, ?_, fun hroom => ?_⟩
  · rw [bin_reserve, hclaim, hclaim]
    simp only [hbin]
    by_cases hc : b = c <;> simp [hc]
  · rw [pointer_reserve, hpointer, State.setQueue_bnm]
  · simpa using hlines
  · rw [hopened, hbin, State.setQueue_requests] at hrequests
    simpa using hrequests
  · rw [State.setQueue_cpt, hbin] at hnotices
    simpa using hnotices hroom

end Reserved

/-! ## The statement -/

/-- The bin of a first admission is claimable: READY (R58). -/
theorem ready_of_claim {s : State} {st : Statement} {b : Bin} (hbin : binFor s st = some b) (hnone : st.bin = none) :
    (s.bin b).state = .ready := by
  have hclaimable : ∀ role, claimable s role b = true → (s.bin b).state = .ready := fun role h =>
    ((claimable_iff s role b).mp h).2.1
  obtain ⟨-, hoversize, hstandard⟩ := binFor_cases s st
  cases hclass : st.binClass with
  | oversize =>
    rw [hoversize hnone hclass] at hbin
    exact hclaimable _ (List.find?_some hbin)
  | standard =>
    rw [hstandard hnone hclass] at hbin
    have hqualifies := List.find?_some hbin
    rw [qualifies, Bool.and_eq_true] at hqualifies
    exact hclaimable _ hqualifies.1

/-- The command of a tray grant with its door flag: by itself, or an opening within the decision that claims the bin. -/
theorem effect_trayGrant {s : State} {c : Instr} {meets : Bool} {b : Bin} {bin : Option Bin}
    (hc : (c = .trayGrant ∧ meets = false) ∨
      (c = .binDoorOpened ⟨b, true⟩ ∧ meets = true ∧ bin = none ∧ s.lines.doors[b.idx] = false))
    (hclaim : bin = none → grantClaim s = some b) : effect c s = trayGrant meets s := by
  rcases hc with ⟨rfl, rfl⟩ | ⟨rfl, rfl, hnone, hdoor⟩
  · rfl
  · exact meetDoor_claim hdoor (hclaim hnone)

/-- What a grant leaves of its bin: the reservation, and with a first admission the claim (R58, R129, R136). -/
theorem bins_of_grant {s u : State} {q : Queue} {e : Entry} {st : Statement} {b : Bin} {meets : Bool}
    (hgeneration : st.generation = e.generation) (hbin : binFor s st = some b)
    (hmeets : meets = true → st.bin = none ∧ s.lines.doors[b.idx] = false)
    (hu : u = s.setBin b { s.bin b with
      stacking := (s.bin b).stacking ++ [{ slot := e.slot, generation := e.generation }] }) :
    (st.bin = some b → (reserved s q e st b meets).bin b = { s.bin b with reserved := (s.bin b).reserved + 1 } ∧
      (reserved s q e st b meets).bnm.pointer = s.bnm.pointer) ∧
    (st.bin = none → (reserved s q e st b meets).bin b = { s.bin b with
        reserved := (s.bin b).reserved + 1
        stacking := (s.bin b).stacking ++ [{ slot := e.slot, generation := e.generation }]
        state := if meets then .doorOpen
          else if (s.bin b).spoil ≠ [] ∧ 4 ≤ fenceCount u b then .fenced else .ready } ∧
      (s.bin b).state = .ready ∧
      (reserved s q e st b meets).bnm.pointer = if st.binClass = .standard then b else s.bnm.pointer) ∧
    (∀ c, c ≠ b → (reserved s q e st b meets).bin c = s.bin c) ∧
    (reserved s q e st b meets).lines =
      (if meets then { s.lines with doors := s.lines.doors.set b.idx true } else s.lines) ∧
    (reserved s q e st b meets).requests = { s.requests with breaks := s.requests.breaks ++
      (if meets then openedBreaks s ((s.bin b).stacking ++ [{ slot := e.slot, generation := e.generation }]) else []) } ∧
    (meets = true → s.cpt.notices.length < 32 →
      (reserved s q e st b meets).cpt.notices = s.cpt.notices ++ [.bin b .doorOpen (s.bin b).fill]) := by
  rw [← hgeneration] at hu ⊢
  cases hheld : st.bin with
  | some c =>
    obtain ⟨hbins, hpointer, hlines, hrequests⟩ := reserved_held (q := q) (e := e) (b := b) (d := meets) (s := s)
      (st := st) (by rw [hheld]; rfl)
    have hclosed : meets = false := by
      cases meets with
      | false => rfl
      | true => exact absurd (hmeets rfl).1 (by simp [hheld])
    subst hclosed
    refine ⟨fun _ => ⟨(hbins b).trans (if_pos rfl), hpointer⟩, nofun, fun c hc => (hbins c).trans (if_neg hc.symm),
      hlines, ?_, nofun⟩
    simp [hrequests]
  | none =>
    have hready := ready_of_claim hbin hheld
    cases meets with
    | false =>
      obtain ⟨hbins, hpointer, hlines, hrequests⟩ := reserved_closed (q := q) (e := e) (s := s) (by rw [hheld]; rfl) hready hu
      refine ⟨nofun, fun _ => ⟨(hbins b).trans (if_pos rfl), hready, hpointer⟩,
        fun c hc => (hbins c).trans (if_neg hc.symm), hlines, ?_, nofun⟩
      simp [hrequests]
    | true =>
      obtain ⟨hbins, hpointer, hlines, hrequests, hnotices⟩ := reserved_opens (q := q) (e := e) (s := s)
        (by rw [hheld]; rfl) hready (hmeets rfl).2
      exact ⟨nofun, fun _ => ⟨(hbins b).trans (if_pos rfl), hready, hpointer⟩,
        fun c hc => (hbins c).trans (if_neg hc.symm), hlines, hrequests, fun _ => hnotices⟩

/-- The times of a launch (R53, R54). -/
theorem launch_times (s : State) (tray : Tray) (b : Bin) (plex : Plex) :
    (s.adm.previous = none → nextSlotCount s b plex = none ∧ launchCount s tray b plex = s.tsv.pathCount) ∧
    (∀ g next launch, s.adm.previous = some g →
      next = g.predicted + BitVec.ofNat 32 g.length + BitVec.ofNat 32 (s.limit .minimumGap) +
        (if g.target ≠ b ∨ g.plex ≠ plex then BitVec.ofNat 32 (s.limit .routeChangeGap) else 0) →
      launch = next - BitVec.ofNat 32 (s.limit .pickDistance) - BitVec.ofNat 32 (s.leg (regLegOf tray)) →
      nextSlotCount s b plex = some next ∧
      launchCount s tray b plex = if isLater launch s.tsv.pathCount then launch else s.tsv.pathCount) := by
  refine ⟨fun hnone => ?_, fun g next launch hg hnext hlaunch => ?_⟩
  · have hslot := nextSlotCount_none hnone b plex
    refine ⟨hslot, ?_⟩
    rw [launchCount, hslot]
    rfl
  · have hslot := nextSlotCount_some hg b plex
    rw [← hnext] at hslot
    refine ⟨hslot, ?_⟩
    rw [launchCount, hslot, hlaunch]
    rfl

/-- Settles O13: the decision is `trayGrant_award`, and each block after it is its own lemma. -/
theorem trayGrantAdmitsTheHead : Obligations.TrayGrantAdmitsTheHead := by
  refine ⟨?_, fun s tray b plex => ?_, fun s b slot generation h => appendStacked_doorOpen slot generation h⟩
  case refine_2 =>
    obtain ⟨hnone, hsome⟩ := launch_times s tray b plex
    refine ⟨hnone, fun g next launch hg hnext hlaunch => hsome g next launch hg hnext ?_, fun launch => ?_, isLater_iff⟩
    · rw [hlaunch]
      cases tray <;> rfl
    · cases tray <;> rfl
  case refine_1 =>
    intro s u c meets q e rest st b tag hc hrun hfree hrelease haward hqueue hst hg hbin htag hlowest hu
    have hchoose := chooseHead_awards haward
    generalize hn : (if q = .restart ∧ evaluate s .new = .none_ then s.adm.starvation + 1 else 0) = n at hchoose
    have hpair := ofPair_eq_some hst hg
    have hfreeTag := freeTag_eq_some.mpr ⟨htag, hlowest⟩
    have hgrant := trayGrant_award meets hrun hfree hrelease hchoose hqueue hpair hfreeTag hbin
    have heffect := effect_trayGrant hc (grantClaim_award hrun hfree hrelease hchoose hqueue hpair hfreeTag hbin)
    have hmeets : meets = true → st.bin = none ∧ s.lines.doors[b.idx] = false := by
      rintro rfl
      rcases hc with ⟨-, h⟩ | ⟨-, -, hnone, hdoor⟩
      · cases h
      · exact ⟨hnone, hdoor⟩
    have hw := evaluateBoth_eq s
    generalize evaluateBoth s = w at hgrant hw
    have hwqueue : ∀ p, w.queue p = s.queue p := fun p => by rw [hw]; cases p <;> rfl
    have hwsheet : ∀ v, w.sheet v = s.sheet v := fun v => by rw [hw]; rfl
    have hwstatement : ∀ j, w.statement j = s.statement j := fun j => by rw [hw]; rfl
    have hwbin : ∀ c, w.bin c = s.bin c := fun c => by rw [hw]; rfl
    have hwpair : w.ofPair e.slot e.generation = some st := by rw [hw]; exact hpair
    have hwopened : ∀ l, openedBreaks w l = openedBreaks s l := fun l => by rw [hw]; rfl
    have hwlaunch : launchCount w e.tray b st.plex = launchCount s e.tray b st.plex := by rw [hw]; rfl
    obtain ⟨hheld, hnew, hother, hlines, hrequests, hnotices⟩ := bins_of_grant (s := w) (q := q) (e := e) (meets := meets)
      hg (by rw [hw]; exact hbin) (by rw [hw]; exact hmeets) rfl
    have hcount := fenceCount_congr (s := u) (b := b)
      (u := w.setBin b { w.bin b with stacking := (w.bin b).stacking ++ [{ slot := e.slot, generation := e.generation }] })
      (by rw [hu, hw]; rfl) (by rw [hu, State.bin_setBin, State.bin_setBin, hwbin])
    rw [hcount] at hnew
    simp only [hwbin, hwopened] at hheld hnew hother hlines hrequests hnotices
    obtain ⟨hbnm, hrestLines, hcpt⟩ := rest_grantSteps w q e st b tag n meets
    have hasks := requests_grantSteps w q e st b tag n meets hwpair
    obtain ⟨hpick, hprevious, hstarvation⟩ := adm_grantSteps w q e st b tag n meets
    have htsq := tsq_grantSteps w q e st b tag n meets
    have hstatement := statement_grantSteps w q e st b tag n meets hwpair
    obtain ⟨-, hptk, hgsc, hjam, htsv, hprofile⟩ := grantSteps_frame w q e st b tag n meets
    refine ⟨_, runs_of_effect (heffect.trans hgrant), ?_, fun v hv => ?_, ?_, fun p hp => ?_, ?_, fun j hj => ?_,
      fun hb => ?_, fun hb => ?_, fun c hc => ?_, ?_, ?_, ?_, ?_, hstarvation, fun hstate => ?_, fun hstate => ?_, ?_, ?_,
      fun hm hroom => ?_, ?_, ?_, ?_, ?_, ?_⟩
    · rw [sheet_grantSteps, if_pos rfl, newSheet_reserved, hw]
      rfl
    · rw [sheet_grantSteps, if_neg hv.symm, hwsheet]
    · rw [queue_grantSteps, if_pos rfl, hwqueue, hqueue]
      rfl
    · rw [queue_grantSteps, if_neg hp.symm, hwqueue]
    · rw [hstatement, if_pos rfl]
      cases hheldBin : st.bin with
      | none => rfl
      | some c =>
        have hsame : some c = some b := by simpa [binFor, hheldBin] using hbin
        rw [← hsame]
        rfl
    · rw [hstatement, if_neg hj.symm, hwstatement]
    · rw [bin_of_eq hbnm, hbnm, (hheld hb).1, (hheld hb).2, hw]
      exact ⟨rfl, rfl⟩
    · rw [bin_of_eq hbnm, hbnm]
      obtain ⟨hclaimed, hready, hpointer⟩ := hnew hb
      exact ⟨hclaimed, hready, hpointer.trans (by rw [hw])⟩
    · rw [bin_of_eq hbnm, hother c hc]
    · rw [htsq, hw]
      rfl
    · rw [htsq, hw]
    · rw [hpick, hwlaunch]
    · rw [hprevious, hw]
      rfl
    · have hopen : ¬st.state.ended = true := by rcases hstate with h | h <;> rw [h] <;> decide
      rw [hasks, if_neg hopen, hrequests, hw]
      exact ⟨rfl, rfl⟩
    · rw [hasks, if_pos ((ended_iff _).mpr hstate), hrequests, hw]
      exact ⟨rfl, rfl⟩
    · rw [hrestLines, hlines, hw]
    · have hbreaks : (grantSteps w q e st b tag n meets).requests.breaks = (reserved w q e st b meets).requests.breaks := by
        rw [hasks]
        split <;> rfl
      rw [hbreaks, hrequests, hw]
      rfl
    · rw [hcpt, hnotices hm (by rw [hw]; exact hroom), hw]
    · rw [htsv, hw]
    · rw [hptk, hw]
    · rw [hgsc, hw]
    · rw [hjam, hw]
    · rw [hprofile, hw]

end Sys2Proof.Machine
end

section
/-! Missed pitches, sensor lines and encoder pulses (R73 to R76, R88, R163). -/

namespace Sys2Proof.Machine

set_option Elab.async false

/-! ## A missed pitch (R76) -/

section Missed
variable (s : State) (p : Pitch) (reason : MissReason)

theorem missPitch_tsq : (missPitch s p reason).tsq = { s.tsq with pitches := s.tsq.pitches.map fun q =>
    if q.tag = p.tag then { q with state := .missed, reason := some reason } else q } := by
  rw [missPitch]
  simp only [State.askBreak, State.claimCondemn, State.notify_tsq, claimSide_frame]
  rfl

theorem sheet_missPitch (u : Tag) : (missPitch s p reason).sheet u = (s.sheet u).map fun r =>
    if u = p.tag ∧ r.slot = p.slot ∧ r.generation = p.generation then
      (match p.side with
        | .front => { r with front := .missed }
        | .back => { r with back := some .missed })
    else r := by
  have hsheet : (missPitch s p reason).sheet u = (claimSide (s.updatePitch p.tag fun q =>
      { q with state := .missed, reason := some reason }) p.tag p.slot p.generation p.side .missed).sheet u := by
    rw [missPitch]
    simp only [State.sheet, State.askBreak, State.claimCondemn, State.notify_sheets]
  rw [hsheet, sheet_claimSide]
  by_cases hu : p.tag = u
  · subst hu
    simp only [if_true, true_and, Sheet.owner, Owner.mk.injEq, State.sheet, State.updatePitch_sheets] <;> rfl
  · rw [if_neg hu]
    simp only [Ne.symm hu, false_and, if_false]
    exact (Option.map_id' (x := s.sheet u)).symm

theorem notices_missPitch (hroom : s.cpt.notices.length < 32) : (missPitch s p reason).cpt.notices =
    s.cpt.notices ++ [.pitchMissed p.call p.tag p.side p.slot p.page reason] := by
  have hcpt : ∀ f v, (claimSide (s.updatePitch p.tag f) p.tag p.slot p.generation p.side v).cpt = s.cpt := by simp
  rw [missPitch]
  simp only [State.askBreak, State.claimCondemn]
  rw [State.notify_room _ _ (by rwa [hcpt])]
  simp

theorem requests_missPitch : (missPitch s p reason).requests = { s.requests with
    condemns := s.requests.condemns ++
      [{ tag := some p.tag, slot := p.slot, generation := p.generation, cause := .blank }]
    breaks := s.requests.breaks ++
      [{ slot := p.slot, generation := p.generation, cause := .blank, opening := none }] } := by
  rw [missPitch]
  simp only [State.askBreak, State.claimCondemn, State.notify_requests, claimSide_frame, State.updatePitch_requests]

end Missed

/-! ## SIDE FAIL (R75) -/

/-- Check 1: a tag or a side outside its range. -/
theorem takeSideFail_outOfRange {call tw sw : Word} (s : State) (h : 47 < tw.toNat ∨ 1 < sw.toNat) :
    takeSideFail [call, tw, sw] s = s.refuse .badArgument := by
  rcases h with ht | hs
  · simp only [takeSideFail, argTag_eq_none ht]
  · cases ht : argTag tw <;> simp only [takeSideFail, ht, argSide_eq_none hs]

/-- Check 2: no pitch has the call number, the tag and the side. -/
theorem takeSideFail_unnamed {s : State} {call : Word} {tag : Tag} {side : Side}
    (h : s.calledPitch call tag side = none) :
    takeSideFail [call, tagCode tag, side.code] s = s.refuse .unknown := by
  simp only [takeSideFail, argTag_code, argSide_code, h]

/-- The pitch named: its state decides. -/
theorem takeSideFail_named {s : State} {call : Word} {tag : Tag} {side : Side} {p : Pitch}
    (h : s.calledPitch call tag side = some p) :
    takeSideFail [call, tagCode tag, side.code] s = match p.state with
      | .called | .ready => (missPitch s p .fail, (.ok, []))
      | .missed => if p.late then s.refuse .late else s.refuse .unknown
      | .imaging => s.refuse .state := by
  simp only [takeSideFail, argTag_code, argSide_code, h] <;> rfl

/-- SIDE FAIL answers what its take answers, with the state it leaves. -/
theorem answers_sideFail {s u : State} {ws : List Word} {code : ResultCode} {values : List Word}
    (hport : PortHolds s ws) (hn : ws.length = 3) (ht : takeSideFail ws s = (u, (code, values))) :
    Answers .sideFail s u code values :=
  answers_of_effect takeSideFail rfl hport hn ht

/-! ## The deadline (R73) -/

theorem expireDeadline_named {s : State} {tag : Tag} {p : Pitch} (h : s.pitchOf tag = some p) :
    expireDeadline s tag = if p.state = .called ∧ s.tsq.halted = false ∧ reaches s.now p.deadline = true then
      missPitch s p .deadline else s := by
  simp only [expireDeadline, h, Bool.not_eq_true']

/-- Settles O19: the checks of SIDE FAIL in order, the conditions of an expiry, and the fields of a missed pitch. -/
theorem missedPitchesSpoilTheirSheet : Obligations.MissedPitchesSpoilTheirSheet := by
  refine ⟨fun s call tw sw hport hrange => answers_sideFail hport rfl (takeSideFail_outOfRange s hrange),
    fun s call tag side hport => ⟨fun hnone => ?_, fun p hp => ?_⟩, fun s tag p hp => ⟨?_, ?_⟩, fun s p reason =>
      ⟨missPitch_tsq s p reason, sheet_missPitch s p reason, notices_missPitch s p reason,
        requests_missPitch s p reason⟩⟩
  · exact answers_sideFail hport rfl (takeSideFail_unnamed (calledPitch_eq_none.mpr hnone))
  · have htake := takeSideFail_named hp
    refine ⟨fun hmissed hlate => ?_, fun hmissed hlate => ?_, fun himaging => ?_, fun hopen => ?_⟩ <;>
      refine answers_sideFail hport rfl (htake.trans ?_)
    · rw [hmissed]
      exact if_pos ((late_iff p).mpr ⟨hmissed, hlate⟩)
    · rw [hmissed]
      exact if_neg (by simp [late_iff, hlate])
    · rw [himaging]
      rfl
    · rcases hopen with hcalled | hready
      · rw [hcalled]
      · rw [hready]
  · exact fun hcalled hhalted hdue => runs_of_effect ((expireDeadline_named hp).trans
      (if_pos ⟨hcalled, hhalted, hdue⟩))
  · intro hnot
    refine runs_of_effect ((expireDeadline_named hp).trans (if_neg ?_))
    rintro ⟨hcalled, hhalted, hdue⟩
    rcases hnot with h | h | h
    · exact h hcalled
    · simp [h] at hhalted
    · simp [h] at hdue

/-! ## Encoder pulses (R163) -/

/-- What a pulse does to the transport record while it is counted, before the span is measured. -/
theorem pulse_counted {s : State} {elapsed : Nat} (hruns : s.runs = true) (hbackup : s.tsv.backup = false) :
    pulse s elapsed = measure { s with tsv := { (if s.tsv.encoderLost then { s.tsv with pulseSince := true }
      else s.tsv) with pathCount := s.tsv.pathCount + 1, silenceWatch := true } } elapsed := by
  have hruns' : (notePulse s).runs = true := by
    rw [notePulse]
    split <;> exact hruns
  have hbackup' : (notePulse s).tsv.backup = false := by
    rw [notePulse]
    split <;> exact hbackup
  rw [pulse, if_pos (by simp [hruns', hbackup'])]
  rw [notePulse, advance]
  split <;> rfl

theorem storedRate_range (time : Nat) : 1 ≤ storedRate time ∧ storedRate time ≤ 65535 := by
  rw [storedRate]
  split
  · assumption
  · have := (Config.rateOutOfRange time).isLt
    omega

theorem storedRate_eq {time : Nat} (hlow : 1 ≤ spanRate time) (hhigh : spanRate time ≤ 65535) :
    storedRate time = spanRate time :=
  if_pos ⟨hlow, hhigh⟩

theorem spanRate_eq (time : Nat) : spanRate time = 500000000000 / time := rfl

theorem inStartBand_iff (rate : Nat) : inStartBand rate = true ↔ 3800 ≤ rate ∧ rate ≤ 4200 := by
  rw [inStartBand, Bool.and_eq_true]
  exact and_congr decide_eq_true_iff decide_eq_true_iff

/-- The state whose span has just ended, with its rate written and the next span begun. -/
def spanEnded (s : State) (time : Nat) : State :=
  { s with tsv := { s.tsv with rate := some (storedRate time), span := some { counts := 0, time := 0 } } }

theorem endSpan_eq (s : State) (time : Nat) : endSpan s time =
    if s.tsv.state = .starting ∧ inStartBand (spanRate time) = true then startComplete (spanEnded s time)
    else spanEnded s time := rfl

/-- A span ended keeps the run lines and the path count, and writes the rate and the next span. -/
theorem endSpan_tsv (s : State) (time : Nat) : (endSpan s time).tsv.rate = some (storedRate time) ∧
    (endSpan s time).tsv.span = some { counts := 0, time := 0 } ∧
    (endSpan s time).tsv.pathCount = s.tsv.pathCount ∧ (endSpan s time).tsv.mainRun = s.tsv.mainRun ∧
    (endSpan s time).tsv.outputRun = s.tsv.outputRun := by
  rw [endSpan_eq]
  split <;> simp [startComplete, enter, spanEnded]

theorem endSpan_complete {s : State} {time : Nat} (hstate : s.tsv.state = .starting)
    (hband : inStartBand (spanRate time) = true) : endSpan s time = startComplete (spanEnded s time) :=
  if_pos ⟨hstate, hband⟩

theorem startComplete_tsv (s : State) : (startComplete s).tsv = { s.tsv with
    state := .running, cause := some .startComplete, encoderLost := false, pulseSince := false, startCount := none } := by
  simp [startComplete, enter]

theorem notices_startComplete (s : State) (hroom : s.cpt.notices.length < 32) :
    (startComplete s).cpt.notices = s.cpt.notices ++ [.transport .running .startComplete .none_] := by
  rw [startComplete, enter, State.notify_room _ _ (by exact hroom)]

theorem measure_first {s : State} {elapsed : Nat} (h : s.tsv.span = none) : measure s elapsed =
    { s with tsv := { s.tsv with span := some { counts := 1, time := 0 } } } := by
  simp only [measure, h]

theorem measure_open {s : State} {elapsed : Nat} {p : Span} (h : s.tsv.span = some p) (hopen : p.counts < 499) :
    measure s elapsed =
      { s with tsv := { s.tsv with span := some { counts := p.counts + 1, time := p.time + elapsed } } } := by
  simp only [measure, h, Config.spanCounts]
  exact if_pos (by omega)

theorem measure_full {s : State} {elapsed : Nat} {p : Span} (h : s.tsv.span = some p) (hfull : 499 ≤ p.counts) :
    measure s elapsed = endSpan s (p.time + elapsed) := by
  simp only [measure, h, Config.spanCounts]
  exact if_neg (by omega)

/-- Settles O48: a pulse is noted, and while the path runs on the encoder it is counted and measured. -/
theorem encoderPulsesCountAndMeasure : Obligations.EncoderPulsesCountAndMeasure := by
  rintro s elapsed v rfl
  refine ⟨fun hidle => runs_of_effect ?_, fun hrun hbackup => ?_⟩
  · rw [effect, pulse]
    dsimp only
    rw [if_neg]
    · rw [notePulse]
      split <;> rfl
    · have hnote : (notePulse s).tsv.mainRun = s.tsv.mainRun ∧ (notePulse s).tsv.outputRun = s.tsv.outputRun ∧
          (notePulse s).tsv.backup = s.tsv.backup := by
        rw [notePulse]
        split <;> exact ⟨rfl, rfl, rfl⟩
      rw [State.runs, hnote.1, hnote.2.1, hnote.2.2]
      rcases hidle with ⟨hmain, houtput⟩ | hbackup
      · simp [hmain, houtput]
      · simp [hbackup]
  have hruns : s.runs = true := by
    rw [State.runs]
    rcases hrun with h | h <;> simp [h]
  generalize hv : (if s.tsv.encoderLost then { s.tsv with pulseSince := true } else s.tsv) = v
  have hpulse := pulse_counted (elapsed := elapsed) hruns hbackup
  rw [hv] at hpulse
  have hfields : v.span = s.tsv.span ∧ v.state = s.tsv.state ∧ v.mainRun = s.tsv.mainRun ∧
      v.outputRun = s.tsv.outputRun ∧ v.cause = s.tsv.cause ∧ v.encoderLost = s.tsv.encoderLost := by
    rw [← hv]
    split <;> exact ⟨rfl, rfl, rfl, rfl, rfl, rfl⟩
  obtain ⟨hspan, hstate, hmain, houtput, hcause, hlost⟩ := hfields
  refine ⟨fun hnone => runs_of_effect ?_, fun p hp hopen => runs_of_effect ?_, fun p hp hfull => ?_⟩
  · rw [effect, hpulse, measure_first (hspan.trans hnone)]
  · rw [effect, hpulse, measure_open (hspan.trans hp) hopen]
  · rw [measure_full (hspan.trans hp) hfull] at hpulse
    rw [← spanRate_eq]
    generalize hu : ({ s with tsv := { v with pathCount := s.tsv.pathCount + 1, silenceWatch := true } } : State) = u
      at hpulse
    have hustate : u.tsv.state = s.tsv.state := by rw [← hu]; exact hstate
    obtain ⟨hrate, hnext, hcount, hmainRun, houtputRun⟩ := endSpan_tsv u (p.time + elapsed)
    refine ⟨_, storedRate (p.time + elapsed), runs_of_effect hpulse, hcount.trans (by rw [← hu]), hrate,
      (storedRate_range _).1, (storedRate_range _).2, storedRate_eq, hnext, hmainRun.trans (by rw [← hu]; exact hmain),
      houtputRun.trans (by rw [← hu]; exact houtput), fun hstarting hlow hhigh => ?_, fun hnot => ?_, ?_⟩
    · rw [endSpan_complete (hustate.trans hstarting) ((inStartBand_iff _).mpr ⟨hlow, hhigh⟩), startComplete_tsv]
      refine ⟨rfl, rfl, rfl, rfl, fun hroom => ?_⟩
      have hnotices : (spanEnded u (p.time + elapsed)).cpt.notices = s.cpt.notices := by rw [← hu]; rfl
      rw [notices_startComplete _ (by rwa [hnotices]), hnotices]
    · have hkept : endSpan u (p.time + elapsed) = spanEnded u (p.time + elapsed) := by
        refine if_neg ?_
        rw [hustate, inStartBand_iff]
        rintro ⟨hstarting, hlow, hhigh⟩
        rcases hnot with h | h | h
        · exact h hstarting
        · omega
        · omega
      rw [hkept, ← hu]
      exact ⟨hstate, hcause, hlost⟩
    · rw [← hu]
      simp

/-! ## The start limit, the supply warning and the end of a drain (R165, R167, R168, R171) -/

section StopEvent
variable {s : State} (cause : TransportCause)

theorem stopEvent_running (h : s.tsv.state = .running) : stopEvent s cause = beginDrain s cause := by
  simp only [stopEvent, h]

theorem stopEvent_starting (h : s.tsv.state = .starting) : stopEvent s cause = endStart s cause .none_ := by
  simp only [stopEvent, h]

theorem stopEvent_other (hrunning : s.tsv.state ≠ .running) (hstarting : s.tsv.state ≠ .starting) :
    stopEvent s cause = s := by
  rw [stopEvent]
  split <;> first | contradiction | rfl

end StopEvent

theorem notices_setSupply {s : State} (v : Bool) (hroom : s.cpt.notices.length < 32) :
    (setSupply s v).cpt.notices = s.cpt.notices ++ [.supply v s.tsv.state] := by
  rw [setSupply, State.notify_room _ _ (by exact hroom)]

theorem setSupply_reads (s : State) (v : Bool) : (setSupply s v).tsv = s.tsv ∧
    (setSupply s v).lines = { s.lines with supplyWarning := v } ∧ (setSupply s v).sheets = s.sheets ∧
    (setSupply s v).stu = s.stu ∧ (setSupply s v).bnm = s.bnm ∧ (setSupply s v).gsc = s.gsc ∧
    (setSupply s v).tsq = s.tsq := by
  simp [setSupply]

theorem tsv_completeDrain (s : State) : (completeDrain s).tsv = { s.tsv with
    state := .stopped
    cause := some .drainComplete
    mainRun := false
    outputRun := false
    span := none
    silenceWatch := false } := by
  have hclear : (clearGates (withdrawBoth s)).tsv = (withdrawBoth s).tsv := by simp
  rw [completeDrain, tsv_enter, hclear, tsv_withdrawBoth]

theorem gsc_completeDrain (s : State) : (completeDrain s).gsc = Gates.atReset := by
  have h := (enter_frame (clearGates (withdrawBoth s)) .stopped .drainComplete .none_).2.2.2.2.2.2.1
  exact h

theorem notices_completeDrain {s : State} (hroom : s.cpt.notices.length < 32) :
    (completeDrain s).cpt.notices = s.cpt.notices ++ [.transport .stopped .drainComplete .none_] := by
  have hcpt : (clearGates (withdrawBoth s)).cpt = s.cpt := by simp
  rw [completeDrain, notices_enter _ _ _ (by rwa [hcpt]), hcpt]

theorem gate_atReset (g : Gate) : Gates.atReset.records[g.idx] = { hold := none, waiting := [] } := by
  cases g <;> rfl

/-- Settles O50: each event is its condition and one operation of the transport; `stopEvent` by the transport state. -/
theorem startLimitSupplyAndDrainEnd : Obligations.StartLimitSupplyAndDrainEnd := by
  refine ⟨fun s => ⟨fun hstarting => ?_, fun hother => runs_of_effect (if_neg hother)⟩, fun s hoff => ?_, fun s hon =>
    runs_of_effect (if_pos hon), fun s => ⟨fun hdraining hempty => ?_, fun hnot => runs_of_effect (if_neg ?_)⟩⟩
  · exact ⟨_, runs_of_effect (if_pos hstarting), tsv_endStart s .startFailed .timeout,
      notices_endStart .startFailed .timeout⟩
  · obtain ⟨htsv, hlines, hsheets, hstu, hbnm, hgsc, htsq⟩ := setSupply_reads s true
    generalize hu : setSupply s true = u at htsv hlines hsheets hstu hbnm hgsc htsq
    have heffect : effect .supplyWarningAsserted s = stopEvent u .supply := by
      rw [← hu]
      exact if_neg (by simp [hoff])
    have hnotices : s.cpt.notices.length < 31 → u.cpt.notices = s.cpt.notices ++ [.supply true s.tsv.state] :=
      fun hroom => by rw [← hu, notices_setSupply true (by omega)]
    have hroomAfter : s.cpt.notices.length < 31 → u.cpt.notices.length < 32 := fun hroom => by
      rw [hnotices hroom, List.length_append]
      exact Nat.succ_lt_succ hroom
    refine ⟨_, runs_of_effect heffect, ?_, fun hrunning hstarting => ?_, fun hrunning => ?_, fun hstarting => ?_,
      fun hroom => ?_, ?_⟩
    · rw [← hlines]
      simp
    · rw [stopEvent_other .supply (by rwa [htsv]) (by rwa [htsv]), htsv]
    · rw [stopEvent_running .supply (by rwa [htsv]), beginDrain, tsv_enter, htsv]
    · rw [stopEvent_starting .supply (by rwa [htsv]), tsv_endStart, htsv]
    · by_cases hrunning : s.tsv.state = .running
      · rw [stopEvent_running .supply (by rwa [htsv]), beginDrain, notices_enter _ _ _ (hroomAfter hroom),
          hnotices hroom, if_pos hrunning, List.append_assoc]
        rfl
      · rw [if_neg hrunning]
        by_cases hstarting : s.tsv.state = .starting
        · rw [stopEvent_starting .supply (by rwa [htsv]), notices_endStart _ _ (hroomAfter hroom),
            hnotices hroom, if_pos hstarting, List.append_assoc]
          rfl
        · rw [stopEvent_other .supply (by rwa [htsv]) (by rwa [htsv]), hnotices hroom, if_neg hstarting]
    · rw [← hsheets, ← hstu, ← hbnm, ← hgsc, ← htsq]
      simp
  · refine ⟨completeDrain s, runs_of_effect (if_pos ⟨hdraining, (live_eq_zero_iff s).mpr hempty⟩), tsv_completeDrain s,
      fun g => ?_, by rw [gsc_completeDrain]; rfl, by rw [gsc_completeDrain]; rfl, notices_completeDrain⟩
    rw [State.gate, gsc_completeDrain]
    exact gate_atReset g
  · rintro ⟨hdraining, hlive⟩
    rcases hnot with hstate | ⟨tag, htag⟩
    · exact hstate hdraining
    · exact htag ((live_eq_zero_iff s).mp hlive tag)

/-! ## The levels under a lead or a trail (R88, R89) -/

/-- The levels of the sensors, the debounces in progress, the freeze and the snapshot: what no lead, no trail and no expiry
writes. -/
def levels (s : State) : Vector Bool 14 × Vector (Option Count) 14 × Bool × Snapshot :=
  (s.ptk.debounced, s.ptk.debounce, s.ptk.frozen, s.ptk.snapshot)

theorem levels_of_ptk {s u : State} (h : u.ptk = s.ptk) : levels u = levels s := by
  rw [levels, levels, h]

theorem levels_handFault (s : State) (cause : JamCause) (x : Sensor) (tag : Option Tag) :
    levels (s.handFault cause x tag) = levels s := rfl

theorem levels_expect (s : State) (x : Sensor) (e : Expectation) : levels (expect s x e) = levels s := by
  rw [expect]
  split <;> rfl

theorem levels_nextEntry (s : State) (t : Tag) (o : Owner) (x : Sensor) (c : Count) :
    levels (nextEntry s t o x c) = levels s := by
  rw [nextEntry]
  split
  · rfl
  · split
    · exact levels_expect s _ _
    · split <;> rfl

theorem levels_startBurst (s : State) (t : Tag) (before : Option Sheet) (c : Count) :
    levels (startBurst s t before c) = levels s := by
  unfold startBurst
  split
  · rfl
  · split <;> rfl

theorem levels_handLead (s : State) (t : Tag) (o : Owner) (x : Sensor) (before : Option Sheet) (c : Count) :
    levels (handLead s t o x before c) = levels s := by
  cases x
  case reg => exact (levels_startBurst _ t before c).trans (levels_of_ptk (by simp))
  all_goals exact levels_of_ptk (by simp [handLead])

theorem levels_acceptLead (s : State) (x : Sensor) (e : Expectation) (c : Count) :
    levels (acceptLead s x e c) = levels s := by
  rw [acceptLead]
  rw [levels_handLead, levels_nextEntry, levels_of_ptk (s := dropEntry s x e) (by simp)]
  exact rfl

theorem levels_misfeed (s : State) (t : Tag) : levels (misfeed s t) = levels s := by
  simp [levels]

theorem levels_expireEntry (s : State) (x : Sensor) (e : Expectation) : levels (expireEntry s x e) = levels s := by
  rw [expireEntry]
  split
  · exact levels_misfeed _ e.tag
  · exact rfl

theorem levels_foldl {α : Type} {g : State → α → State} (h : ∀ u a, levels (g u a) = levels u) (l : List α) (s : State) :
    levels (l.foldl g s) = levels s :=
  foldl_induction (P := fun u => levels u = levels s) rfl fun u a _ hu => (h u a).trans hu

theorem levels_lead (s : State) (x : Sensor) (c : Count) : levels (lead s x c) = levels s := by
  have hoverdue : levels (expireOverdue s x c) = levels s := levels_foldl (fun u e => levels_expireEntry u x e) _ s
  rw [lead]
  split
  · exact hoverdue
  · split
    · exact hoverdue
    · split
      · exact hoverdue
      · rw [levels_acceptLead, hoverdue]

theorem levels_matchTrail (s : State) (x : Sensor) (c : Count) (later : Bool) :
    levels (matchTrail s x c later) = levels s := by
  simp [levels]

theorem levels_trail (s : State) (x : Sensor) (c : Count) (later : Bool) : levels (trail s x c later) = levels s := by
  unfold trail
  split
  · split
    · rw [judgeRelease]
      split
      · rfl
      · split
        · rfl
        · split <;> rfl
    · exact levels_matchTrail s _ c later
  · split
    · simp [levels]
    · rfl

/-- An accepted edge leaves its level and no debounce, whatever the arrival does. -/
theorem levels_acceptEdge (s : State) (x : Sensor) (c : Count) (later : Bool) :
    levels (acceptEdge s x c later) = levels (setLevel s x (s.lineCovered x)) := by
  rw [acceptEdge]
  split
  · split
    · exact levels_lead _ x c
    · exact levels_trail _ x c later
  · rfl

/-! ## Sensor lines (R88) -/

theorem lineCovered_toggleSensor (s : State) (x : Sensor) :
    (toggleSensor s x).lineCovered x = !s.lineCovered x := by
  rw [State.lineCovered, State.lineCovered]
  cases hp : s.profile.polarity[x.idx] <;> simp [toggleSensor, hp]

theorem completeDebounce_waits {s : State} {x : Sensor} {later : Bool} (h : ∀ c, s.debouncing x = some c →
    s.runs = true ∧ reaches s.now (plus c (s.limit .debounceDistance)) = false) :
    completeDebounce s x later = s := by
  rw [completeDebounce]
  split
  · rfl
  case h_2 c hc => exact if_neg (by simp [h c hc])

theorem completeDebounce_due {s : State} {x : Sensor} {c : Count} {later : Bool} (hc : s.debouncing x = some c)
    (hdue : reaches s.now (plus c (s.limit .debounceDistance)) = true) :
    completeDebounce s x later = acceptEdge s x c later := by
  simp only [completeDebounce, hc]
  exact if_pos (.inr hdue)

/-- An edge where the PTK takes no arrival changes the level alone (R89). -/
theorem acceptEdge_still {s : State} {x : Sensor} {c : Count} {later : Bool} (htracking : s.tracking = false)
    (hstate : s.tsv.state ≠ .runout) : acceptEdge s x c later = setLevel s x (s.lineCovered x) := by
  refine if_neg ?_
  rintro (h | h)
  · exact absurd (show s.tracking = true from h) (by simp [htracking])
  · exact hstate h

/-- Settles O20: the three cases of a changed line, and the debounce that has run its distance accepted first. -/
theorem sensorLineChangesBeginAndDiscardDebounces : Obligations.SensorLineChangesBeginAndDiscardDebounces := by
  refine ⟨fun s u x hwait hu => ?_, fun s w x c hc hruns hdue hw => ?_⟩
  · have hchange : changeLine s x = if u.lineCovered x = u.covered x then setDebounce u x none
        else if !u.runs then acceptEdge u x u.now false else setDebounce u x (some u.now) := by
      rw [changeLine, completeDebounce_waits hwait, hu]
      rfl
    have hcovered : u.covered x = s.covered x := by rw [hu]; rfl
    have hrunsEq : u.runs = s.runs := by rw [hu]; rfl
    have hnow : u.now = s.now := by rw [hu]; rfl
    refine ⟨fun hsame => ?_, fun hdiff hruns => ?_, fun hdiff hruns htracking hstate => ?_⟩ <;>
      refine runs_of_effect (hchange.trans ?_)
    · rw [if_pos (hsame.trans hcovered.symm)]
      rfl
    · rw [if_neg (by rwa [hcovered]), if_neg (by simp [hrunsEq, hruns]), hnow]
      rfl
    · rw [if_neg (by rwa [hcovered]), if_pos (by simp [hrunsEq, hruns]), acceptEdge_still]
      · rfl
      · rw [← htracking, hu]
        rfl
      · rwa [hu]
  · have hcomplete : w = acceptEdge s x c false := hw.trans (completeDebounce_due hc hdue)
    have hlevels : levels w = levels (setLevel s x (s.lineCovered x)) := by rw [hcomplete, levels_acceptEdge]
    have hcovered : w.covered x = s.lineCovered x := by
      have hdebounced : w.ptk.debounced = s.ptk.debounced.set x.idx (s.lineCovered x) :=
        (congrArg Prod.fst hlevels :)
      rw [State.covered, hdebounced]
      exact Vector.getElem_set_self ..
    refine ⟨runs_of_effect hw.symm, hcovered, runs_of_effect ?_⟩
    have hline : w.lineCovered x = s.lineCovered x := by
      rw [State.lineCovered, State.lineCovered, hcomplete]
      simp
    have htsv : w.tsv = s.tsv := by
      rw [hw]
      simp
    have hnow : w.now = s.now := by rw [State.now, htsv]; rfl
    rw [effect, changeLine, ← hw, if_neg, if_neg, ← hnow]
    · rfl
    · have hrunsEq : (toggleSensor w x).runs = s.runs := by
        rw [State.runs, State.runs, ← htsv]
        rfl
      simp [hrunsEq, hruns]
    · rw [lineCovered_toggleSensor, hline, ← hcovered]
      exact fun h => by simp [State.covered, toggleSensor] at h

end Sys2Proof.Machine
end

section
/-! The profile store: its relations and the configuration commands (R128, R175 to R180). -/

namespace Sys2Proof.Machine

set_option Elab.async false

/-! ## The relations of R177 -/

namespace Profile

theorem lengthOk_iff (p : Profile) (n : Nat) : p.lengthOk n = true ↔
    (n < p.leg .f1Reg + p.leg .regXfer ∧ n < p.leg .f2Reg + p.leg .regXfer ∧ n < p.leg .f3Reg + p.leg .regXfer ∧
      n < p.leg .releaseReg + p.leg .regXfer ∧ n < p.leg .regXfer + p.leg .xferFuse ∧
      n < p.leg .xferFuse + p.leg .fuseOut ∧ n < p.leg .xferFuse + p.leg .fuseDup1 ∧
      n < p.leg .fuseDup1 + p.leg .dup1Dup2 ∧ n < p.leg .fuseOut + p.leg .outB1 ∧ n < p.leg .fuseOut + p.leg .outB2 ∧
      n < p.leg .fuseOut + p.leg .outB3 ∧ n < p.leg .fuseOut + p.leg .outB4 ∧ n < p.leg .fuseOut + p.leg .outBp) ∧
    p.leg .park + p.leg .releaseReg + p.timesM .leadTolerance +
      p.timesM .trailTolerance < n ∧
    2 * p.timesM .leadTolerance < n + p.limit .minimumGap := by
  simp [lengthOk, legPairs, and_assoc]

theorem marginsOk_iff (p : Profile) : p.marginsOk = true ↔
    p.timesM .pickTolerance < p.limit .minimumGap ∧
    ∀ l ∈ [Leg.f1Reg, .f2Reg, .f3Reg], p.timesM .sideReadyMargin < p.leg l := by
  simp [marginsOk]

theorem gateBefore_iff (p : Profile) (g : Gate) (l : Leg) : p.gateBefore g l = true ↔
    p.offset g + p.timesM .leadTolerance < p.leg l + p.limit .throwLead := by
  simp [gateBefore]

theorem gatesOk_iff (p : Profile) : p.gatesOk = true ↔
    (∀ g : Gate, p.limit .throwLead < p.offset g) ∧
    (∀ l ∈ [Leg.fuseOut, .fuseDup1], p.offset .d + p.timesM .leadTolerance <
      p.leg l + p.limit .throwLead) ∧
    (∀ k ∈ [(Gate.g1, Leg.outB1), (.g2, .outB2), (.g3, .outB3), (.g4, .outB4)],
      p.offset k.1 + p.timesM .leadTolerance < p.leg k.2 + p.limit .throwLead) ∧
    p.offset .g1 < p.offset .g2 ∧ p.offset .g2 < p.offset .g3 ∧ p.offset .g3 < p.offset .g4 ∧
    p.offset .g4 + p.timesM .leadTolerance < p.leg .outBp + p.limit .throwLead := by
  have hall : (∀ g : Gate, p.limit .throwLead < p.offset g) ↔ ∀ g ∈ Gate.all, p.limit .throwLead < p.offset g :=
    ⟨fun h g _ => h g, fun h g => h g (by cases g <;> decide)⟩
  rw [hall]
  simp [gatesOk, gateBefore_iff, and_assoc]

/-- The relations of R177, as the nine families that the review reads. -/
theorem relationsHold_iff (p : Profile) : p.relationsHold = true ↔
    (∀ tray : Tray, p.lengthOk p.trays[tray.idx].length = true) ∧ p.marginsOk = true ∧ p.gatesOk = true := by
  have hall : (∀ tray : Tray, p.lengthOk p.trays[tray.idx].length = true) ↔
      ∀ tray ∈ Tray.all, p.lengthOk p.trays[tray.idx].length = true :=
    ⟨fun h t _ => h t, fun h t => h t (by cases t <;> decide)⟩
  rw [hall, relationsHold, Bool.and_eq_true, Bool.and_eq_true, List.all_eq_true, and_assoc]

end Profile

/-! ## The configuration commands in a path that is not quiet (R176) -/

section NotQuiet
variable {s : State} (h : ¬ s.quiet = true) (w1 w2 w3 w4 : Word)
include h

theorem takeSetLeg_notQuiet : takeSetLeg [w1, w2] s = s.refuse .state := if_pos (by simpa using h)
theorem takeSetSensor_notQuiet : takeSetSensor [w1, w2] s = s.refuse .state := if_pos (by simpa using h)
theorem takeSetGate_notQuiet : takeSetGate [w1, w2] s = s.refuse .state := if_pos (by simpa using h)
theorem takeSetLimits_notQuiet : takeSetLimits [w1, w2] s = s.refuse .state := if_pos (by simpa using h)
theorem takeSetCapacity_notQuiet : takeSetCapacity [w1, w2] s = s.refuse .state := if_pos (by simpa using h)
theorem takeSetUnits_notQuiet : takeSetUnits [w1, w2, w3] s = s.refuse .state := if_pos (by simpa using h)
theorem takeSetTray_notQuiet : takeSetTray [w1, w2, w3, w4] s = s.refuse .state := if_pos (by simpa using h)

end NotQuiet

/-! ## The configuration commands in a quiet path (R176) -/

theorem argLeg_eq_none {w : Word} (h : 14 < w.toNat) : argLeg w = none := List.getElem?_eq_none h

theorem argLimit_eq_none {w : Word} (h : 14 < w.toNat) : argLimit w = none := List.getElem?_eq_none h

theorem argGate_eq_none {w : Word} (h : 4 < w.toNat) : argGate w = none := List.getElem?_eq_none h

theorem argSensor_eq_none {w : Word} (h : 13 < w.toNat) : argSensor w = none := List.getElem?_eq_none h

theorem writeProfile_holds {s : State} {p : Profile} (h : p.relationsHold = true) :
    writeProfile s p = ({ s with profile := p }, (.ok, [])) := if_pos h

theorem writeProfile_fails {s : State} {p : Profile} (h : p.relationsHold = false) :
    writeProfile s p = s.refuse .limit := if_neg (by simp [h])

section Quiet
variable {s : State} (hq : s.quiet = true)
include hq

theorem takeSetLeg_quiet (l : Leg) (d : Word) : takeSetLeg [word l.idx, d] s =
    match argIn d l.range.1 l.range.2 with
    | none => s.refuse .badArgument
    | some d => writeProfile s { s.profile with legs := s.profile.legs.set l.idx d } := by
  simp only [takeSetLeg, hq, argLeg_code, Bool.not_true, Bool.false_eq_true, if_false] <;> rfl

theorem takeSetLeg_unlisted {w : Word} (d : Word) (h : 14 < w.toNat) : takeSetLeg [w, d] s = s.refuse .badArgument := by
  simp only [takeSetLeg, hq, argLeg_eq_none h, Bool.not_true, Bool.false_eq_true, if_false]

theorem takeSetLimits_quiet (l : Limit) (v : Word) : takeSetLimits [word l.idx, v] s =
    match argIn v l.range.1 l.range.2 with
    | none => s.refuse .badArgument
    | some v => writeProfile s { s.profile with limits := s.profile.limits.set l.idx v } := by
  simp only [takeSetLimits, hq, argLimit_code, Bool.not_true, Bool.false_eq_true, if_false] <;> rfl

theorem takeSetLimits_unlisted {w : Word} (v : Word) (h : 14 < w.toNat) :
    takeSetLimits [w, v] s = s.refuse .badArgument := by
  simp only [takeSetLimits, hq, argLimit_eq_none h, Bool.not_true, Bool.false_eq_true, if_false]

theorem takeSetGate_quiet (g : Gate) (o : Word) : takeSetGate [word g.idx, o] s =
    match argIn o 50 20000 with
    | none => s.refuse .badArgument
    | some o => writeProfile s { s.profile with offsets := s.profile.offsets.set g.idx o } := by
  simp only [takeSetGate, hq, argGate_code, Bool.not_true, Bool.false_eq_true, if_false]
  cases argIn o 50 20000 <;> rfl

theorem takeSetGate_unlisted {w : Word} (o : Word) (h : 4 < w.toNat) : takeSetGate [w, o] s = s.refuse .badArgument := by
  simp only [takeSetGate, hq, argGate_eq_none h, Bool.not_true, Bool.false_eq_true, if_false]

theorem takeSetTray_unlisted {w : Word} (n lo hi : Word) (h : 2 < w.toNat) :
    takeSetTray [w, n, lo, hi] s = s.refuse .badArgument := by
  simp only [takeSetTray, hq, argTray_eq_none h, Bool.not_true, Bool.false_eq_true, if_false]

theorem takeSetTray_outOfRange (tray : Tray) (n lo hi : Word) (h : n.toNat < 400 ∨ 4000 < n.toNat ∨ 1023 < lo.toNat ∨
    1023 < hi.toNat ∨ hi.toNat < lo.toNat) : takeSetTray [trayCode tray, n, lo, hi] s = s.refuse .badArgument := by
  simp only [takeSetTray, hq, argTray_code, Bool.not_true, Bool.false_eq_true, if_false]
  by_cases hn : n.toNat < 400 ∨ 4000 < n.toNat
  · rw [argIn_eq_none hn]
  by_cases hlo : 1023 < lo.toNat
  · rw [argIn_eq_none (.inr hlo)]
    cases argIn n 400 4000 <;> rfl
  by_cases hhi : 1023 < hi.toNat
  · rw [argIn_eq_none (.inr hhi), argIn_eq_some (Nat.zero_le _) (by omega), argIn_eq_some (by omega) (by omega)]
  · rw [argIn_eq_some (by omega) (by omega), argIn_eq_some (Nat.zero_le _) (by omega),
      argIn_eq_some (Nat.zero_le _) (by omega)]
    exact if_pos (by omega)

theorem takeSetTray_inRange (tray : Tray) {n lo hi : Word} (hlow : 400 ≤ n.toNat) (hhigh : n.toNat ≤ 4000)
    (hband : lo.toNat ≤ hi.toNat) (hmax : hi.toNat ≤ 1023) : takeSetTray [trayCode tray, n, lo, hi] s =
      writeProfile s { s.profile with trays := s.profile.trays.set tray.idx (.mk n.toNat lo.toNat hi.toNat) } := by
  simp only [takeSetTray, hq, argTray_code, Bool.not_true, Bool.false_eq_true, if_false]
  rw [argIn_eq_some hlow hhigh, argIn_eq_some (Nat.zero_le _) (by omega), argIn_eq_some (Nat.zero_le _) hmax]
  exact if_neg (by omega)

end Quiet

/-- Settles O51: the gate of a quiet path, the relations of R177, the code lists, and each command's range. -/
theorem settingsAreWrittenWhenTheRelationsHold : Obligations.SettingsAreWrittenWhenTheRelationsHold := by
  refine ⟨fun s w1 w2 w3 w4 hmoving => ?_, fun p => ?_, fun p l k g => ⟨rfl, rfl, rfl⟩, fun s hstopped hempty => ?_⟩
  · have hq := (not_quiet_iff s).mpr hmoving
    refine ⟨fun hport => ⟨?_, ?_, ?_, ?_, ?_⟩, fun hport => ?_, fun hport => ?_⟩
    · exact answers_of_effect takeSetLeg rfl hport rfl (takeSetLeg_notQuiet hq w1 w2)
    · exact answers_of_effect takeSetSensor rfl hport rfl (takeSetSensor_notQuiet hq w1 w2)
    · exact answers_of_effect takeSetGate rfl hport rfl (takeSetGate_notQuiet hq w1 w2)
    · exact answers_of_effect takeSetLimits rfl hport rfl (takeSetLimits_notQuiet hq w1 w2)
    · exact answers_of_effect takeSetCapacity rfl hport rfl (takeSetCapacity_notQuiet hq w1 w2)
    · exact answers_of_effect takeSetUnits rfl hport rfl (takeSetUnits_notQuiet hq w1 w2 w3)
    · exact answers_of_effect takeSetTray rfl hport rfl (takeSetTray_notQuiet hq w1 w2 w3 w4)
  · simp only [Profile.relationsHold_iff, Profile.lengthOk_iff, Profile.marginsOk_iff, Profile.gatesOk_iff,
      Profile.timesM, and_assoc]
  have hq : s.quiet = true := (quiet_iff s).mpr ⟨hstopped, hempty⟩
  refine ⟨fun w d hport => ⟨fun hw => ⟨?_, ?_⟩, fun hw => ?_⟩, fun w n lo hi hport hw => ?_, ?_, ?_, ?_, ?_⟩
  · exact answers_of_effect takeSetLeg rfl hport rfl (takeSetLeg_unlisted hq d hw)
  · exact answers_of_effect takeSetLimits rfl hport rfl (takeSetLimits_unlisted hq d hw)
  · exact answers_of_effect takeSetGate rfl hport rfl (takeSetGate_unlisted hq d hw)
  · exact answers_of_effect takeSetTray rfl hport rfl (takeSetTray_unlisted hq n lo hi hw)
  · rintro l d p hport rfl
    have htake := takeSetLeg_quiet hq l d
    refine ⟨fun hout => ?_, fun hlo hhi => ⟨fun hrel => ?_, fun hrel => ?_⟩⟩ <;>
      refine answers_of_effect takeSetLeg rfl hport rfl (htake.trans ?_)
    · rw [argIn_eq_none hout]
      rfl
    · rw [argIn_eq_some hlo hhi]
      exact writeProfile_holds hrel
    · rw [argIn_eq_some hlo hhi]
      exact writeProfile_fails hrel
  · rintro tray n lo hi p hport rfl
    refine ⟨fun hout => ?_, fun hlow hhigh hband hmax => ⟨fun hrel => ?_, fun hrel => ?_⟩⟩ <;>
      refine answers_of_effect takeSetTray rfl hport rfl ?_
    · exact takeSetTray_outOfRange hq tray n lo hi hout
    · exact (takeSetTray_inRange hq tray hlow hhigh hband hmax).trans (writeProfile_holds hrel)
    · exact (takeSetTray_inRange hq tray hlow hhigh hband hmax).trans (writeProfile_fails hrel)
  · rintro g o p hport rfl
    have htake := takeSetGate_quiet hq g o
    refine ⟨fun hout => ?_, fun hlo hhi => ⟨fun hrel => ?_, fun hrel => ?_⟩⟩ <;>
      refine answers_of_effect takeSetGate rfl hport rfl (htake.trans ?_)
    · rw [argIn_eq_none hout]
      rfl
    · rw [argIn_eq_some hlo hhi]
      exact writeProfile_holds hrel
    · rw [argIn_eq_some hlo hhi]
      exact writeProfile_fails hrel
  · rintro l v p hport rfl
    have htake := takeSetLimits_quiet hq l v
    refine ⟨fun hout => ?_, fun hlo hhi => ⟨fun hrel => ?_, fun hrel => ?_⟩⟩ <;>
      refine answers_of_effect takeSetLimits rfl hport rfl (htake.trans ?_)
    · rw [argIn_eq_none hout]
      rfl
    · rw [argIn_eq_some hlo hhi]
      exact writeProfile_holds hrel
    · rw [argIn_eq_some hlo hhi]
      exact writeProfile_fails hrel

end Sys2Proof.Machine
end

section
/-! Sensors, capacities, units and bin roles (R128, R142, R176, R179). -/

namespace Sys2Proof.Machine

set_option Elab.async false

/-! ## SET SENSOR (R176) -/

section Sensor
variable {s : State} (x : Sensor) (p : Polarity)

theorem writePolarity_profile : (writePolarity s x p).profile =
    { s.profile with polarity := s.profile.polarity.set x.idx p } := rfl

/-- The level of the line under the polarity written becomes the debounced level. -/
theorem covered_writePolarity : (writePolarity s x p).covered x =
    (if p = .high then s.lines.sensors[x.idx] else !s.lines.sensors[x.idx]) := by
  have hset : (writePolarity s x p).covered x =
      ({ s with profile := { s.profile with polarity := s.profile.polarity.set x.idx p } } : State).lineCovered x :=
    Vector.getElem_set_self ..
  rw [hset, State.lineCovered]
  simp only [Fin.getElem_fin, Vector.getElem_set_self]
  cases p <;> simp

theorem covered_writePolarity_ne {y : Sensor} (h : y ≠ x) : (writePolarity s x p).covered y = s.covered y :=
  Vector.getElem_set_ne x.idx.isLt y.idx.isLt fun hidx => h ((State.sensor_idx x y).mp hidx).symm

theorem takeSetSensor_quiet (hq : s.quiet = true) :
    takeSetSensor [sensorCode x, p.code] s = (writePolarity s x p, (.ok, [])) := by
  simp only [takeSetSensor, hq, argSensor_code, argPolarity_code, Bool.not_true, Bool.false_eq_true, if_false]

theorem takeSetSensor_outOfRange (hq : s.quiet = true) {v w : Word} (h : 13 < v.toNat ∨ 1 < w.toNat) :
    takeSetSensor [v, w] s = s.refuse .badArgument := by
  simp only [takeSetSensor, hq, Bool.not_true, Bool.false_eq_true, if_false]
  rcases h with hv | hw
  · rw [argSensor_eq_none hv]
  · rw [argPolarity_eq_none hw]
    cases argSensor v <;> rfl

end Sensor

/-! ## SET CAPACITY (R128, R176) -/

section Capacity
variable {s : State} (hq : s.quiet = true) (b : Bin)

/-- The condition on which a written capacity fills a bin. -/
def capacityFills (s : State) (b : Bin) (n : Nat) : Prop :=
  (s.bin b).fill = n ∧ ((s.bin b).state = .ready ∨ (s.bin b).state = .fenced)

theorem capacity_set (n : Nat) : ({ s with profile :=
    { s.profile with capacities := s.profile.capacities.set b.idx n } } : State).capacity b = n :=
  Vector.getElem_set_self ..

theorem writeCapacity_full {n : Nat} (h : capacityFills s b n) : writeCapacity s b n =
    (({ s with profile := { s.profile with capacities := s.profile.capacities.set b.idx n } } : State).setBin b
      { s.bin b with state := .full }).notify (.bin b .full (s.bin b).fill) :=
  if_pos ⟨h.1.trans (capacity_set b n).symm, h.2⟩

theorem writeCapacity_open {n : Nat} (h : ¬ capacityFills s b n) : writeCapacity s b n =
    { s with profile := { s.profile with capacities := s.profile.capacities.set b.idx n } } :=
  if_neg fun hc => h ⟨hc.1.trans (capacity_set b n), hc.2⟩

include hq

theorem takeSetCapacity_unlisted {w n : Word} (h : 4 < w.toNat) : takeSetCapacity [w, n] s = s.refuse .badArgument := by
  simp only [takeSetCapacity, hq, argBin_eq_none h, Bool.not_true, Bool.false_eq_true, if_false]

theorem takeSetCapacity_quiet (n : Word) : takeSetCapacity [binCode b, n] s = match argIn n 100 4000 with
    | none => s.refuse .badArgument
    | some n => if n < (s.bin b).fill then s.refuse .limit else (writeCapacity s b n, (.ok, [])) := by
  simp only [takeSetCapacity, hq, argBin_code, Bool.not_true, Bool.false_eq_true, if_false]
  cases argIn n 100 4000 <;> rfl

end Capacity

/-! ## SET UNITS (R179) -/

section Units
variable {s : State} {u : Units}

theorem unitsFit_iff (fitted u : Units) : unitsFit fitted u = true ↔ (u.duplex = true → fitted.duplex = true) ∧
    (u.fourBins = true → fitted.fourBins = true) ∧ (u.gauge = true → fitted.gauge = true) := by
  cases hd : u.duplex <;> cases hf : u.fourBins <;> cases hg : u.gauge <;> simp [unitsFit, hd, hf, hg, and_assoc]

theorem holdsDuplex_iff : s.holdsDuplex = true ↔ ∃ slot r, s.statement slot = some r ∧ r.plex = .duplex := by
  simp [State.holdsDuplex, slots, Option.any_eq_true]

theorem holdsDuplex_eq_false (h : ∀ slot r, s.statement slot = some r → r.plex = .simplex) : s.holdsDuplex = false := by
  rw [Bool.eq_false_iff]
  intro hd
  obtain ⟨slot, r, hr, hplex⟩ := holdsDuplex_iff.mp hd
  exact absurd (hplex.symm.trans (h slot r hr)) (by decide)

theorem takeSetUnits_outOfRange (hq : s.quiet = true) {d f g : Word}
    (h : 1 < d.toNat ∨ 1 < f.toNat ∨ 1 < g.toNat) : takeSetUnits [d, f, g] s = s.refuse .badArgument := by
  simp only [takeSetUnits, hq, Bool.not_true, Bool.false_eq_true, if_false]
  rcases h with h | h | h
  · rw [argBool_eq_none h]
  · rw [argBool_eq_none h]
    cases argBool d <;> rfl
  · rw [argBool_eq_none h]
    cases argBool d <;> cases argBool f <;> rfl

theorem takeSetUnits_quiet (hq : s.quiet = true) :
    takeSetUnits [yesNo u.duplex, yesNo u.fourBins, yesNo u.gauge] s = setUnits s u := by
  simp only [takeSetUnits, hq, argBool_code, Bool.not_true, Bool.false_eq_true, if_false]

theorem setUnits_unfitted (h : ¬ unitsFit s.profile.fitted u = true) : setUnits s u = s.refuse .badArgument :=
  if_pos (by simpa using h)

theorem setUnits_duplexHeld (hfit : unitsFit s.profile.fitted u = true) (he : s.profile.enabled.duplex = true)
    (hu : u.duplex = false) (hheld : s.holdsDuplex = true) : setUnits s u = s.refuse .state := by
  rw [setUnits, if_neg (by simp [hfit]), if_pos (by simp [he, hu, hheld])]

/-- Past the duplex check, the four-bin check decides. -/
theorem setUnits_duplexOk (hfit : unitsFit s.profile.fitted u = true)
    (hok : u.duplex = true ∨ s.profile.enabled.duplex = false ∨ s.holdsDuplex = false) : setUnits s u =
      if s.profile.enabled.fourBins ∧ !u.fourBins ∧ ((s.bin .b3).stacking ≠ [] ∨ (s.bin .b4).stacking ≠ []) then
        s.refuse .state else (writeUnits s u, (.ok, [])) := by
  rw [setUnits, if_neg (by simp [hfit]), if_neg]
  rintro ⟨he, hu, hheld⟩
  rcases hok with h | h | h
  · simp [h] at hu
  · simp [h] at he
  · simp [h] at hheld

theorem writeUnits_profile : (writeUnits s u).profile = { s.profile with enabled := u } := by
  rw [writeUnits]
  split <;> simp

theorem writeUnits_same (h : u.fourBins = s.profile.enabled.fourBins) :
    writeUnits s u = { s with profile := { s.profile with enabled := u } } := if_pos h

theorem writeUnits_changed (h : u.fourBins ≠ s.profile.enabled.fourBins) :
    writeUnits s u = setFourBins { s with profile := { s.profile with enabled := u } } u.fourBins := if_neg h

/-- The bins of the four-bin unit, turned on or off. -/
theorem bin_setFourBins (s : State) (on : Bool) (b : Bin) : (setFourBins s on).bin b =
    if b = .b3 ∨ b = .b4 then
      (setRole s b (if on then (if b = .b3 then .standard else .oversize) else .off)).bin b
    else s.bin b := by
  have hdoors : ∀ role, (setRole s .b3 role).lines = s.lines := fun role => by simp
  rw [setFourBins]
  cases on <;> cases b <;> simp [bin_setRole]

end Units

/-- Settles O52: each command's checks in order, then what it writes. -/
theorem sensorsCapacitiesAndUnitsAreSet : Obligations.SensorsCapacitiesAndUnitsAreSet := by
  intro s hstopped hempty
  have hq : s.quiet = true := (quiet_iff s).mpr ⟨hstopped, hempty⟩
  refine ⟨fun v w hport => ⟨fun hout => ?_, fun hout => ?_⟩, fun d f g hport hout => ?_, fun x p hport => ?_,
    fun b n hport => ⟨fun hout => ?_, fun hlo hhi => ⟨fun hless => ?_, fun hle => ?_⟩⟩, fun u hport =>
      ⟨fun hunfit => ?_, fun hduplex hfour hgauge => ?_⟩⟩
  · exact answers_of_effect takeSetSensor rfl hport rfl (takeSetSensor_outOfRange hq hout)
  · exact answers_of_effect takeSetCapacity rfl hport rfl (takeSetCapacity_unlisted hq hout)
  · exact answers_of_effect takeSetUnits rfl hport rfl (takeSetUnits_outOfRange hq hout)
  · exact ⟨_, answers_of_effect takeSetSensor rfl hport rfl (takeSetSensor_quiet x p hq), writePolarity_profile x p,
      covered_writePolarity x p, fun y hy => covered_writePolarity_ne x p hy, result_answer_ok _, rfl, rfl⟩
  · exact answers_of_effect takeSetCapacity rfl hport rfl
      ((takeSetCapacity_quiet hq b n).trans (by rw [argIn_eq_none hout]; rfl))
  · exact answers_of_effect takeSetCapacity rfl hport rfl
      ((takeSetCapacity_quiet hq b n).trans (by rw [argIn_eq_some hlo hhi]; exact if_pos hless))
  · have htake : takeSetCapacity [binCode b, n] s = (writeCapacity s b n.toNat, (.ok, [])) :=
      (takeSetCapacity_quiet hq b n).trans (by rw [argIn_eq_some hlo hhi]; exact if_neg (by omega))
    refine ⟨_, answers_of_effect takeSetCapacity rfl hport rfl htake, result_answer_ok _, ?_, ?_⟩
    · rw [State.answer_profile, writeCapacity]
      simp
    by_cases hfull : (s.bin b).fill = n.toNat ∧ ((s.bin b).state = .ready ∨ (s.bin b).state = .fenced)
    · simp only [if_pos hfull, writeCapacity_full b hfull]
      refine ⟨?_, fun hroom => ?_, fun d hd => ?_⟩
      · exact (bin_of_eq (State.notify_bnm ..) _).trans (by rw [State.bin_setBin, if_pos rfl])
      · exact congrArg (fun c : Port => c.notices) (congrArg State.cpt (State.notify_room _ _ (by exact hroom)))
      · exact (bin_of_eq (State.notify_bnm ..) _).trans (by rw [State.bin_setBin, if_neg (Ne.symm hd)]; rfl)
    · simp only [if_neg hfull, writeCapacity_open b hfull, List.append_nil]
      exact ⟨rfl, fun _ => rfl, fun d _ => rfl⟩
  · refine answers_of_effect takeSetUnits rfl hport rfl ((takeSetUnits_quiet hq).trans (setUnits_unfitted ?_))
    rw [unitsFit_iff]
    rintro ⟨hd, hf, hg⟩
    rcases hunfit with ⟨h, hn⟩ | ⟨h, hn⟩ | ⟨h, hn⟩
    · simp [hd h] at hn
    · simp [hf h] at hn
    · simp [hg h] at hn
  · have hfit : unitsFit s.profile.fitted u = true := (unitsFit_iff _ u).mpr ⟨hduplex, hfour, hgauge⟩
    refine ⟨fun he hu hheld => ?_, fun hok => ?_⟩
    · exact answers_of_effect takeSetUnits rfl hport rfl
        ((takeSetUnits_quiet hq).trans (setUnits_duplexHeld hfit he hu (holdsDuplex_iff.mpr hheld)))
    have hset := (takeSetUnits_quiet hq).trans
      (setUnits_duplexOk hfit (hok.imp_right (Or.imp_right holdsDuplex_eq_false)))
    refine ⟨fun he hu hlist => ?_, fun hfree => ?_⟩
    · exact answers_of_effect takeSetUnits rfl hport rfl (hset.trans (if_pos ⟨he, by simp [hu], hlist⟩))
    · have hwrite := hset.trans (if_neg (by
        rintro ⟨he, hu, hlist⟩
        rcases hfree with h | h | ⟨h3, h4⟩
        · simp [h] at hu
        · simp [h] at he
        · simp [h3, h4] at hlist))
      refine ⟨_, answers_of_effect takeSetUnits rfl hport rfl hwrite, result_answer_ok _, writeUnits_profile,
        fun hsame => ?_, fun b hb hu he => ?_, fun b hb hu he => ?_, ?_, fun b h3 h4 => ?_⟩
      · rw [State.answer_bnm, writeUnits_same hsame]
      · rw [writeUnits_changed (by simp [hu, he])]
        refine (bin_setFourBins _ _ b).trans ?_
        rw [if_pos hb, if_pos hu, bin_setRole, if_pos rfl]
        rcases hb with rfl | rfl <;> simp only [ite_not] <;> rfl
      · rw [writeUnits_changed (by simp [hu, he])]
        refine (bin_setFourBins _ _ b).trans ?_
        rw [if_pos hb, if_neg (by simp [hu]), bin_setRole, if_pos rfl]
        rfl
      · have hcpt : (writeUnits s u).cpt = s.cpt := by simp
        exact (congrArg Port.notices hcpt :)
      · by_cases hsame : u.fourBins = s.profile.enabled.fourBins
        · rw [writeUnits_same hsame]
          rfl
        · rw [writeUnits_changed hsame]
          exact (bin_setFourBins _ _ b).trans (if_neg (by simp [h3, h4]))

/-! ## BIN ROLE (R142) -/

theorem ofFourBins_iff (b : Bin) : ofFourBins b = true ↔ b = .b3 ∨ b = .b4 := by
  cases b <;> decide

theorem argRole_code {role : BinRole} (h : role ≠ .purge) : argRole role.code = some role := by
  revert h
  cases role <;> decide

theorem argRole_eq_none {w : Word} (h : 2 < w.toNat) : argRole w = none := by
  have hne : ∀ k : Word, k.toNat ≤ 2 → w ≠ k := by
    rintro k hk rfl
    omega
  simp only [argRole, if_neg (hne 0 (by decide)), if_neg (hne 1 (by decide)), if_neg (hne 2 (by decide))]

section Role
variable {s : State}

theorem takeBinRole_notQuiet (h : ¬ s.quiet = true) (bw rw : Word) : takeBinRole [bw, rw] s = s.refuse .state :=
  if_pos (by simpa using h)

/-- The word 4 is P, which takes no role; above it stands no bin. -/
theorem takeBinRole_outOfRange (hq : s.quiet = true) {bw rw : Word} (h : 3 < bw.toNat ∨ 2 < rw.toNat) :
    takeBinRole [bw, rw] s = s.refuse .badArgument := by
  simp only [takeBinRole, hq, Bool.not_true, Bool.false_eq_true, if_false]
  by_cases hr : 2 < rw.toNat
  · rw [argRole_eq_none hr]
    cases argBin bw <;> rfl
  have hb : 3 < bw.toNat := h.resolve_right hr
  by_cases h4 : 4 < bw.toNat
  · rw [argBin_eq_none h4]
  · have hp : argBin bw = some .p := by
      rw [argBin, show bw.toNat = 4 by omega]
      rfl
    rw [hp]
    cases argRole rw <;> rfl

/-- The own checks of BIN ROLE on a stacker, and the role written. -/
theorem takeBinRole_named (hq : s.quiet = true) {b : Bin} {role : BinRole} (hb : b ≠ .p) (hrole : role ≠ .purge) :
    takeBinRole [binCode b, role.code] s =
      if ofFourBins b ∧ !s.profile.enabled.fourBins then s.refuse .state
      else if role = .off ∧ (s.bin b).stacking ≠ [] then s.refuse .state
      else (setRole s b role, (.ok, [])) := by
  simp only [takeBinRole, hq, argBin_code, argRole_code hrole, Bool.not_true, Bool.false_eq_true, if_false, if_neg hb]

end Role

theorem setRole_eq (s : State) (b : Bin) (role : BinRole) : setRole s b role = s.setBin b { s.bin b with
    role := role
    state := if role = .off then .off
      else if (s.bin b).role ≠ .off then (s.bin b).state
      else if s.lines.doors[b.idx] then .doorOpen else .check } := by
  rw [setRole]
  simp only [ite_not]

/-- Settles O38: the checks of BIN ROLE in order, and the role with the state it brings. -/
theorem binRoleSetsTheRoleThenTheState : Obligations.BinRoleSetsTheRoleThenTheState := by
  refine fun s bw rw hport => ⟨fun hmoving => ?_, fun hstopped hempty => ⟨fun hout => ?_, ?_⟩⟩
  · exact answers_of_effect takeBinRole rfl hport rfl (takeBinRole_notQuiet ((not_quiet_iff s).mpr hmoving) bw rw)
  all_goals have hq : s.quiet = true := (quiet_iff s).mpr ⟨hstopped, hempty⟩
  · exact answers_of_effect takeBinRole rfl hport rfl (takeBinRole_outOfRange hq hout)
  rintro b role hb hrole rfl rfl
  have htake := takeBinRole_named hq hb hrole
  refine ⟨fun hfour hoff => ?_, fun hfour hoff hlist => ?_, fun hfour hlist => ?_⟩ <;>
    refine answers_of_effect takeBinRole rfl hport rfl (htake.trans ?_)
  · exact if_pos ⟨(ofFourBins_iff b).mpr hfour, by simp [hoff]⟩
  all_goals
    have hunit : ¬ (ofFourBins b = true ∧ (!s.profile.enabled.fourBins) = true) := by
      rintro ⟨h, hnot⟩
      simp [hfour ((ofFourBins_iff b).mp h)] at hnot
    rw [if_neg hunit]
  · exact if_pos ⟨hoff, hlist⟩
  · rw [if_neg fun h => h.2 (hlist h.1), setRole_eq]

end Sys2Proof.Machine
end

section
/-! The park, the gauge burst and the bin doors (R28, R98, R101 to R103, R138 to R140). -/

namespace Sys2Proof.Machine

set_option Elab.async false

/-! ## Claims taken and dropped (R39) -/

theorem claim_taken {s : State} {t : Tag} {o : Owner} {f : Sheet → Option Sheet} {r q : Sheet} (hr : s.sheet t = some r)
    (ho : r.owner = o) (hf : f r = some q) : s.claim t o f = s.setSheet t (some q) := by
  subst ho
  rw [claim_owner hr, hf]

theorem claim_dropped {s : State} {t : Tag} {o : Owner} {f : Sheet → Option Sheet}
    (h : ∀ r, s.sheet t = some r → r.owner = o → f r = none) : s.claim t o f = s := by
  have hnone : (s.claimed t o).bind f = none := by
    rw [Option.bind_eq_none_iff]
    intro r hr
    obtain ⟨hsheet, howner⟩ := Option.filter_eq_some_iff.mp hr
    exact h r hsheet (by simpa using howner)
  rw [State.claim, hnone]

/-! ## The park (R28, R98) -/

theorem parkDue_due {s : State} {w : ParkWatch} (hw : s.ptk.park = some w) (htracking : s.tracking = true)
    (hnone : s.parkedTag = none) (hdue : reaches s.now w.count = true) :
    parkDue s = claimPark { s with ptk := { s.ptk with park := none } } w.tag w.owner := by
  simp only [parkDue, hw]
  exact if_pos ⟨htracking, by simp [hnone], hdue⟩

theorem parkDue_waits {s : State} {w : ParkWatch} (hw : s.ptk.park = some w)
    (h : s.tracking = false ∨ s.parkedTag ≠ none ∨ reaches s.now w.count = false) : parkDue s = s := by
  simp only [parkDue, hw]
  refine if_neg ?_
  rintro ⟨htracking, hnone, hdue⟩
  rcases h with h | h | h
  · simp [h] at htracking
  · exact h (Option.isNone_iff_eq_none.mp hnone)
  · simp [h] at hdue

/-- Settles O31: the watch is due or waits; due, its claim is taken or dropped. -/
theorem parkHoldsTheLoopingSheet : Obligations.ParkHoldsTheLoopingSheet := by
  intro s w hw
  refine ⟨fun htracking hnone hdue => ⟨fun r hr howner hloop => ?_, fun hother => ?_⟩, fun hwait =>
    runs_of_effect (parkDue_waits hw hwait)⟩ <;>
    refine runs_of_effect ((parkDue_due hw htracking hnone hdue).trans ?_)
  · exact claim_taken hr howner (if_pos hloop)
  · refine claim_dropped fun r hr howner => if_neg fun hloop => ?_
    rcases hother r hr with h | h
    · exact h howner
    · exact h hloop

/-! ## The gauge (R101 to R103) -/

/-- The verdict is the one of R102, with the mean less the offset offset taken as an integer. -/
theorem verdictOf_eq {readings : List Nat} {offset : Nat} {band : TraySettings} {v : Verdict}
    (hdouble : v = .double ↔ (readings.sum / 4 : Nat) - (offset : Int) > band.bandHigh)
    (hthin : v = .thin ↔ (readings.sum / 4 : Nat) - (offset : Int) < band.bandLow ∧
      (readings.sum / 4 : Nat) - (offset : Int) ≤ band.bandHigh) : verdictOf readings offset band = v := by
  rw [verdictOf]
  by_cases hd : band.bandHigh + offset < readings.sum / 4
  · rw [if_pos hd, hdouble.mpr (by omega)]
  rw [if_neg hd]
  by_cases ht : readings.sum / 4 < band.bandLow + offset
  · rw [if_pos ht, hthin.mpr (by omega)]
  · rw [if_neg ht]
    cases v
    case normal => rfl
    case double => exact absurd (hdouble.mp rfl) (by omega)
    case thin => exact absurd (hthin.mp rfl) (by omega)

section Gauge
variable {s : State} {b : Burst} {reading : BitVec 10} {later : Bool}

theorem gaugeSample_waits (hb : s.ptk.burst = some b) (h : reaches s.now b.due = false) :
    gaugeSample s reading later = s := by
  simp only [gaugeSample, hb]
  exact if_neg (by simp [h])

theorem gaugeSample_due (hb : s.ptk.burst = some b) (h : reaches s.now b.due = true) :
    gaugeSample s reading later = takeReading s b reading later := by
  simp only [gaugeSample, hb]
  exact if_pos h

theorem takeReading_more (h : b.readings.length < 3) : takeReading s b reading later = { s with
    lines := { s.lines with gauge := reading }
    ptk := { s.ptk with burst := some { b with readings := b.readings ++ [reading.toNat] } } } := by
  rw [takeReading]
  exact if_pos (by simp; omega)

theorem takeReading_last (h : b.readings.length = 3) : takeReading s b reading later =
    endBurst { s with lines := { s.lines with gauge := reading } } b (b.readings ++ [reading.toNat]) later := by
  rw [takeReading]
  exact if_neg (by simp; omega)

end Gauge

/-- What the suspect claim of a tray leaves besides the condition and its notice (R49). -/
theorem takeSuspect_reads (s : State) (tray : Tray) : (takeSuspect s tray).adm.suspects = s.adm.suspects ∧
    ∀ u, (takeSuspect s tray).condition u =
      if u = tray ∧ s.condition tray = .ok then .suspect else s.condition u := by
  unfold takeSuspect
  split
  case isTrue hok =>
    refine ⟨by simp [State.setCondition], fun u => ?_⟩
    have hcond : ∀ v : State, ∀ n, (v.notify n).condition u = v.condition u := fun v n => by simp [State.condition]
    rw [hcond, State.condition_setCondition]
    by_cases hu : tray = u
    · rw [if_pos hu, if_pos ⟨hu.symm, hok⟩]
    · rw [if_neg hu, if_neg fun h => hu h.1.symm]
  case isFalse hheld => exact ⟨rfl, fun u => (if_neg fun h => hheld h.2).symm⟩

/-- What a suspect claim sent leaves, taken at once or after the next command (R49, R103; log 22). -/
theorem sendSuspect_reads (s : State) (tray : Tray) (later : Bool) :
    (sendSuspect s tray later).adm.suspects = s.adm.suspects ++ (if later = true then [tray] else []) ∧
    ∀ u, (sendSuspect s tray later).condition u =
      if later = false ∧ u = tray ∧ s.condition tray = .ok then .suspect else s.condition u := by
  cases later
  · obtain ⟨hsuspects, hcondition⟩ := takeSuspect_reads s tray
    exact ⟨by simpa [sendSuspect] using hsuspects, fun u => by simpa [sendSuspect] using hcondition u⟩
  · exact ⟨rfl, fun u => (if_neg (by simp)).symm⟩

@[simp] theorem sendSuspect_frame (s : State) (tray : Tray) (later : Bool) :
    (sendSuspect s tray later).stu = s.stu ∧ (sendSuspect s tray later).sheets = s.sheets ∧
    (sendSuspect s tray later).tsq = s.tsq ∧ (sendSuspect s tray later).ptk = s.ptk ∧
    (sendSuspect s tray later).gsc = s.gsc ∧ (sendSuspect s tray later).bnm = s.bnm ∧
    (sendSuspect s tray later).jam = s.jam ∧ (sendSuspect s tray later).tsv = s.tsv ∧
    (sendSuspect s tray later).lines = s.lines ∧ (sendSuspect s tray later).requests = s.requests := by
  unfold sendSuspect
  split <;> simp

/-- The verdict count after a verdict (R103). -/
def countedVerdicts (s : State) (tray : Tray) (v : Verdict) : Nat :=
  if v = .normal then 0 else min (s.ptk.verdicts[tray.idx] + 1) 2

/-- A verdict counted: the count, and the suspect claim of a count of 2 (R103). -/
theorem countVerdict_eq (s : State) (tray : Tray) (v : Verdict) (later : Bool) : countVerdict s tray v later =
    if v ≠ .normal ∧ 1 ≤ s.ptk.verdicts[tray.idx] then
      sendSuspect (s.setVerdicts tray (countedVerdicts s tray v)) tray later
    else s.setVerdicts tray (countedVerdicts s tray v) := by
  by_cases hv : v = .normal
  · rw [countVerdict, if_pos hv, if_neg fun h => h.1 hv, countedVerdicts, if_pos hv]
  · rw [countVerdict, if_neg hv, countedVerdicts, if_neg hv]
    by_cases hn : 1 ≤ s.ptk.verdicts[tray.idx]
    · rw [if_pos (show min (s.ptk.verdicts[tray.idx] + 1) 2 = 2 by omega), if_pos ⟨hv, hn⟩]
    · rw [if_neg (show ¬ min (s.ptk.verdicts[tray.idx] + 1) 2 = 2 by omega), if_neg fun h => hn h.2]

/-- What a counted verdict leaves. -/
theorem countVerdict_reads (s : State) (tray : Tray) (v : Verdict) (later : Bool) :
    (countVerdict s tray v later).ptk =
      { s.ptk with verdicts := s.ptk.verdicts.set tray.idx (countedVerdicts s tray v) } ∧
    (countVerdict s tray v later).adm.suspects = s.adm.suspects ++
      (if later = true ∧ v ≠ .normal ∧ 1 ≤ s.ptk.verdicts[tray.idx] then [tray] else []) ∧
    (∀ u, (countVerdict s tray v later).condition u = if later = false ∧ u = tray ∧ v ≠ .normal ∧
      1 ≤ s.ptk.verdicts[tray.idx] ∧ s.condition tray = .ok then .suspect else s.condition u) ∧
    (countVerdict s tray v later).sheets = s.sheets ∧ (countVerdict s tray v later).lines = s.lines ∧
    (countVerdict s tray v later).requests = s.requests ∧ (countVerdict s tray v later).stu = s.stu ∧
    (countVerdict s tray v later).bnm = s.bnm ∧ (countVerdict s tray v later).tsv = s.tsv ∧
    (countVerdict s tray v later).gsc = s.gsc ∧ (countVerdict s tray v later).tsq = s.tsq ∧
    (countVerdict s tray v later).jam = s.jam := by
  rw [countVerdict_eq]
  by_cases h : v ≠ .normal ∧ 1 ≤ s.ptk.verdicts[tray.idx]
  · obtain ⟨hsuspects, hcondition⟩ := sendSuspect_reads (s.setVerdicts tray (countedVerdicts s tray v)) tray later
    rw [if_pos h]
    refine ⟨by simp [State.setVerdicts], ?_, fun u => ?_, ?_⟩
    · rw [hsuspects]
      by_cases hl : later = true <;> simp only [hl, h, ne_eq, not_false_eq_true, and_self, if_true,
        Bool.false_eq_true, false_and, if_false] <;> exact rfl
    · rw [hcondition]
      simp only [h, ne_eq, not_false_eq_true, true_and]
      rfl
    · simp [State.setVerdicts]
  · rw [if_neg h]
    refine ⟨rfl, ?_, fun u => ?_, rfl, rfl, rfl, rfl, rfl, rfl, rfl, rfl, rfl⟩
    · rw [if_neg fun hc => h hc.2, List.append_nil]
      rfl
    · rw [if_neg fun hc => h ⟨hc.2.2.1, hc.2.2.2.1⟩]
      rfl

/-- The requests of a verdict other than NORMAL (R102, actions 2 and 3). -/
theorem spoilByGauge_eq (s : State) (t : Tag) (o : Owner) : spoilByGauge s t o = { s with
    requests := { s.requests with
      condemns := s.requests.condemns ++ [{ tag := some t, slot := o.slot, generation := o.generation, cause := .gauge }]
      breaks := s.requests.breaks ++ [{ slot := o.slot, generation := o.generation, cause := .gauge, opening := none }] } } :=
  rfl

/-- The burst ended and its result claimed, with what its verdict asks for: the state whose verdict is then counted. -/
def gaugeEnded (s : State) (b : Burst) (readings : List Nat) (v : Verdict) : State :=
  let u := claimGauge { s with ptk := { s.ptk with burst := none } } b.tag b.owner { readings, verdict := v }
  if v = .normal then u else spoilByGauge u b.tag b.owner

theorem endBurst_eq {s : State} {b : Burst} {readings : List Nat} {v : Verdict} {later : Bool}
    (hv : verdictOf readings s.ptk.zeroOffset (s.traySettings b.tray) = v) :
    endBurst s b readings later = countVerdict (gaugeEnded s b readings v) b.tray v later := by
  subst hv
  rfl

theorem gaugeEnded_reads (s : State) (b : Burst) (readings : List Nat) (v : Verdict) :
    (gaugeEnded s b readings v).ptk = { s.ptk with burst := none } ∧ (gaugeEnded s b readings v).adm = s.adm ∧
    (gaugeEnded s b readings v).lines = s.lines ∧ (gaugeEnded s b readings v).stu = s.stu ∧
    (gaugeEnded s b readings v).bnm = s.bnm ∧ (gaugeEnded s b readings v).tsv = s.tsv ∧
    (gaugeEnded s b readings v).gsc = s.gsc ∧ (gaugeEnded s b readings v).tsq = s.tsq ∧
    (gaugeEnded s b readings v).jam = s.jam := by
  unfold gaugeEnded
  dsimp only
  split <;> simp [spoilByGauge_eq]

theorem sheet_gaugeEnded (s : State) (b : Burst) (readings : List Nat) (v : Verdict) (u : Tag) :
    (gaugeEnded s b readings v).sheet u = (s.sheet u).map fun r =>
      if u = b.tag ∧ r.owner = b.owner ∧ r.state = .main then { r with gauge := some { readings, verdict := v } }
      else r := by
  have hsheet : (gaugeEnded s b readings v).sheet u =
      (claimGauge { s with ptk := { s.ptk with burst := none } } b.tag b.owner { readings, verdict := v }).sheet u := by
    unfold gaugeEnded
    dsimp only
    split <;> rfl
  rw [hsheet, sheet_claimGauge]
  by_cases hu : b.tag = u
  · subst hu
    simp only [if_true, true_and]
    rfl
  · simp only [if_neg hu, Ne.symm hu, false_and, if_false]
    exact (Option.map_id' (x := s.sheet u)).symm

theorem requests_gaugeEnded (s : State) (b : Burst) (readings : List Nat) (v : Verdict) :
    (gaugeEnded s b readings v).requests = if v = .normal then s.requests else { s.requests with
      condemns := s.requests.condemns ++
        [{ tag := some b.tag, slot := b.owner.slot, generation := b.owner.generation, cause := .gauge }]
      breaks := s.requests.breaks ++
        [{ slot := b.owner.slot, generation := b.owner.generation, cause := .gauge, opening := none }] } := by
  unfold gaugeEnded
  dsimp only
  split <;> simp [spoilByGauge_eq]

/-- Settles O32: a sample waits, is kept, or ends the burst; the end is the claim, the requests of the verdict and the
count of verdicts. -/
theorem gaugeBurstsGiveAVerdict : Obligations.GaugeBurstsGiveAVerdict := by
  intro s b reading later hb
  refine ⟨fun hwait => runs_of_effect (gaugeSample_waits hb hwait), fun hdue => ⟨fun hmore => ?_, ?_⟩, ?_, ?_⟩
  · exact runs_of_effect ((gaugeSample_due hb hdue).trans (takeReading_more hmore))
  · intro v hlast hdouble hthin
    have hsum : (b.readings ++ [reading.toNat]).sum = b.readings.sum + reading.toNat := by simp
    have hverdict : verdictOf (b.readings ++ [reading.toNat]) s.ptk.zeroOffset (s.traySettings b.tray) = v :=
      verdictOf_eq (by rwa [hsum]) (by rwa [hsum])
    generalize hu : gaugeEnded { s with lines := { s.lines with gauge := reading } } b
      (b.readings ++ [reading.toNat]) v = u
    have heffect : effect (.gaugeReading reading later) s = countVerdict u b.tray v later := by
      rw [← hu]
      exact (gaugeSample_due hb hdue).trans ((takeReading_last hlast).trans (endBurst_eq hverdict))
    have hreads := gaugeEnded_reads { s with lines := { s.lines with gauge := reading } } b
      (b.readings ++ [reading.toNat]) v
    have hsheet := sheet_gaugeEnded { s with lines := { s.lines with gauge := reading } } b
      (b.readings ++ [reading.toNat]) v
    have hrequests := requests_gaugeEnded { s with lines := { s.lines with gauge := reading } } b
      (b.readings ++ [reading.toNat]) v
    rw [hu] at hreads hsheet hrequests
    obtain ⟨uptk, uadm, ulines, ustu, ubnm, utsv, ugsc, utsq, ujam⟩ := hreads
    obtain ⟨tptk, tsuspects, tcondition, tsheets, tlines, trequests, tstu, tbnm, ttsv, tgsc, ttsq, tjam⟩ :=
      countVerdict_reads u b.tray v later
    have hverdicts : u.ptk.verdicts = s.ptk.verdicts := by rw [uptk]
    have hcondition : ∀ tray, u.condition tray = s.condition tray := fun tray => by
      rw [State.condition, uadm]
      rfl
    refine ⟨_, runs_of_effect heffect, by rw [tptk, uptk], by rw [tlines, ulines], fun w => ?_, fun hv => ?_,
      fun hv => ?_, fun hlater => ⟨?_, fun tray => ?_⟩, fun hnow => ⟨?_, fun tray htray => ?_, ?_⟩,
      tstu.trans ustu, tbnm.trans ubnm, ttsv.trans utsv, tgsc.trans ugsc, ttsq.trans utsq, tjam.trans ujam⟩
    · exact (sheet_of_eq tsheets w).trans (hsheet w)
    · rw [tptk, trequests, hrequests, if_pos hv, hverdicts, countedVerdicts, if_pos hv]
      exact ⟨rfl, rfl⟩
    · rw [tptk, trequests, hrequests, if_neg hv, countedVerdicts, if_neg hv, hverdicts]
      exact ⟨rfl, rfl, List.mem_append_right _ (List.mem_singleton.mpr rfl)⟩
    · rw [tsuspects, uadm, hverdicts]
      simp only [hlater, true_and]
    · rw [tcondition, if_neg (by simp [hlater]), hcondition]
    · rw [tsuspects, uadm, if_neg (by simp [hnow]), List.append_nil]
    · rw [tcondition, if_neg fun h => htray h.2.1, hcondition]
    · rw [tcondition]
      simp only [hcondition, hnow, hverdicts, true_and]
  · rw [retire_eq, hb]
    simp
  · intro tag htag
    rw [retire_eq, hb]
    simp [Ne.symm htag]

/-! ## Doors (R138 to R140) -/

section Door
variable {s : State} {b : Bin}

theorem meetDoor_open {o : Opening} (h : s.lines.doors[o.bin.idx] = true) : meetDoor s o = s := by
  rw [meetDoor, if_neg (by simp [h])]
  exact if_pos h

/-- An opening outside a claim opens the door by itself (log 44). -/
theorem meetDoor_unclaimed {meets : Bool} (h : meets = true → grantClaim s ≠ some b) :
    meetDoor s ⟨b, meets⟩ = openDoor s b :=
  if_neg fun hmeets => h hmeets.1 hmeets.2.2

theorem openDoor_off (hdoor : s.lines.doors[b.idx] = false) (h : (s.bin b).state = .off ∨ (s.bin b).state = .doorOpen) :
    openDoor s b = setDoor s b true := by
  rw [openDoor, openWith, if_neg (by simp [hdoor])]
  exact if_pos h

/-- A bin opened: its door, its state and the notice, before what the opening breaks or drains. -/
def doorOpened (s : State) (b : Bin) : State :=
  ((setDoor s b true).setBin b { s.bin b with state := .doorOpen }).notify (.bin b .doorOpen (s.bin b).fill)

theorem openDoor_on (hdoor : s.lines.doors[b.idx] = false) (hoff : (s.bin b).state ≠ .off)
    (hopen : (s.bin b).state ≠ .doorOpen) : openDoor s b = afterOpening (doorOpened s b) b := by
  rw [openDoor, openWith, if_neg (by simp [hdoor])]
  exact if_neg (by simp [State.bin, setDoor] at hoff hopen ⊢; exact ⟨hoff, hopen⟩)

theorem bin_doorOpened (s : State) (b d : Bin) :
    (doorOpened s b).bin d = if b = d then { s.bin b with state := .doorOpen } else s.bin d :=
  (bin_of_eq (State.notify_bnm ..) d).trans (State.bin_setBin ..)

theorem notices_doorOpened (h : s.cpt.notices.length < 32) :
    (doorOpened s b).cpt.notices = s.cpt.notices ++ [.bin b .doorOpen (s.bin b).fill] := by
  rw [doorOpened, State.notify_room _ _ (by exact h)]
  rfl

theorem doorOpened_reads (s : State) (b : Bin) :
    (doorOpened s b).lines = { s.lines with doors := s.lines.doors.set b.idx true } ∧
    (doorOpened s b).requests = s.requests ∧ (doorOpened s b).tsv = s.tsv ∧ (doorOpened s b).stu = s.stu ∧
    (doorOpened s b).sheets = s.sheets ∧ (doorOpened s b).gsc = s.gsc ∧ (doorOpened s b).ptk = s.ptk ∧
    (doorOpened s b).tsq = s.tsq ∧ (doorOpened s b).jam = s.jam ∧ (doorOpened s b).profile = s.profile := by
  simp [doorOpened, setDoor]

theorem afterOpening_stacker (h : b ≠ .p) : afterOpening s b = breakListed s b := if_neg h

theorem afterOpening_purge : afterOpening s .p = if s.tsv.state = .running then beginDrain s .purgeDoor else s :=
  if_pos rfl

@[simp] theorem afterOpening_frame (s : State) (b : Bin) : (afterOpening s b).lines = s.lines ∧
    (afterOpening s b).bnm = s.bnm ∧ (afterOpening s b).stu = s.stu ∧ (afterOpening s b).sheets = s.sheets ∧
    (afterOpening s b).gsc = s.gsc ∧ (afterOpening s b).ptk = s.ptk ∧ (afterOpening s b).tsq = s.tsq ∧
    (afterOpening s b).jam = s.jam ∧ (afterOpening s b).profile = s.profile := by
  unfold afterOpening
  split
  · split <;> simp
  · simp

theorem closeDoor_eq (hdoor : s.lines.doors[b.idx] = true) (e : Bool) : closeDoor s b e =
    if (s.bin b).state ≠ .doorOpen then readEmpty (setDoor s b false) b e
    else if e then ((readEmpty (setDoor s b false) b e).setBin b (s.bin b).empty).notify (.bin b .doorClosed 0)
    else ((readEmpty (setDoor s b false) b e).setBin b { s.bin b with state := .check }).notify
      (.bin b .check (s.bin b).fill) :=
  if_pos hdoor

end Door

/-- Settles O39: an open door stays; an opening by itself is `openDoor`, by the bin's state; a close reads the empty
line. -/
theorem doorsOpenAndClose : Obligations.DoorsOpenAndClose := by
  refine ⟨fun s b meets hdoor => runs_of_effect (meetDoor_open hdoor), fun s b meets hdoor hmeets =>
    ⟨fun hstate => ?_, fun hoff hopen => ?_⟩, ?_⟩
  · exact runs_of_effect ((meetDoor_unclaimed hmeets).trans (openDoor_off hdoor hstate))
  · obtain ⟨hlines, hrequests, htsv, hstu, hsheets, hgsc, hptk, htsq, hjam, hprofile⟩ := doorOpened_reads s b
    have hbin := bin_doorOpened s b
    have hnotices : s.cpt.notices.length < 31 → (doorOpened s b).cpt.notices =
        s.cpt.notices ++ [.bin b .doorOpen (s.bin b).fill] := fun hroom => notices_doorOpened (by omega)
    have heffect : effect (.binDoorOpened ⟨b, meets⟩) s = afterOpening (doorOpened s b) b :=
      (meetDoor_unclaimed hmeets).trans (openDoor_on hdoor hoff hopen)
    generalize doorOpened s b = u at *
    obtain ⟨flines, fbnm, fstu, fsheets, fgsc, fptk, ftsq, fjam, fprofile⟩ := afterOpening_frame u b
    refine ⟨_, runs_of_effect heffect, flines.trans hlines, ?_, fun d hd => ?_, fun hroom => ?_, fun hb => ?_,
      fun hb => ?_, ?_, fstu.trans hstu, fsheets.trans hsheets, fgsc.trans hgsc, fptk.trans hptk, ftsq.trans htsq,
      fjam.trans hjam, fprofile.trans hprofile⟩
    · exact (bin_of_eq fbnm b).trans ((hbin b).trans (if_pos rfl))
    · exact (bin_of_eq fbnm d).trans ((hbin d).trans (if_neg (Ne.symm hd)))
    · have hroomAfter : u.cpt.notices.length < 32 := by
        rw [hnotices hroom, List.length_append]
        exact Nat.succ_lt_succ hroom
      by_cases hb : b = .p
      · subst hb
        rw [afterOpening_purge, htsv]
        by_cases hrunning : s.tsv.state = .running
        · rw [if_pos hrunning, if_pos ⟨rfl, hrunning⟩, beginDrain, notices_enter _ _ _ hroomAfter, hnotices hroom,
            List.append_assoc]
          rfl
        · rw [if_neg hrunning, if_neg fun h => hrunning h.2, hnotices hroom]
      · rw [afterOpening_stacker hb, breakListed_eq, if_neg fun h => hb h.1]
        exact hnotices hroom
    · rw [afterOpening_stacker hb, breakListed_eq, hrequests, hbin, if_pos rfl]
      simp only [State.openingOf, hstu]
    · subst hb
      rw [afterOpening_purge]
      split <;> simp [hrequests]
    · by_cases hb : b = .p
      · subst hb
        rw [afterOpening_purge, htsv]
        by_cases hrunning : s.tsv.state = .running
        · rw [if_pos hrunning, if_pos ⟨rfl, hrunning⟩, beginDrain, tsv_enter, htsv]
        · rw [if_neg hrunning, if_neg fun h => hrunning h.2, htsv]
      · rw [afterOpening_stacker hb, breakListed_eq, if_neg fun h => hb h.1]
        exact htsv
  · rintro s u b e hdoor rfl
    have hclose := closeDoor_eq hdoor e
    refine ⟨fun hstate => ?_, fun hstate hempty => ?_, fun hstate hempty => ?_⟩ <;>
      refine runs_of_effect (hclose.trans ?_)
    · exact if_pos hstate
    · rw [if_neg (Classical.not_not.mpr hstate), if_pos hempty]
      rfl
    · rw [if_neg (Classical.not_not.mpr hstate), if_neg (by simp [hempty])]
      rfl

end Sys2Proof.Machine
end

section
/-! Jams declared and ended (R107, R109, R123, R124, R147 to R154), and the retirement claims that the end of such a step
takes (R36, R152; log 41). -/

namespace Sys2Proof.Machine

set_option Elab.async false

/-! ## The retirement claims taken at the end of a step (R36, R152) -/

section Retire
variable {s : State} {t u : Tag} {o : Owner} {r : Sheet}

theorem retireDelivered_output (hr : s.sheet t = some r) (ho : r.owner = o) (hstate : r.state = .output) :
    retireDelivered s t o = retire (if r.runOut ∧ s.tsv.state = .runout then
      { s with jam := { s.jam with runOutCount := s.jam.runOutCount - 1 } } else s) t := by
  simp [retireDelivered, State.claimed, hr, Option.filter, ho, hstate]

theorem retireDelivered_stranded (hr : s.sheet t = some r) (ho : r.owner = o) (hstate : r.state = .stranded) :
    retireDelivered s t o = { s with jam := { s.jam with
      delivered := if t ∈ s.jam.delivered then s.jam.delivered else s.jam.delivered ++ [t] } } := by
  simp [retireDelivered, State.claimed, hr, Option.filter, ho, hstate]

/-- A retirement claim takes its own record, from OUTPUT, or none. -/
theorem sheet_retireDelivered (s : State) (t u : Tag) (o : Owner) : (retireDelivered s t o).sheet u =
    if t = u ∧ (s.sheet t).any (fun r => decide (r.owner = o ∧ r.state = .output)) then none else s.sheet u := by
  cases hr : s.sheet t with
  | none => simp [retireDelivered, State.claimed, hr]
  | some r =>
    by_cases ho : r.owner = o
    · by_cases hout : r.state = .output
      · rw [retireDelivered_output hr ho hout, sheet_retire]
        by_cases htu : t = u
        · simp [htu, ho, hout]
        · simp only [htu, false_and, if_false]
          split <;> rfl
      · have hsame : (retireDelivered s t o).sheet u = s.sheet u := by
          by_cases hstranded : r.state = .stranded
          · rw [retireDelivered_stranded hr ho hstranded]
            rfl
          · simp [retireDelivered, State.claimed, hr, Option.filter, ho, hout, hstranded]
        rw [hsame, if_neg fun h => by simp [hout] at h]
    · simp [retireDelivered, State.claimed, hr, Option.filter, ho]

theorem delivered_retireDelivered (h : u ∈ s.jam.delivered) : u ∈ (retireDelivered s t o).jam.delivered := by
  unfold retireDelivered
  split
  · exact h
  · split
    · dsimp only
      split <;> exact h
    · split
      · dsimp only
        split
        · exact h
        · exact List.mem_append_left _ h
      · exact h

/-- The claims of a list taken in turn. -/
def retireAll (l : List Retirement) (s : State) : State := l.foldl (fun u q => retireDelivered u q.tag q.owner) s

theorem sheet_retireAll_stranded (l : List Retirement) (hr : s.sheet t = some r) (hstate : r.state = .stranded) :
    (retireAll l s).sheet t = some r :=
  foldl_induction (P := fun u => u.sheet t = some r) hr fun u q _ hu => by
    rw [sheet_retireDelivered, if_neg, hu]
    rintro ⟨rfl, hany⟩
    simp [hu, hstate] at hany

/-- A claim that meets its record STRANDED is dropped, and its tag is listed as delivered. -/
theorem retireAll_stranded {l : List Retirement} {q : Retirement} (hq : q ∈ l) (hr : s.sheet q.tag = some r)
    (ho : r.owner = q.owner) (hstate : r.state = .stranded) :
    (retireAll l s).sheet q.tag = some r ∧ q.tag ∈ (retireAll l s).jam.delivered := by
  refine ⟨sheet_retireAll_stranded l hr hstate, ?_⟩
  induction l generalizing s with
  | nil => exact absurd hq List.not_mem_nil
  | cons p l ih =>
    rcases List.mem_cons.mp hq with rfl | hmem
    · refine foldl_induction (P := fun u => q.tag ∈ u.jam.delivered) (s := retireDelivered s q.tag q.owner) ?_
        fun u p _ hu => delivered_retireDelivered hu
      rw [retireDelivered_stranded hr ho hstate]
      dsimp only
      split
      · assumption
      · exact List.mem_append_right _ (List.mem_singleton.mpr rfl)
    · exact ih hmem (sheet_retireAll_stranded [p] hr hstate)

/-- A claim that meets its record OUTPUT retires it. -/
theorem retireAll_output {l : List Retirement} {q : Retirement} (hq : q ∈ l) (hr : s.sheet q.tag = some r)
    (ho : r.owner = q.owner) (hstate : r.state = .output) : (retireAll l s).sheet q.tag = none := by
  have hgone : ∀ (k : List Retirement) (u : State), u.sheet q.tag = none → (retireAll k u).sheet q.tag = none :=
    fun k u hu => foldl_induction (P := fun v => v.sheet q.tag = none) hu fun v p _ hv => by
      rw [sheet_retireDelivered, hv, ite_self]
  induction l generalizing s with
  | nil => exact absurd hq List.not_mem_nil
  | cons p l ih =>
    have hfirst := sheet_retireDelivered s p.tag q.tag p.owner
    rcases List.mem_cons.mp hq with rfl | hmem
    · refine hgone l _ (hfirst.trans (if_pos ⟨rfl, ?_⟩))
      simp [hr, ho, hstate]
    · by_cases hp : p.tag = q.tag ∧
          (s.sheet p.tag).any (fun r => decide (r.owner = p.owner ∧ r.state = .output)) = true
      · exact hgone l _ (hfirst.trans (if_pos hp))
      · exact ih hmem ((hfirst.trans (if_neg hp)).trans hr)

end Retire

/-- What the step that ends in `v` leaves of the records and the jam record: its effect with the waiting claims taken. -/
theorem next_records {c : Instr} {s u v : State} (heffect : effect c s = u) (hnext : exec c s = .next v)
    (hretires : u.requests.retires = s.requests.retires) : ∃ w : State, (∀ t, w.sheet t = u.sheet t) ∧ w.jam = u.jam ∧
      w.tsv = u.tsv ∧ (∀ t, v.sheet t = (retireAll s.requests.retires w).sheet t) ∧
      v.jam = (retireAll s.requests.retires w).jam := by
  have hexec : exec c s = finish s u := by rw [exec_eq_finish, heffect]
  obtain ⟨w, hw, hafter⟩ := next_of_finish hexec
  have hvw : w = v := by
    rw [hw] at hnext
    injection hnext
  have htake : takeRetirements s u = retireAll s.requests.retires
      { u with requests := { u.requests with retires := [] } } := by
    rw [takeRetirements]
    dsimp only
    rw [hretires, List.drop_length, List.take_length]
    rfl
  obtain ⟨-, -, hsheets, -, -, -, -, hjam, -⟩ := Evaluated.frame hafter
  rw [htake, hvw] at hsheets hjam
  exact ⟨{ u with requests := { u.requests with retires := [] } }, fun _ => rfl, rfl, rfl, sheet_of_eq hsheets, hjam⟩

/-! ## A fault declared (R107, R109, R123, R124, R148, R149) -/

/-- The main section stopped for a fault, with its record and the blocks told: what both sections' declarations begin with. -/
def declared (s : State) (f : PathFault) : State := stopMain (recordJam s f)

theorem declareJam_main {s : State} {f : PathFault} (h : f.sensor ∉ [Sensor.out, .b1, .b2, .b3, .b4, .bp]) :
    declareJam s f = runOut (declared s f) := by
  have hsection : sectionOf f.sensor = .main := (sectionOf_eq_ite f.sensor).trans (if_neg h)
  rw [declareJam, hsection]
  rfl

theorem declareJam_output {s : State} {f : PathFault} (h : f.sensor ∈ [Sensor.out, .b1, .b2, .b3, .b4, .bp]) :
    declareJam s f = stopOutput (declared s f) := by
  have hsection : sectionOf f.sensor = .output := (sectionOf_eq_ite f.sensor).trans (if_pos h)
  rw [declareJam, hsection]
  rfl

/-- Outside RUNOUT and JAMMED a fault is declared (R147). -/
theorem takeFault_declares {s : State} (hrunout : s.tsv.state ≠ .runout) (hjammed : s.tsv.state ≠ .jammed)
    (f : PathFault) : takeFault s f = declareJam s f := by
  cases hstate : s.tsv.state <;> simp_all [takeFault]

theorem takeFault_runout {s : State} (h : s.tsv.state = .runout) (f : PathFault) : takeFault s f = secondFault s f := by
  simp only [takeFault, h]

/-- The record of a declaration (R148). -/
def declaredRecord (s : State) (f : PathFault) : JamRecord where
  cause := some f.cause
  sensor := f.sensor
  tag := f.tag
  section_ := sectionOf f.sensor
  count := s.now
  runOutCount := 0
  further := 0
  delivered := []

/-- The snapshot that a latch request leaves (R109). -/
def latched (s : State) (f : PathFault) (second : Bool) : Snapshot :=
  if s.ptk.snapshot.locked then { s.ptk.snapshot with second := true } else
    { levels := s.ptk.debounced
      count := s.now
      cause := some f.cause
      sensor := f.sensor
      tag := f.tag
      second := second
      locked := true }

theorem restPolicy_iff (s : State) : s.restPolicy = true ↔ s.limit .holdPolicy = 1 := decide_eq_true_iff

theorem gsc_policyD (s : State) : (policyD s).gsc =
    { s.gsc with lines := if s.limit .holdPolicy = 1 then s.gsc.lines.set 0 false else s.gsc.lines } := by
  rw [policyD]
  by_cases h : s.limit .holdPolicy = 1
  · rw [if_pos ((restPolicy_iff s).mpr h), if_pos h]
    rfl
  · rw [if_neg (fun hrest => h ((restPolicy_iff s).mp hrest)), if_neg h]

theorem gate_of_idx (i : Fin 5) : ∃ g : Gate, g.idx = i :=
  ⟨Gate.all[i.val]?.getD .d, by revert i; decide⟩

theorem vector_ext_gate {a b : Vector Bool 5} (h : ∀ g : Gate, a[g.idx] = b[g.idx]) : a = b := by
  have hall : ∀ i : Fin 5, a[i] = b[i] := by
    intro i
    obtain ⟨g, rfl⟩ := gate_of_idx i
    exact h g
  exact Vector.ext fun i hi => hall ⟨i, hi⟩

section Declared
variable (s : State) (f : PathFault)

theorem jam_declared : (declared s f).jam = declaredRecord s f := by
  rw [declared]
  simp [recordJam, declaredRecord]

theorem ptk_declared : (declared s f).ptk =
    { s.ptk with snapshot := latched s f false, burst := none, park := none, frozen := true } := by
  have hrecord : (recordJam s f).ptk = { s.ptk with snapshot := latched s f false } := by
    rw [recordJam, State.notify_ptk, snapshot_latch]
    rfl
  have hstop : (declared s f).ptk = { (recordJam s f).ptk with burst := none, park := none, frozen := true } := by
    simp [declared, stopMain, freezeTracker]
  rw [hstop, hrecord]

theorem tsv_declared : (declared s f).tsv = { s.tsv with mainRun := false, startCount := none } := by
  have h : (recordJam s f).tsv = s.tsv := by simp
  rw [declared, tsv_stopMain, h]

theorem adm_declared : (declared s f).adm =
    { s.adm with pickLines := Vector.replicate 3 false, releaseLine := false } := by
  simp [declared, stopMain, haltAdmission]

theorem tsq_declared : (declared s f).tsq = { s.tsq with transferEnable := false, halted := true } := by
  simp [declared, stopMain, haltSequencer]

theorem gsc_declared : (declared s f).gsc = { s.gsc with
    frozen := true
    lines := if s.limit .holdPolicy = 1 then s.gsc.lines.set 0 false else s.gsc.lines } := by
  have hgsc : (recordJam s f).gsc = s.gsc := by simp
  have hprofile : (recordJam s f).profile = s.profile := by simp
  rw [declared]
  generalize recordJam s f = u at hgsc hprofile
  have hlimit : s.limit .holdPolicy = u.limit .holdPolicy := by rw [State.limit, State.limit, hprofile]
  have hstop : (stopMain u).gsc = (policyD (freezeGates (freezeTracker (haltSequencer
      { u with tsv := { u.tsv with mainRun := false, startCount := none } })))).gsc := rfl
  rw [hstop, gsc_policyD, hlimit, ← hgsc]
  rfl

theorem line_declared (g : Gate) : (declared s f).gsc.lines[g.idx] =
    if s.limit .holdPolicy = 1 ∧ g = .d then false else s.gsc.lines[g.idx] := by
  rw [gsc_declared]
  have hvalue : ((3 : Fin 5) : Nat) = 3 ∧ ((4 : Fin 5) : Nat) = 4 := ⟨rfl, rfl⟩
  by_cases h : s.limit .holdPolicy = 1 <;> cases g <;> simp [h, Gate.idx, hvalue]

theorem notices_declared (hroom : s.cpt.notices.length < 32) : (declared s f).cpt.notices = s.cpt.notices ++
    [.jam f.cause f.sensor f.tag (sectionOf f.sensor) s.now false] := by
  have hcpt : (declared s f).cpt = (recordJam s f).cpt := by simp [declared]
  rw [hcpt, recordJam, State.notify_room _ _ (by simpa using hroom)]
  simp [jamNotice, State.now]

theorem declared_frame : (declared s f).sheets = s.sheets ∧ (declared s f).stu = s.stu ∧ (declared s f).bnm = s.bnm ∧
    (declared s f).profile = s.profile ∧ (declared s f).requests = s.requests := by
  simp [declared]

end Declared

/-- The lines of the gates under the hold policy on G1 to G4 (R124). -/
theorem line_policyG (s : State) (g : Gate) : (policyG s).gsc.lines[g.idx] =
    if s.limit .holdPolicy = 1 ∧ g ≠ .d then false else s.gsc.lines[g.idx] := by
  obtain ⟨-, -, hlines⟩ := lines_policyG s
  rw [hlines]
  by_cases hrest : s.limit .holdPolicy = 1
  · rw [if_pos ((restPolicy_iff s).mpr hrest)]
    have hvalue : ((3 : Fin 5) : Nat) = 3 ∧ ((4 : Fin 5) : Nat) = 4 := ⟨rfl, rfl⟩
    cases g <;> simp [hrest, Gate.idx, hvalue]
  · rw [if_neg (fun h => hrest ((restPolicy_iff s).mp h)), if_neg fun h => hrest h.1]

/-! ## The output section (R150) -/

theorem covered_withdrawBoth (s : State) (x : Sensor) : (withdrawBoth s).covered x =
    if s.debouncing x = none then s.covered x else !s.covered x := by
  have hread : (withdrawBoth s).covered x =
      if (s.debouncing x).isSome then !s.covered x else s.covered x :=
    Vector.getElem_ofFn x.idx.isLt
  rw [hread]
  cases s.debouncing x <;> rfl

section StopOutput
variable (s : State)

/-- The output section stopped, before the gates rest. -/
def outputStopped (s : State) : State := enter (strandAll (withdrawBoth s)) .jammed .jam .none_

theorem stopOutput_eq : stopOutput s = policyG (outputStopped s) := rfl

theorem sheet_stopOutput (t : Tag) : (stopOutput s).sheet t = (s.sheet t).map Sheet.strand := by
  have hsheets : (stopOutput s).sheets = (strandAll (withdrawBoth s)).sheets := by simp [stopOutput]
  exact (sheet_of_eq hsheets t).trans (State.sheet_mapSheets ..)

theorem ptk_stopOutput : (stopOutput s).ptk = (withdrawBoth s).ptk := by
  simp [stopOutput]

theorem notices_stopOutput (hroom : s.cpt.notices.length < 32) :
    (stopOutput s).cpt.notices = s.cpt.notices ++ [.transport .jammed .jam .none_] := by
  have hcpt : (stopOutput s).cpt = (outputStopped s).cpt := by simp [stopOutput_eq]
  have hbefore : (strandAll (withdrawBoth s)).cpt = s.cpt := by simp
  rw [hcpt, outputStopped, notices_enter _ _ _ (by rwa [hbefore]), hbefore]

theorem gsc_stopOutput : (stopOutput s).gsc.records = s.gsc.records ∧ ∀ g : Gate, (stopOutput s).gsc.lines[g.idx] =
    if s.limit .holdPolicy = 1 ∧ g ≠ .d then false else s.gsc.lines[g.idx] := by
  have hgsc : (outputStopped s).gsc = s.gsc := by simp [outputStopped]
  have hprofile : (outputStopped s).profile = s.profile := by simp [outputStopped]
  obtain ⟨hrecords, -, -⟩ := lines_policyG (outputStopped s)
  refine ⟨hrecords.trans (by rw [hgsc]), fun g => (line_policyG (outputStopped s) g).trans ?_⟩
  rw [State.limit, hprofile, hgsc]
  rfl

end StopOutput

theorem clearOfOut_output {r : Sheet} (h : r.clearOfOut = true) : r.state = .output := by
  simp only [Sheet.clearOfOut, Bool.and_eq_true, decide_eq_true_eq] at h
  exact h.1

/-- Settles O41: the declaration's fields, the output section stopped behind it, and the claims that the end of the step
takes. -/
theorem outputFaultsStopThePath : Obligations.OutputFaultsStopThePath := by
  intro s place f hfault hsensor hrunout hjammed
  have heffect : effect (.jam place) s = stopOutput (declared (dropFault s place) f) := by
    rw [effect, takeFaultAt_some hfault, takeFault_declares (s := dropFault s place) hrunout hjammed,
      declareJam_output hsensor]
  have hsection : sectionOf f.sensor = .output := (sectionOf_eq_ite f.sensor).trans (if_pos hsensor)
  have djam := jam_declared (dropFault s place) f
  have dptk := ptk_declared (dropFault s place) f
  have dtsv := tsv_declared (dropFault s place) f
  have dadm := adm_declared (dropFault s place) f
  have dtsq := tsq_declared (dropFault s place) f
  have dgsc := gsc_declared (dropFault s place) f
  have dline := line_declared (dropFault s place) f
  have dnotices := notices_declared (dropFault s place) f
  obtain ⟨dsheets, dstu, dbnm, dprofile, drequests⟩ := declared_frame (dropFault s place) f
  generalize declared (dropFault s place) f = u at *
  obtain ⟨-, tstu, tadm, ttsq, tbnm, tjam, tprofile, -, trequests⟩ := stopOutput_frame u
  obtain ⟨trecords, tlines⟩ := gsc_stopOutput u
  have tptk := ptk_stopOutput u
  have tsheet := sheet_stopOutput u
  have hsheet : ∀ t, (stopOutput u).sheet t = (s.sheet t).map Sheet.strand := fun t => by
    rw [tsheet, sheet_of_eq dsheets]
    rfl
  refine ⟨_, runs_of_effect heffect, by rw [trequests, drequests]; rfl, ?_, by rw [tsv_stopOutput, dtsv]; rfl, hsheet,
    ?_, ?_, ?_, ?_, fun x => ?_, ?_, ?_, ?_, by rw [ttsq, dtsq]; rfl, ?_, ?_, fun hroom => ?_, tstu.trans dstu,
    tbnm.trans dbnm, tprofile.trans dprofile, fun v hv q hq r hr ho => ?_⟩
  · rw [tjam, djam, declaredRecord, hsection]
    rfl
  · rw [tptk]
    change u.ptk.snapshot = _
    rw [dptk]
    rfl
  · rw [tptk]
    change u.ptk.burst = none
    rw [dptk]
  · rw [tptk]
    change u.ptk.park = none
    rw [dptk]
  · rw [tptk]
    change u.ptk.lists = _
    rw [dptk]
    rfl
  · have hcovered : (stopOutput u).covered x = (withdrawBoth u).covered x := by rw [State.covered, State.covered, tptk]
    rw [hcovered, covered_withdrawBoth, State.debouncing, State.covered, dptk]
    rfl
  · rw [tadm, dadm]
  · rw [tadm, dadm]
  · rw [tadm, dadm]
    rfl
  · rw [trecords, dgsc]
    rfl
  · have hlimit : u.limit .holdPolicy = s.limit .holdPolicy := by
      rw [State.limit, dprofile]
      rfl
    refine vector_ext_gate fun g => (tlines g).trans ?_
    rw [dline, hlimit, show (dropFault s place).limit .holdPolicy = s.limit .holdPolicy from rfl]
    by_cases hrest : s.limit .holdPolicy = 1
    · by_cases hg : g = .d <;> simp [hrest, hg]
    · simp only [hrest, false_and, if_false]
      rfl
  · have hnotices := dnotices (show s.cpt.notices.length < 32 by omega)
    rw [notices_stopOutput u (by rw [hnotices, List.length_append]; exact Nat.succ_lt_succ hroom), hnotices, hsection,
      List.append_assoc]
    rfl
  · obtain ⟨w, hw, -, -, hsheets, hjam⟩ := next_records heffect hv (by rw [trequests, drequests]; rfl)
    rw [hsheets, hjam]
    exact retireAll_stranded hq ((hw q.tag).trans ((hsheet q.tag).trans (by rw [hr]; rfl))) ho rfl

/-! ## The main section (R150, R151, R153) -/

section EndRunOut
variable (s : State)

/-- The output section stopped at the end of a run-out, before the gates rest. -/
def runOutStopped (s : State) : State := enter (withdrawBoth s) .jammed .runoutComplete .none_

theorem endRunOut_eq : endRunOut s = policyG (runOutStopped s) := rfl

theorem ptk_endRunOut : (endRunOut s).ptk = (withdrawBoth s).ptk := by
  simp [endRunOut]

theorem notices_endRunOut (hroom : s.cpt.notices.length < 32) :
    (endRunOut s).cpt.notices = s.cpt.notices ++ [.transport .jammed .runoutComplete .none_] := by
  have hcpt : (endRunOut s).cpt = (runOutStopped s).cpt := by simp [endRunOut_eq]
  have hbefore : (withdrawBoth s).cpt = s.cpt := by simp
  rw [hcpt, runOutStopped, notices_enter _ _ _ (by rwa [hbefore]), hbefore]

theorem gsc_endRunOut : (endRunOut s).gsc.records = s.gsc.records ∧ ∀ g : Gate, (endRunOut s).gsc.lines[g.idx] =
    if s.limit .holdPolicy = 1 ∧ g ≠ .d then false else s.gsc.lines[g.idx] := by
  have hgsc : (runOutStopped s).gsc = s.gsc := by simp [runOutStopped]
  have hprofile : (runOutStopped s).profile = s.profile := by simp [runOutStopped]
  obtain ⟨hrecords, -, -⟩ := lines_policyG (runOutStopped s)
  refine ⟨hrecords.trans (by rw [hgsc]), fun g => (line_policyG (runOutStopped s) g).trans ?_⟩
  rw [State.limit, hprofile, hgsc]
  rfl

end EndRunOut

section RunOut
variable (s : State)

/-- The number of sheets to run out. -/
def runOuts (s : State) : Nat := (s.tagsWhere Sheet.clearOfOut).length

/-- RUNOUT begun: the records selected, their number, the state and its notice. -/
def runOutBegun (s : State) : State :=
  enter { selectRunOut s with jam := { s.jam with runOutCount := runOuts s } } .runout .jam .none_

theorem sheet_selectRunOut (t : Tag) : (selectRunOut s).sheet t =
    (s.sheet t).map fun r => if r.clearOfOut then { r with runOut := true } else r.strand :=
  State.sheet_mapSheets ..

/-- The records marked run-out by the selection are those wholly past OUT. -/
theorem tagsWhere_selectRunOut : (selectRunOut s).tagsWhere (fun r => r.runOut) = s.tagsWhere Sheet.clearOfOut := by
  refine List.filter_congr fun t _ => ?_
  rw [sheet_selectRunOut]
  cases s.sheet t with
  | none => rfl
  | some r => cases hclear : r.clearOfOut <;> simp [hclear, Sheet.strand]

theorem runOut_eq : runOut s = if runOuts s = 0 then endRunOut (runOutBegun s) else runOutBegun s := by
  have hjam : (selectRunOut s).jam = s.jam := by simp
  rw [runOut]
  simp only [tagsWhere_selectRunOut, hjam]
  rfl

theorem runOutBegun_reads : (∀ t, (runOutBegun s).sheet t = (selectRunOut s).sheet t) ∧
    (runOutBegun s).jam = { s.jam with runOutCount := runOuts s } ∧
    (runOutBegun s).tsv = { s.tsv with state := .runout, cause := some .jam } ∧
    (runOutBegun s).ptk = s.ptk ∧ (runOutBegun s).adm = s.adm ∧ (runOutBegun s).tsq = s.tsq ∧
    (runOutBegun s).gsc = s.gsc ∧ (runOutBegun s).profile = s.profile := by
  refine ⟨fun t => sheet_of_eq (enter_frame ..).2.2.1 t, ?_⟩
  simp [runOutBegun, tsv_enter]

theorem notices_runOutBegun (hroom : s.cpt.notices.length < 32) :
    (runOutBegun s).cpt.notices = s.cpt.notices ++ [.transport .runout .jam .none_] := by
  have hcpt : ({ selectRunOut s with jam := { s.jam with runOutCount := runOuts s } } : State).cpt = s.cpt := by simp
  rw [runOutBegun, notices_enter _ _ _ (by rwa [hcpt]), hcpt]

end RunOut

/-- Settles O42: the declaration's fields, RUNOUT begun behind it and, with nothing to run out, ended at once; and the
claims that the end of the step takes. -/
theorem mainFaultsRunOutTheOutput : Obligations.MainFaultsRunOutTheOutput := by
  intro s place f n hfault hsensor hrunout hjammed hn
  have heffect : effect (.jam place) s = runOut (declared (dropFault s place) f) := by
    rw [effect, takeFaultAt_some hfault, takeFault_declares (s := dropFault s place) hrunout hjammed,
      declareJam_main hsensor]
  have hsection : sectionOf f.sensor = .main := (sectionOf_eq_ite f.sensor).trans (if_neg hsensor)
  have djam := jam_declared (dropFault s place) f
  have dptk := ptk_declared (dropFault s place) f
  have dtsv := tsv_declared (dropFault s place) f
  have dadm := adm_declared (dropFault s place) f
  have dtsq := tsq_declared (dropFault s place) f
  have dgsc := gsc_declared (dropFault s place) f
  have dline := line_declared (dropFault s place) f
  have dnotices := notices_declared (dropFault s place) f
  obtain ⟨dsheets, dstu, dbnm, dprofile, drequests⟩ := declared_frame (dropFault s place) f
  generalize declared (dropFault s place) f = u at *
  have hruns : runOuts u = n := by
    rw [hn]
    simp only [runOuts, State.tagsWhere, sheet_of_eq dsheets]
    rfl
  obtain ⟨bsheet, bjam, btsv, bptk, badm, btsq, bgsc, bprofile⟩ := runOutBegun_reads u
  have bnotices := notices_runOutBegun u
  obtain ⟨-, tstu, tadm, ttsq, tbnm, tprofile, -, trequests⟩ := runOut_frame u
  have hrun := runOut_eq u
  rw [hruns] at hrun bjam
  have hsheet : ∀ t, (runOut u).sheet t = (s.sheet t).map fun r =>
      if r.clearOfOut then { r with runOut := true } else { r with state := .stranded, runOut := false } := fun t => by
    have hsame : (runOut u).sheet t = (runOutBegun u).sheet t := by
      rw [hrun]
      split
      · exact sheet_of_eq (endRunOut_frame _).2.2.1 t
      · rfl
    rw [hsame, bsheet, sheet_selectRunOut, sheet_of_eq dsheets]
    rfl
  have hjam : (runOut u).jam = { u.jam with runOutCount := n } := by
    rw [hrun, ← bjam]
    split
    · simp
    · rfl
  have hlimit : u.limit .holdPolicy = s.limit .holdPolicy := by
    rw [State.limit, dprofile]
    rfl
  -- The tracker as the run-out leaves it, whether it ends at once or not: but for the levels as the declaration left it.
  have hptk : (runOut u).ptk.snapshot = u.ptk.snapshot ∧ (runOut u).ptk.burst = u.ptk.burst ∧
      (runOut u).ptk.park = u.ptk.park ∧ (runOut u).ptk.lists = u.ptk.lists := by
    rw [hrun, ← bptk]
    split
    · rw [ptk_endRunOut]
      exact ⟨rfl, rfl, rfl, rfl⟩
    · exact ⟨rfl, rfl, rfl, rfl⟩
  have htsv : (runOut u).tsv = if n = 0 then { u.tsv with
      state := .jammed, cause := some .runoutComplete, mainRun := false, outputRun := false, span := none,
      silenceWatch := false } else { u.tsv with state := .runout, cause := some .jam } := by
    rw [hrun]
    split
    · rw [tsv_endRunOut, btsv]
    · exact btsv
  have hgsc : (runOut u).gsc.records = u.gsc.records ∧ ∀ g : Gate, (runOut u).gsc.lines[g.idx] =
      if s.limit .holdPolicy = 1 ∧ n = 0 ∧ g ≠ .d then false else u.gsc.lines[g.idx] := by
    rw [hrun]
    have hprofile : (runOutBegun u).limit .holdPolicy = s.limit .holdPolicy := by rw [State.limit, bprofile]; exact hlimit
    obtain ⟨erecords, elines⟩ := gsc_endRunOut (runOutBegun u)
    by_cases hzero : n = 0
    · rw [if_pos hzero]
      refine ⟨by rw [erecords, bgsc], fun g => (elines g).trans ?_⟩
      simp only [hprofile, bgsc, hzero, true_and]
    · rw [if_neg hzero]
      exact ⟨by rw [bgsc], fun g => by rw [if_neg fun h => hzero h.2.1, bgsc]⟩
  obtain ⟨hsnapshot, hburst, hpark, hlists⟩ := hptk
  obtain ⟨hrecords, hlines⟩ := hgsc
  refine ⟨_, runs_of_effect heffect, by rw [trequests, drequests]; rfl, ?_, hsheet, ?_, ?_, ?_, fun hne => ?_,
    fun hzero => ?_, by rw [hburst, dptk], by rw [hpark, dptk], by rw [hlists, dptk]; rfl, by rw [tadm, dadm],
    by rw [tadm, dadm], by rw [tadm, dadm]; rfl, by rw [ttsq, dtsq]; rfl, by rw [hrecords, dgsc]; rfl,
    by rw [hsnapshot, dptk]; rfl, fun g => ?_, fun hroom => ?_, tstu.trans dstu, tbnm.trans dbnm,
    tprofile.trans dprofile, fun v hv q hq r hr ho => ?_⟩
  · rw [hjam, djam, declaredRecord, hsection]
    rfl
  · rw [htsv, dtsv]
    split <;> rfl
  · rw [htsv, dtsv]
    split <;> rfl
  · rw [htsv, dtsv]
    split <;> rfl
  · rw [htsv, if_neg hne, dtsv]
    exact ⟨rfl, rfl, rfl⟩
  · rw [htsv, if_pos hzero]
    exact ⟨rfl, rfl, rfl⟩
  · rw [hlines, dline, show (dropFault s place).limit .holdPolicy = s.limit .holdPolicy from rfl]
    by_cases hrest : s.limit .holdPolicy = 1
    · by_cases hg : g = .d
      · simp [hrest, hg]
      · by_cases hzero : n = 0 <;> simp [hrest, hg, hzero] <;> rfl
    · simp only [hrest, false_and, if_false]
      rfl
  · have hdeclared := dnotices (show s.cpt.notices.length < 32 by omega)
    have hlength : u.cpt.notices.length < 31 := by
      rw [hdeclared, List.length_append]
      exact Nat.succ_lt_succ hroom
    have hbegun := bnotices (by omega)
    have hbegunLength : (runOutBegun u).cpt.notices.length < 32 := by
      rw [hbegun, List.length_append]
      exact Nat.succ_lt_succ hlength
    rw [hrun]
    by_cases hzero : n = 0
    · rw [if_pos hzero, if_pos hzero, notices_endRunOut _ hbegunLength, hbegun, hdeclared, hsection,
        List.append_assoc, List.append_assoc]
      rfl
    · rw [if_neg hzero, if_neg hzero, hbegun, hdeclared, hsection, List.append_assoc]
      rfl
  · obtain ⟨w, hw, hwjam, hwtsv, hsheets, hvjam⟩ := next_records heffect hv (by rw [trequests, drequests]; rfl)
    have hmark := (hw q.tag).trans (hsheet q.tag)
    rw [hr, Option.map_some] at hmark
    refine ⟨fun hclear => ?_, fun hclear => ?_⟩
    · rw [if_pos hclear] at hmark
      have houtput : ({ r with runOut := true } : Sheet).state = .output := clearOfOut_output hclear
      refine ⟨(hsheets q.tag).trans (retireAll_output hq hmark ho houtput), fun hone => ?_⟩
      have hpos : n ≠ 0 := by
        intro hzero
        rw [hzero] at hn
        have hmem : q.tag ∈ tags.filter fun tag => (s.sheet tag).any Sheet.clearOfOut := by
          simp [tags, hr, hclear]
        rw [List.length_eq_zero_iff.mp hn.symm] at hmem
        exact absurd hmem List.not_mem_nil
      have hstate : w.tsv.state = .runout := by rw [hwtsv, htsv, if_neg hpos]
      rw [hvjam, hone]
      change (retireDelivered w q.tag q.owner).jam.runOutCount = n - 1
      rw [retireDelivered_output hmark ho houtput, if_pos ⟨rfl, hstate⟩, retire_eq, hwjam, hjam]
    · rw [if_neg (by simp [hclear])] at hmark
      rw [hsheets, hvjam]
      exact retireAll_stranded hq hmark ho rfl

/-! ## The second fault (R154) -/

section SecondFault
variable (s : State) (f : PathFault)

/-- The path stopped for a second fault, before the state is entered. -/
def secondStopped (s : State) (f : PathFault) : State :=
  { strandRunOut (withdrawBoth (reportFurther s f)) with
    jam := { s.jam with further := min (s.jam.further + 1) 255, runOutCount := 0 } }

theorem secondFault_eq : secondFault s f = policyG (enter (secondStopped s f) .jammed .secondFault .none_) := by
  have hjam : (strandRunOut (withdrawBoth (reportFurther s f))).jam = (reportFurther s f).jam := by simp
  rw [secondFault]
  simp only [hjam, jam_reportFurther]
  rfl

theorem sheet_secondStopped (t : Tag) : (secondStopped s f).sheet t = (s.sheet t).map fun r =>
    if r.state = .output ∧ r.runOut = true then r.strand else r := by
  have hsheets : (withdrawBoth (reportFurther s f)).sheets = s.sheets := by simp
  exact (State.sheet_mapSheets ..).trans (by rw [sheet_of_eq hsheets])

theorem secondStopped_reads : (secondStopped s f).ptk.snapshot = latched s f true ∧
    (secondStopped s f).tsv = { s.tsv with
      mainRun := false, outputRun := false, span := none, silenceWatch := false } ∧
    (secondStopped s f).gsc = s.gsc ∧ (secondStopped s f).profile = s.profile ∧
    (secondStopped s f).cpt = (reportFurther s f).cpt := by
  refine ⟨?_, ?_, ?_, ?_, ?_⟩
  · have hptk : (secondStopped s f).ptk = (withdrawBoth (reportFurther s f)).ptk := by simp [secondStopped]
    rw [hptk]
    change (reportFurther s f).ptk.snapshot = _
    rw [ptk_reportFurther]
    rfl
  · have htsv : (secondStopped s f).tsv = (withdrawBoth (reportFurther s f)).tsv := by simp [secondStopped]
    rw [htsv, tsv_withdrawBoth]
    simp
  · simp [secondStopped]
  · simp [secondStopped]
  · simp [secondStopped]

end SecondFault

theorem runoutDone_ended {s : State} (hstate : s.tsv.state = .runout) (hcount : s.jam.runOutCount = 0) :
    runoutDone s = endRunOut s :=
  if_pos ⟨hstate, hcount⟩

/-- Settles O43: a second fault stops what the run-out left moving; RUNOUT_COMPLETE is the end of the run-out where the
count is 0. -/
theorem runoutEndsInJammed : Obligations.RunoutEndsInJammed := by
  refine ⟨fun s place f hfault hrunout => ?_, fun s => ⟨fun hstate hcount => ?_, fun hnot => ?_⟩⟩
  · have heffect : effect (.jam place) s = secondFault (dropFault s place) f := by
      rw [effect, takeFaultAt_some hfault, takeFault_runout (s := dropFault s place) hrunout]
    rw [secondFault_eq] at heffect
    have hnotices := notices_reportFurther (s := dropFault s place) f
    have hstopped := sheet_secondStopped (dropFault s place) f
    obtain ⟨hsnapshot, htsv, hgsc, hprofile, hcpt⟩ := secondStopped_reads (dropFault s place) f
    have hframe := secondFault_frame (dropFault s place) f
    rw [secondFault_eq] at hframe
    obtain ⟨-, tstu, -, ttsq, tbnm, tprofile, -, trequests⟩ := hframe
    have hjam : (secondStopped (dropFault s place) f).jam =
        { s.jam with further := min (s.jam.further + 1) 255, runOutCount := 0 } := rfl
    generalize secondStopped (dropFault s place) f = u at *
    have hsheet : ∀ t, (policyG (enter u .jammed .secondFault .none_)).sheet t = (s.sheet t).map fun r =>
        if r.state = .output ∧ r.runOut = true then { r with state := .stranded, runOut := false } else r := fun t =>
      (sheet_of_eq (by simp) t).trans (hstopped t)
    have htptk : (policyG (enter u .jammed .secondFault .none_)).ptk.snapshot = latched (dropFault s place) f true := by
      rw [← hsnapshot]
      simp
    refine ⟨_, runs_of_effect heffect, by rw [trequests]; rfl, ?_, ?_, hsheet, ?_, ?_, fun hlocked => ?_,
      fun hroom => ?_, ?_, fun g => ?_, tstu, tbnm, ttsq, tprofile, fun v hv q hq r hr ho hout hmark => ?_⟩
    · simp [hjam]
    · have htsvT : (policyG (enter u .jammed .secondFault .none_)).tsv = (enter u .jammed .secondFault .none_).tsv := by
        simp
      rw [htsvT, tsv_enter, htsv]
      rfl
    · rw [htptk, latched]
      split <;> rfl
    · rw [htptk, latched]
      split
      · assumption
      · rfl
    · exact htptk.trans (if_pos hlocked)
    · have hreported := hnotices (show s.cpt.notices.length < 32 by omega)
      have hlength : u.cpt.notices.length < 32 := by
        rw [hcpt, hreported, List.length_append]
        exact Nat.succ_lt_succ hroom
      have htcpt : (policyG (enter u .jammed .secondFault .none_)).cpt = (enter u .jammed .secondFault .none_).cpt := by
        simp
      rw [htcpt, notices_enter _ _ _ hlength, hcpt, hreported, List.append_assoc]
      rfl
    · obtain ⟨trecords, -, -⟩ := lines_policyG (enter u .jammed .secondFault .none_)
      have henter : (enter u .jammed .secondFault .none_).gsc = u.gsc := by simp
      rw [trecords, henter, hgsc]
      rfl
    · have henter : (enter u .jammed .secondFault .none_).gsc = s.gsc := by
        simp only [enter_frame, hgsc]
        rfl
      have hlimit : (enter u .jammed .secondFault .none_).limit .holdPolicy = s.limit .holdPolicy := by
        simp only [State.limit, enter_frame, hprofile]
        rfl
      rw [line_policyG, henter, hlimit]
    · obtain ⟨w, hw, -, -, hsheets, hvjam⟩ := next_records heffect hv (by rw [trequests]; rfl)
      rw [hsheets, hvjam]
      exact retireAll_stranded hq ((hw q.tag).trans ((hsheet q.tag).trans (by rw [hr, Option.map_some,
        if_pos ⟨hout, hmark⟩]))) ho rfl
  · obtain ⟨-, tstu, tsheets, -, -, tbnm, tjam, -⟩ := endRunOut_frame s
    refine ⟨_, runs_of_effect (runoutDone_ended hstate hcount), tsv_endRunOut s, ?_, notices_endRunOut s, tsheets, tjam,
      tstu, tbnm⟩
    refine vector_ext_gate fun g => ((gsc_endRunOut s).2 g).trans ?_
    by_cases hrest : s.limit .holdPolicy = 1
    · cases g <;> simp [hrest, Gate.idx]
    · simp [hrest]
  · refine runs_of_effect (if_neg ?_)
    rintro ⟨hstate, hcount⟩
    exact hnot.elim (fun h => h hstate) fun h => h hcount

end Sys2Proof.Machine
end

section
/-! Spoil ranges and the gates' due requests (R117 to R119, R123, R134 to R136). -/

namespace Sys2Proof.Machine

set_option Elab.async false

/-! ## Spoil ranges (R134, R135) -/

theorem withoutOpenRange_eq (r : BinRecord) (ident : Ident) : withoutOpenRange r ident =
    r.spoil.filter fun h => decide ¬(h.isOpen = true ∧ h.ident = ident) :=
  List.filter_congr fun g _ => by
    by_cases hopen : g.isOpen = true <;> by_cases hident : g.ident = ident <;> simp [hopen, hident]

theorem insertRange_ne_nil (g : SpoilRange) (l : List SpoilRange) : insertRange g l ≠ [] := by
  cases l with
  | nil => exact List.cons_ne_nil _ _
  | cons h t =>
    rw [insertRange]
    split <;> exact List.cons_ne_nil _ _

theorem setBin_setBin (s : State) (b : Bin) (p q : BinRecord) : (s.setBin b p).setBin b q = s.setBin b q := by
  simp [State.setBin, Vector.set_set]

theorem setBin_self_bin (s : State) (b : Bin) (r : BinRecord) : (s.setBin b r).bin b = r := by
  rw [State.bin_setBin, if_pos rfl]

theorem openSpoil_some {s : State} {b : Bin} {ident : Ident} {g : SpoilRange} (first last : Nat)
    (h : openRange (s.bin b) ident = some g) : openSpoil s b ident first last = s.setBin b { s.bin b with
      spoil := insertRange { g with first := min g.first first, last := max g.last last }
        (withoutOpenRange (s.bin b) ident) } := by
  simp only [openSpoil, h]

/-- The bin with a range opened, before the fence count is evaluated. -/
def rangeOpened (s : State) (b : Bin) (g : SpoilRange) : State :=
  s.setBin b { s.bin b with spoil := insertRange g (s.bin b).spoil }

theorem openSpoil_none {s : State} {b : Bin} {ident : Ident} (first last : Nat)
    (h : openRange (s.bin b) ident = none) :
    openSpoil s b ident first last = evaluateFence (rangeOpened s b { first, last, ident, isOpen := true }) b := by
  simp only [openSpoil, h] <;> rfl

theorem closeSpoil_eq (s : State) (b : Bin) (slot : Slot) (generation : Nat) (ident : Ident) :
    closeSpoil s b slot generation ident = s.setBin b { s.bin b with
      spoil := (s.bin b).spoil.map fun (g : SpoilRange) =>
        if g.isOpen = true ∧ g.ident = ident then { g with isOpen := false } else g
      stacking := (s.bin b).stacking.filter fun o => decide ¬(o.slot = slot ∧ o.generation = generation) } := by
  have hfilter : ∀ l : List Owner, l.filter (fun o => o != { slot, generation }) =
      l.filter fun o => decide ¬(o.slot = slot ∧ o.generation = generation) := fun l =>
    List.filter_congr fun o _ => by
      cases o
      rw [Bool.eq_iff_iff, bne_iff_ne, decide_eq_true_eq, ne_eq, Owner.mk.injEq]
  rw [closeSpoil, removeStacked, setBin_self_bin, setBin_setBin, hfilter]
  rfl

/-- The fence count depends on the ranges and the listed statements alone. -/
theorem fenceCount_evaluateFence (s : State) (b : Bin) : fenceCount (evaluateFence s b) b = fenceCount s b := by
  have hspoil : ((evaluateFence s b).bin b).spoil = (s.bin b).spoil := by
    rw [bin_evaluateFence]
    split <;> rfl
  have hstacking : ((evaluateFence s b).bin b).stacking = (s.bin b).stacking := by
    rw [bin_evaluateFence]
    split <;> rfl
  have hstu : (evaluateFence s b).stu = s.stu := by simp
  simp only [fenceCount, holdsOpenRange, State.ofPair, statement_of_eq hstu, hspoil, hstacking]

/-- Settles O40: an OPEN range is extended in place, or one is inserted and the fence count evaluated; a closing request is
`closeSpoil` written out. -/
theorem spoilRangesOpenAndClose : Obligations.SpoilRangesOpenAndClose := by
  refine ⟨fun s b ident first last rest hbins => ⟨fun g hg => runs_of_effect ?_, fun hnone => ?_⟩,
    fun s b slot generation ident rest hbins => runs_of_effect ?_⟩
  · rw [effect, takeOpening, hbins]
    dsimp only
    rw [openSpoil_some (s := { s with requests := { s.requests with bins := rest } }) first last hg,
      withoutOpenRange_eq]
    rfl
  · generalize hu : rangeOpened { s with requests := { s.requests with bins := rest } } b
      { first, last, ident, isOpen := true } = u
    have heffect : effect .spoilRangeOpening s = evaluateFence u b := by
      rw [effect, takeOpening, hbins]
      dsimp only
      rw [openSpoil_none (s := { s with requests := { s.requests with bins := rest } }) first last hnone, hu]
    have hbin : ∀ d, u.bin d = if b = d then { s.bin b with
        spoil := insertRange { first, last, ident, isOpen := true } (s.bin b).spoil } else s.bin d := fun d => by
      rw [← hu]
      exact State.bin_setBin ..
    have hown := (hbin b).trans (if_pos rfl)
    have hfence := bin_evaluateFence u b b
    rw [hown] at hfence
    have hcount : fenceCount (evaluateFence u b) b = fenceCount u b := fenceCount_evaluateFence u b
    obtain ⟨-, hstu, hsheets, -, -, -, -, -, htsv, -, -, hrequests⟩ := evaluateFence_frame u b
    refine ⟨_, runs_of_effect heffect, ?_, fun hstate => ?_, fun hready => ⟨?_, ?_⟩, ?_, ?_, ?_, fun d hd => ?_, ?_, ?_,
      ?_, ?_⟩
    · rw [hfence]
      split <;> rfl
    · rw [hfence, if_neg fun h => hstate h.2.1]
    · rw [hcount, hfence]
      by_cases hfour : 4 ≤ fenceCount u b
      · rw [if_pos ⟨rfl, hready, insertRange_ne_nil _ _, hfour⟩]
        exact ⟨fun _ => hfour, fun _ => rfl⟩
      · rw [if_neg fun h => hfour h.2.2.2]
        exact ⟨fun h => absurd (hready.symm.trans h) (by decide), fun h => absurd h hfour⟩
    · rw [hfence]
      split
      · exact .inl rfl
      · exact .inr hready
    · rw [hfence]
      split <;> rfl
    · rw [hfence]
      split <;> rfl
    · rw [hfence]
      split <;> rfl
    · rw [bin_evaluateFence, if_neg fun h => hd h.1.symm, hbin, if_neg (Ne.symm hd)]
    · rw [hrequests, ← hu]
      rfl
    · rw [hstu, ← hu]
      rfl
    · rw [hsheets, ← hu]
      rfl
    · rw [htsv, ← hu]
      rfl
  · rw [effect, takeClosing, hbins]
    exact closeSpoil_eq ..

/-! ## Due gate requests (R117 to R119, R123) -/

section Gates
variable {s : State} {g : Gate} {q : GateRequest}

theorem dueRequest_none (h : ∀ q ∈ (s.gate g).waiting, s.gateTakes q.tag = false) : s.dueRequest g = none := by
  have hnone : ((s.gate g).waiting.find? fun q => s.gateTakes q.tag) = none := by
    rw [List.find?_eq_none]
    intro q hq
    simp [h q hq]
  simp only [State.dueRequest, hnone]

theorem dueRequest_some (h : ((s.gate g).waiting.find? fun q => s.gateTakes q.tag) = some q) :
    s.dueRequest g = if reaches s.now q.count = true then some q else none := by
  simp only [State.dueRequest, h]

theorem throwDue_none (h : s.dueRequest g = none) : throwDue s g = s := by
  simp only [throwDue, h]

theorem throwDue_some (h : s.dueRequest g = some q) : throwDue s g = if q.kind = .throw then takeThrow s g q else s := by
  simp only [throwDue, h]

theorem passageDue_none (h : s.dueRequest g = none) : passageDue s g = s := by
  simp only [passageDue, h]

theorem passageDue_some (h : s.dueRequest g = some q) :
    passageDue s g = if q.kind = .passage then takePassage s g q else s := by
  simp only [passageDue, h]

/-- A THROW whose record is FREE or another pair's leaves the list alone. -/
theorem takeThrow_unclaimed (h : ∀ r, s.sheet q.tag = some r → r.owner ≠ q.owner) :
    takeThrow s g q = dropRequest s g q := by
  have hnone : (dropRequest s g q).claimed q.tag q.owner = none := by
    rw [State.claimed, Option.filter_eq_none_iff]
    exact fun r hr => by simpa using h r hr
  rw [takeThrow, hnone]

/-- The hold of a gate thrown for a record of the given length (R117). -/
def thrownHold (s : State) (q : GateRequest) (length : Nat) : Hold where
  tag := q.tag
  clearance := plus (plus (plus q.count (s.limit .throwLead)) length) (s.widened (s.limit .clearanceMargin))

/-- The gate thrown for a record of the given length, or passed on to it (R117). -/
def thrown (s : State) (g : Gate) (q : GateRequest) (length : Nat) : State :=
  ((dropRequest s g q).setGate g { (dropRequest s g q).gate g with hold := some (thrownHold s q length) }).setGateLine
    g true

theorem takeThrow_claimed {r : Sheet} (hr : s.sheet q.tag = some r) (ho : r.owner = q.owner) :
    takeThrow s g q = if g = .d then thrown s g q r.length else claimCommit (thrown s g q r.length) q.tag q.owner := by
  have hclaimed : (dropRequest s g q).claimed q.tag q.owner = some r := by
    rw [State.claimed, Option.filter_eq_some_iff]
    exact ⟨hr, by simpa using ho⟩
  rw [takeThrow, hclaimed]
  rfl

theorem gate_thrown (h : Gate) (length : Nat) : (thrown s g q length).gate h = if g = h then
    { hold := some (thrownHold s q length), waiting := (s.gate g).waiting.erase q } else s.gate h := by
  have hset : (thrown s g q length).gate h = if g = h then
      { (dropRequest s g q).gate g with hold := some (thrownHold s q length) } else (dropRequest s g q).gate h :=
    State.gate_setGate ..
  rw [hset, gate_dropRequest, if_pos rfl]
  split
  · rfl
  case isFalse hne => rw [gate_dropRequest, if_neg hne]

theorem takePassage_free (h : (s.gate g).hold = none ∨ ∃ h, (s.gate g).hold = some h ∧ isLater h.clearance q.count = false) :
    takePassage s g q = dropRequest s g q := by
  have hhold : ((dropRequest s g q).gate g).hold = (s.gate g).hold := by rw [gate_dropRequest, if_pos rfl]
  rcases h with h | ⟨k, hk, hlater⟩
  · simp only [takePassage, hhold, h]
  · simp only [takePassage, hhold, hk, hlater, Bool.false_eq_true, if_false]

theorem takePassage_held {k : Hold} (h : (s.gate g).hold = some k) (hlater : isLater k.clearance q.count = true) :
    takePassage s g q = (dropRequest s g q).handFault .gateConflict (leadSensor g) (some q.tag) := by
  have hhold : ((dropRequest s g q).gate g).hold = (s.gate g).hold := by rw [gate_dropRequest, if_pos rfl]
  simp only [takePassage, hhold, h, hlater, if_true]

theorem leadSensor_eq (g : Gate) : leadSensor g = if g = .d then .fuse else .out := by
  cases g <;> rfl

theorem takeClearance_free (h : (s.gate g).hold = none) : takeClearance s g = s := by
  simp only [takeClearance, h]

theorem takeClearance_held {k : Hold} (h : (s.gate g).hold = some k) : takeClearance s g =
    if s.clearanceTaken g = true ∧ reaches s.now k.clearance = true then
      (s.setGate g { s.gate g with hold := none }).setGateLine g false else s := by
  simp only [takeClearance, h]

theorem drivesRun_iff (s : State) : s.drivesRun = true ↔
    s.tsv.state = .starting ∨ s.tsv.state = .running ∨ s.tsv.state = .draining := by
  simp [State.drivesRun, or_assoc]

end Gates

/-- Settles O34: which requests the GSC takes; what is not due waits; a due THROW finds its record or not. -/
theorem dueThrowsThrowTheGate : Obligations.DueThrowsThrowTheGate := by
  intro s g
  refine ⟨fun hstate hfrozen tag => ?_, fun hstate tag => ?_, fun hstate tag => ?_, fun hnone => ?_,
    fun q hq hkind => ?_, fun q hq hkind => ⟨fun hwait => ?_, fun hdue => ⟨fun hother => ?_, fun r hr ho => ?_⟩⟩⟩
  · simp [State.gateTakes, (drivesRun_iff s).mpr hstate, hfrozen]
  · have hdrives : s.drivesRun = false := by simp [State.drivesRun, hstate]
    simp [State.gateTakes, hdrives, hstate, State.isRunOut, Option.any_eq_true]
  · rcases hstate with h | h <;> simp [State.gateTakes, State.drivesRun, h]
  · exact runs_of_effect (throwDue_none (dueRequest_none hnone))
  · refine runs_of_effect ?_
    by_cases hdue : reaches s.now q.count = true
    · exact (throwDue_some ((dueRequest_some hq).trans (if_pos hdue))).trans (if_neg (by simp [hkind]))
    · exact throwDue_none ((dueRequest_some hq).trans (if_neg hdue))
  · exact runs_of_effect (throwDue_none ((dueRequest_some hq).trans (if_neg (by simp [hwait]))))
  all_goals have hthrow : effect (.gateThrow g) s = takeThrow s g q :=
    (throwDue_some ((dueRequest_some hq).trans (if_pos hdue))).trans (if_pos hkind)
  · exact runs_of_effect (hthrow.trans (takeThrow_unclaimed hother))
  · have hgate := fun h => gate_thrown (s := s) (g := g) (q := q) h r.length
    have hlines : (thrown s g q r.length).gsc.lines = s.gsc.lines.set g.idx true := rfl
    have hframe : (thrown s g q r.length).sheets = s.sheets ∧ (thrown s g q r.length).requests = s.requests ∧
        (thrown s g q r.length).stu = s.stu ∧ (thrown s g q r.length).bnm = s.bnm ∧
        (thrown s g q r.length).tsv = s.tsv ∧ (thrown s g q r.length).ptk = s.ptk ∧
        (thrown s g q r.length).tsq = s.tsq ∧ (thrown s g q r.length).jam = s.jam :=
      ⟨rfl, rfl, rfl, rfl, rfl, rfl, rfl, rfl⟩
    rw [takeThrow_claimed hr ho] at hthrow
    generalize thrown s g q r.length = u at hthrow hgate hlines hframe
    obtain ⟨hsheets, hrequests, hstu, hbnm, htsv, hptk, htsq, hjam⟩ := hframe
    have hgateT : (if g = .d then u else claimCommit u q.tag q.owner).gsc = u.gsc := by
      split
      · rfl
      · simp
    refine ⟨_, runs_of_effect hthrow, (gate_of_eq hgateT g).trans ((hgate g).trans (if_pos rfl)),
      (congrArg Gates.lines hgateT).trans hlines, fun h hne =>
        (gate_of_eq hgateT h).trans ((hgate h).trans (if_neg (Ne.symm hne))), fun tag => ?_, ?_⟩
    · by_cases hd : g = .d
      · rw [if_pos hd, sheet_of_eq hsheets]
        simp only [hd, ne_eq, not_true_eq_false, false_and, and_false, if_false]
        exact (Option.map_id' (x := s.sheet tag)).symm
      · rw [if_neg hd, sheet_claimCommit, sheet_of_eq hsheets, sheet_of_eq hsheets]
        by_cases htag : q.tag = tag
        · subst htag
          rw [if_pos rfl, hr]
          simp only [Option.map_some, ho, hd, ne_eq, not_false_eq_true, true_and]
        · simp only [if_neg htag, Ne.symm htag, false_and, if_false]
          exact (Option.map_id' (x := s.sheet tag)).symm
    · rw [← hrequests, ← hstu, ← hbnm, ← htsv, ← hptk, ← htsq, ← hjam]
      split
      · exact ⟨rfl, rfl, rfl, rfl, rfl, rfl, rfl⟩
      · simp

/-- Settles O35: what is not due waits; a due PASSAGE meets the gate's hold; a clearance is taken by the transport
state. -/
theorem duePassagesAndClearances : Obligations.DuePassagesAndClearances := by
  intro s g
  refine ⟨fun hnone => ?_, fun q hq hkind => ?_, fun q hq hkind => ⟨fun hwait => ?_, fun hdue =>
    ⟨fun hfree => ?_, fun h hh hlater => ?_⟩⟩, fun hfree => runs_of_effect (takeClearance_free hfree), fun h hh =>
      ⟨fun hwait => ?_, fun hdue => ⟨fun htaken => ?_, fun hnot => ?_⟩⟩⟩
  · exact runs_of_effect (passageDue_none (dueRequest_none hnone))
  · refine runs_of_effect ?_
    by_cases hdue : reaches s.now q.count = true
    · exact (passageDue_some ((dueRequest_some hq).trans (if_pos hdue))).trans (if_neg (by simp [hkind]))
    · exact passageDue_none ((dueRequest_some hq).trans (if_neg hdue))
  · exact runs_of_effect (passageDue_none ((dueRequest_some hq).trans (if_neg (by simp [hwait]))))
  · exact runs_of_effect ((passageDue_some ((dueRequest_some hq).trans (if_pos hdue))).trans
      ((if_pos hkind).trans (takePassage_free hfree)))
  · rw [← leadSensor_eq]
    exact runs_of_effect ((passageDue_some ((dueRequest_some hq).trans (if_pos hdue))).trans
      ((if_pos hkind).trans (takePassage_held hh hlater)))
  · exact runs_of_effect ((takeClearance_held hh).trans (if_neg (by simp [hwait])))
  · have hclear : s.clearanceTaken g = true := by
      rcases htaken with ⟨hstate, hfrozen⟩ | ⟨hstate, hg⟩
      · simp [State.clearanceTaken, (drivesRun_iff s).mpr hstate, hfrozen]
      · simp [State.clearanceTaken, hstate, hg]
    exact runs_of_effect ((takeClearance_held hh).trans (if_pos ⟨hclear, hdue⟩))
  · have hkept : s.clearanceTaken g = false := by
      rcases hnot with h | h | ⟨h, hg⟩ | ⟨h, hfrozen⟩
      · simp [State.clearanceTaken, State.drivesRun, h]
      · simp [State.clearanceTaken, State.drivesRun, h]
      · simp [State.clearanceTaken, State.drivesRun, h, hg]
      · simp [State.clearanceTaken, h, hfrozen]
    exact runs_of_effect ((takeClearance_held hh).trans (if_neg (by simp [hkept])))

end Sys2Proof.Machine
end

section
/-! Cold reset: the values of every block, and a step that ends in them (R191). -/

namespace Sys2Proof.Machine

set_option Elab.async false

section Cold
variable (pending : List Instr) (lines : Lines)

/-- The evaluation finds the hold reason TRANSPORT that the reset has set, and asks for nothing. -/
theorem evaluateQueue_afterColdReset (q : Queue) :
    evaluateQueue (State.afterColdReset pending lines) q = State.afterColdReset pending lines := by
  cases q <;> rfl

theorem evaluateChanged_afterColdReset (before : State) (q : Queue) :
    evaluateChanged before (State.afterColdReset pending lines) q = State.afterColdReset pending lines := by
  rw [evaluateChanged, evaluateQueue_afterColdReset, ite_self]

theorem evaluateAfter_afterColdReset (before : State) :
    evaluateAfter before (State.afterColdReset pending lines) = State.afterColdReset pending lines := by
  rw [evaluateAfter, evaluateChanged_afterColdReset, evaluateChanged_afterColdReset]

/-- No claim waits after the reset, so the end of the step takes none. -/
theorem finish_afterColdReset (before : State) :
    finish before (State.afterColdReset pending lines) = .next (State.afterColdReset pending lines) := by
  have hretirements : takeRetirements before (State.afterColdReset pending lines) = State.afterColdReset pending lines := by
    have htake : (State.afterColdReset pending lines).requests.retires = [] := rfl
    simp only [takeRetirements, htake, List.take_nil, List.drop_nil, List.foldl_nil]
    rfl
  have hsuspects : takeSuspects before (State.afterColdReset pending lines) = State.afterColdReset pending lines := by
    have htake : (State.afterColdReset pending lines).adm.suspects = [] := rfl
    simp only [takeSuspects, htake, List.take_nil, List.drop_nil, List.foldl_nil]
    rfl
  rw [finish, hretirements]
  simp only [evaluateAfter_afterColdReset, hsuspects, ite_self]

theorem coldBin (b : Bin) : (State.afterColdReset pending lines).bin b =
    BinRecord.atReset (BinRole.atReset lines.straps.fourBins b) lines.doors[b.idx] := by
  refine (Vector.getElem_ofFn b.idx.isLt).trans ?_
  cases b <;> rfl

/-- Every block holds its cold reset value. -/
theorem coldValues_afterColdReset : ColdValues lines.straps (State.afterColdReset pending lines) where
  statements slot := ⟨Vector.getElem_replicate slot.isLt, Vector.getElem_replicate slot.isLt⟩
  sheets t := Vector.getElem_replicate t.isLt
  queues := ⟨rfl, rfl⟩
  holds := ⟨rfl, rfl⟩
  slot := ⟨rfl, rfl, rfl⟩
  trays t := Vector.getElem_replicate t.idx.isLt
  feedLines := ⟨rfl, rfl⟩
  sequence := ⟨rfl, rfl, rfl, rfl⟩
  lists x := Vector.getElem_replicate x.idx.isLt
  windows := ⟨rfl, rfl, rfl, rfl⟩
  levels x := by
    have hhigh : (State.afterColdReset pending lines).profile.polarity[x.idx] = .high :=
      Vector.getElem_replicate x.idx.isLt
    refine ⟨?_, Vector.getElem_replicate x.idx.isLt⟩
    rw [State.lineCovered, hhigh]
    rfl
  gauge := ⟨rfl, rfl⟩
  snapshot := ⟨rfl, rfl, rfl, rfl, rfl, rfl, rfl⟩
  gates g := Vector.getElem_replicate g.idx.isLt
  gateLines := ⟨rfl, rfl⟩
  roles := by
    simp only [coldBin, BinRecord.atReset, BinRole.atReset, and_self]
  bins b := by
    rw [coldBin]
    exact ⟨rfl, rfl, rfl, rfl, rfl, rfl⟩
  binStates b := by
    rw [coldBin]
    rfl
  pointer := rfl
  jam := ⟨rfl, rfl, rfl, rfl, rfl, rfl, rfl, rfl⟩
  transport := ⟨rfl, rfl, rfl, rfl, rfl, rfl, rfl, rfl, rfl, rfl⟩
  units := ⟨rfl, rfl⟩
  settings := by
    refine ⟨fun l => ?_, fun l => ?_, fun g => ?_, fun b => ?_, fun t => Vector.getElem_replicate t.idx.isLt, rfl⟩
    · exact (Vector.getElem_ofFn l.idx.isLt).trans (by cases l <;> rfl)
    · exact (Vector.getElem_ofFn l.idx.isLt).trans (by cases l <;> rfl)
    · exact (Vector.getElem_ofFn g.idx.isLt).trans (by cases g <;> rfl)
    · exact (Vector.getElem_ofFn b.idx.isLt).trans (by cases b <;> rfl)
  port := ⟨rfl, rfl, rfl, rfl, rfl, rfl, rfl, rfl, rfl⟩

end Cold

/-- Settles O3: the reset is `State.afterColdReset`, which the end of its step leaves as it is. -/
theorem coldResetSetsEveryBlock : Obligations.ColdResetSetsEveryBlock := by
  refine ⟨⟨coldValues_afterColdReset [] Lines.atPowerOn, rfl⟩, fun u s => ?_⟩
  refine ⟨State.afterColdReset s.pending { s.lines with straps := u }, ?_, ?_, rfl, rfl⟩
  · rw [exec_eq_finish]
    exact finish_afterColdReset s.pending { s.lines with straps := u } s
  · exact coldValues_afterColdReset s.pending { s.lines with straps := u }

end Sys2Proof.Machine
end

section
/-! CLEAR JAM (R111, R157 to R160): every stranded sheet resolved in turn, and the path cleared. -/

namespace Sys2Proof.Machine

set_option Elab.async false

/-! ## What a lost sheet takes from its statement (R158) -/

/-- A statement after the loss of `n` sheets at CLEAR JAM. -/
def Statement.lose (n : Nat) (st : Statement) : Statement :=
  if n = 0 then st else { st with
    state := if st.state.ended then st.state else if st.generation < 3 then .broken else .abandoned
    cause := if st.state.ended then st.cause else some .jam
    inFlight := st.inFlight - n }

theorem Statement.lose_lose (m n : Nat) (st : Statement) : (st.lose m).lose n = st.lose (m + n) := by
  by_cases hm : m = 0
  · simp [Statement.lose, hm]
  by_cases hn : n = 0
  · simp [Statement.lose, hn]
  have hended : (if st.state.ended = true then st.state
      else if st.generation < 3 then .broken else .abandoned : StatementState).ended = true := by
    by_cases he : st.state.ended = true
    · rw [if_pos he, he]
    · rw [if_neg he]
      split <;> rfl
  simp only [Statement.lose, if_neg hm, if_neg hn, if_neg (show ¬ m + n = 0 by omega), hended, if_true, Nat.sub_sub]

theorem Statement.lose_generation (n : Nat) (st : Statement) : (st.lose n).generation = st.generation := by
  rw [Statement.lose]
  split <;> rfl

/-- A loss reported and then the break JAM are the loss of one sheet. -/
theorem Statement.lose_one (st : Statement) :
    Statement.broken st.generation .jam { st with inFlight := st.inFlight - 1 } = st.lose 1 := by
  cases he : st.state.ended <;> simp [Statement.broken, Statement.lose, he]

theorem statement_reportLoss (s : State) (slot j : Slot) (generation : Nat) :
    (reportLoss s slot generation).statement j = if slot = j then
      (s.statement slot).map fun r => if r.generation = generation then { r with inFlight := r.inFlight - 1 } else r
    else s.statement j := by
  unfold reportLoss State.ofPair
  cases hs : s.statement slot with
  | none =>
    by_cases h : slot = j
    · subst h
      simp [hs]
    · simp [h]
  | some r =>
    dsimp only
    by_cases hg : r.generation = generation
    · rw [if_pos hg]
      dsimp only
      rw [statement_of_eq (closeIfClear_frame _ slot).2.1, State.statement_setStatement]
      by_cases h : slot = j <;> simp [h, hg]
    · rw [if_neg hg]
      by_cases h : slot = j
      · subst h
        simp [hs, hg]
      · simp [h]

/-! ## The waiting requests taken at a loss (R158) -/

/-- Where a sheet lies and whose it is: what no waiting request changes. -/
def Sheet.place (r : Sheet) : SheetState × Slot × Nat × Bin := (r.state, r.slot, r.generation, r.target)

/-- What a bin holds: what no request of the STU changes. -/
def BinRecord.load (r : BinRecord) : Nat × Nat := (r.reserved, r.fill)

theorem load_takeBin (s : State) (q : BinRequest) (b : Bin) : ((takeBin s q).bin b).load = (s.bin b).load := by
  cases q with
  | opening c ident first last =>
    rw [takeBin]
    cases hopen : openRange (s.bin c) ident with
    | some g =>
      rw [openSpoil_some first last hopen, State.bin_setBin]
      split
      case isTrue h => rw [← h]; rfl
      case isFalse => rfl
    | none =>
      rw [openSpoil_none first last hopen, bin_evaluateFence]
      have hopened : ∀ d g, ((rangeOpened s c g).bin d).load = (s.bin d).load := fun d g => by
        rw [rangeOpened, State.bin_setBin]
        split
        case isTrue h => rw [← h]; rfl
        case isFalse => rfl
      split
      case isTrue h => rw [← h.1]; exact hopened c _
      case isFalse => exact hopened b _
  | closing c slot generation ident =>
    rw [takeBin, closeSpoil_eq, State.bin_setBin]
    split
    case isTrue h => rw [← h]; rfl
    case isFalse => rfl

/-- What the waiting requests leave of the sheets and the bins. -/
structure Settled (s u : State) : Prop where
  place : ∀ t, (u.sheet t).map Sheet.place = (s.sheet t).map Sheet.place
  load : ∀ b, (u.bin b).load = (s.bin b).load

theorem Settled.refl (s : State) : Settled s s := ⟨fun _ => rfl, fun _ => rfl⟩

theorem Settled.trans {s t u : State} (h : Settled s t) (k : Settled t u) : Settled s u :=
  ⟨fun x => (k.place x).trans (h.place x), fun b => (k.load b).trans (h.load b)⟩

theorem Settled.of_eq {s u : State} (hsheets : u.sheets = s.sheets) (hbnm : u.bnm = s.bnm) : Settled s u :=
  ⟨fun t => by rw [sheet_of_eq hsheets], fun b => by rw [bin_of_eq hbnm]⟩

theorem settled_requests (s : State) (q : Requests) : Settled s { s with requests := q } := .of_eq rfl rfl

theorem settled_foldl {α : Type} {g : State → α → State} (h : ∀ u a, Settled u (g u a)) (l : List α) (s : State) :
    Settled s (l.foldl g s) :=
  foldl_induction (P := fun u => Settled s u) (.refl s) fun u a _ hu => hu.trans (h u a)

theorem settled_takeCondemn (s : State) (c : CondemnClaim) : Settled s (takeCondemn s c) where
  place t := by
    rw [sheet_takeCondemn, Option.map_map]
    refine congrArg (fun f => (s.sheet t).map f) (funext fun r => ?_)
    dsimp only [Function.comp]
    split <;> rfl
  load b := by rw [bin_of_eq (s := s) (by simp)]

theorem settled_takeFlush (s : State) (o : Owner) : Settled s (takeFlush s o) :=
  .of_eq (by simp) (by simp)

theorem settled_takeBin (s : State) (q : BinRequest) : Settled s (takeBin s q) :=
  ⟨fun t => by rw [sheet_of_eq (s := s) (by simp)], load_takeBin s q⟩

theorem settled_settleRequests (s : State) : Settled s (settleRequests s) := by
  have hcondemns := settled_foldl settled_takeCondemn s.requests.condemns
    { s with requests := { s.requests with condemns := [], reroutes := [] } }
  rw [settleRequests]
  generalize List.foldl takeCondemn _ _ = a at hcondemns
  have hflushes := settled_foldl settled_takeFlush a.requests.flushes
    { a with requests := { a.requests with flushes := [] } }
  generalize List.foldl takeFlush _ _ = b at hflushes
  have hbins := settled_foldl settled_takeBin b.requests.bins { b with requests := { b.requests with bins := [] } }
  exact ((settled_requests s _).trans hcondemns).trans
    (((settled_requests a _).trans hflushes).trans ((settled_requests b _).trans hbins))

/-! ## One sheet resolved (R158) -/

section Resolve
variable {s : State} {t : Tag} {r : Sheet}

theorem resolve_moving (h : ∀ r, s.sheet t = some r → r.state ≠ .stranded) : resolve s t = s := by
  unfold resolve
  split
  · rfl
  case h_2 r hr => exact if_neg (h r hr)

theorem resolve_delivered (hr : s.sheet t = some r) (hstranded : r.state = .stranded) (hd : t ∈ s.jam.delivered) :
    resolve s t = retire s t := by
  simp only [resolve, hr, hstranded, hd, if_true]

theorem resolve_lost (hr : s.sheet t = some r) (hstranded : r.state = .stranded) (hd : t ∉ s.jam.delivered) :
    resolve s t = resolveLost s t r := by
  simp only [resolve, hr, hstranded, hd, if_true, if_false]

/-- The path after the loss is reported, released and broken, with the waiting requests taken: the retirement follows. -/
def lossSettled (s : State) (r : Sheet) : State :=
  settleRequests (breakNow (release (reportLoss s r.slot r.generation) r.target) r.slot r.generation .jam)

theorem resolveLost_eq (s : State) (t : Tag) (r : Sheet) : resolveLost s t r = retire (lossSettled s r) t := rfl

theorem place_resolveLost (s : State) (t : Tag) (r : Sheet) (u : Tag) :
    ((resolveLost s t r).sheet u).map Sheet.place = if t = u then none else (s.sheet u).map Sheet.place := by
  rw [resolveLost_eq, sheet_retire]
  split
  · rfl
  · rw [lossSettled, (settled_settleRequests _).place, sheet_of_eq (s := s) (by simp)]

theorem load_resolveLost (s : State) (t : Tag) (r : Sheet) (b : Bin) : ((resolveLost s t r).bin b).load =
    if r.target = b then ((s.bin b).reserved - 1, (s.bin b).fill) else (s.bin b).load := by
  have hretire : (resolveLost s t r).bin b = (lossSettled s r).bin b := rfl
  have hbreak : ∀ u : State, (breakNow u r.slot r.generation .jam).bin b = u.bin b := fun u => bin_of_eq (by simp) b
  have hreport : ∀ c, (reportLoss s r.slot r.generation).bin c = s.bin c := fun c => bin_of_eq (by simp) c
  rw [hretire, lossSettled, (settled_settleRequests _).load, hbreak, bin_release, hreport, hreport]
  split
  case isTrue h => subst h; rfl
  case isFalse => rfl

theorem statement_resolveLost (s : State) (t : Tag) (r : Sheet) (j : Slot) : (resolveLost s t r).statement j =
    (s.statement j).map fun st => if r.slot = j ∧ r.generation = st.generation then st.lose 1 else st := by
  have hretire : (resolveLost s t r).statement j = (lossSettled s r).statement j := rfl
  have hsettle : ∀ u : State, (settleRequests u).statement j = u.statement j := fun u => statement_of_eq (by simp) j
  have hrelease : ∀ (u : State) i, (release u r.target).statement i = u.statement i := fun u i =>
    statement_of_eq (by simp) i
  rw [hretire, lossSettled, hsettle, stu_breakNow, hrelease, hrelease, statement_reportLoss, statement_reportLoss,
    if_pos rfl]
  by_cases hj : r.slot = j
  · subst hj
    rw [if_pos rfl, Option.map_map]
    refine congrArg (fun f => (s.statement r.slot).map f) (funext fun st => ?_)
    dsimp only [Function.comp]
    by_cases hg : st.generation = r.generation
    · simp only [hg, true_and, if_true]
      refine Eq.trans ?_ st.lose_one
      rw [Statement.broken]
      simp only [hg, true_and]
    · simp only [hg, Ne.symm hg, false_and, and_false, if_false]
  · rw [if_neg hj, if_neg hj]
    simp only [hj, false_and, if_false]
    exact (Option.map_id' (x := s.statement j)).symm

end Resolve

/-! ## Every sheet resolved in turn (R158) -/

/-- A tag whose stranded sheet is lost at CLEAR JAM, and satisfies `p`. -/
def isLost (s : State) (p : Sheet → Prop) [DecidablePred p] (t : Tag) : Bool :=
  (s.sheet t).any fun r => r.state = .stranded ∧ t ∉ s.jam.delivered ∧ p r

/-- What the sheets of a list leave when they have been resolved. -/
structure Resolved (l : List Tag) (s u : State) : Prop where
  jam : u.jam = s.jam
  gone : ∀ t ∈ l, ∀ r, s.sheet t = some r → r.state = .stranded → u.sheet t = none
  place : ∀ t, t ∉ l → (u.sheet t).map Sheet.place = (s.sheet t).map Sheet.place
  statements : ∀ slot, u.statement slot = (s.statement slot).map fun st =>
    st.lose (l.filter (isLost s fun r => r.slot = slot ∧ r.generation = st.generation)).length
  load : ∀ b, (u.bin b).load =
    ((s.bin b).reserved - (l.filter (isLost s fun r => r.target = b)).length, (s.bin b).fill)

theorem isLost_congr {s u : State} {t : Tag} (hjam : u.jam = s.jam)
    (hplace : (u.sheet t).map Sheet.place = (s.sheet t).map Sheet.place) (p : SheetState × Slot × Nat × Bin → Prop)
    [DecidablePred p] : isLost u (fun r => p r.place) t = isLost s (fun r => p r.place) t := by
  have hread : ∀ v : State, isLost v (fun r => p r.place) t =
      ((v.sheet t).map Sheet.place).any fun k => decide (k.1 = .stranded ∧ t ∉ v.jam.delivered ∧ p k) := fun v => by
    rw [Option.any_map]
    rfl
  rw [hread, hread, hplace, hjam]

/-- One sheet resolved, of whatever state. -/
theorem resolve_resolved (s : State) (t : Tag) : Resolved [t] s (resolve s t) := by
  by_cases hstranded : ∃ r, s.sheet t = some r ∧ r.state = .stranded
  · obtain ⟨r, hr, hstate⟩ := hstranded
    by_cases hd : t ∈ s.jam.delivered
    · have hnone : ∀ (p : Sheet → Prop) [DecidablePred p], [t].filter (isLost s p) = [] := fun p _ => by
        simp [isLost, hr, hd]
      rw [resolve_delivered hr hstate hd]
      refine ⟨rfl, fun u hu q hq _ => ?_, fun u hu => ?_, fun slot => ?_, fun b => ?_⟩
      · rw [sheet_retire, if_pos (List.mem_singleton.mp hu).symm]
      · rw [sheet_retire, if_neg fun h => hu (List.mem_singleton.mpr h.symm)]
      · simp only [hnone]
        exact (Option.map_id' (x := s.statement slot)).symm
      · rw [hnone]
        rfl
    · have hlost : ∀ (p : Sheet → Prop) [DecidablePred p], [t].filter (isLost s p) = if p r then [t] else [] :=
        fun p _ => by
          have hread : isLost s p t = decide (p r) := by simp [isLost, hr, hstate, hd]
          by_cases hp : p r <;> simp [hread, hp]
      rw [resolve_lost hr hstate hd]
      refine ⟨?_, fun u hu q hq _ => ?_, fun u hu => ?_, fun slot => ?_, fun b => ?_⟩
      · rw [← resolve_lost hr hstate hd]
        simp [resolve_lost hr hstate hd, resolveLost_eq, lossSettled, retire_eq]
      · have hplace := place_resolveLost s t r u
        rw [if_pos (List.mem_singleton.mp hu).symm, Option.map_eq_none_iff] at hplace
        exact hplace
      · rw [place_resolveLost, if_neg fun h => hu (List.mem_singleton.mpr h.symm)]
      · rw [statement_resolveLost]
        refine congrArg (fun f => (s.statement slot).map f) (funext fun st => ?_)
        rw [hlost]
        split <;> rfl
      · rw [load_resolveLost, hlost]
        split <;> rfl
  · have hmoving : ∀ r, s.sheet t = some r → r.state ≠ .stranded := fun r hr h => hstranded ⟨r, hr, h⟩
    have hnone : ∀ (p : Sheet → Prop) [DecidablePred p], [t].filter (isLost s p) = [] := fun p _ => by
      cases hr : s.sheet t with
      | none => simp [isLost, hr]
      | some r => simp [isLost, hr, hmoving r hr]
    rw [resolve_moving hmoving]
    refine ⟨rfl, fun u hu q hq hq' => ?_, fun _ _ => rfl, fun slot => ?_, fun b => ?_⟩
    · rw [List.mem_singleton.mp hu] at hq
      exact absurd hq' (hmoving q hq)
    · simp only [hnone]
      exact (Option.map_id' (x := s.statement slot)).symm
    · rw [hnone]
      rfl

/-- The sheets of a list resolved in turn, each tag once. -/
theorem resolveAll_resolved (l : List Tag) (hl : l.Nodup) (s : State) : Resolved l s (l.foldl resolve s) := by
  induction l generalizing s with
  | nil =>
    refine ⟨rfl, fun t ht => absurd ht List.not_mem_nil, fun _ _ => rfl, fun slot => ?_, fun b => rfl⟩
    exact (Option.map_id' (x := s.statement slot)).symm
  | cons t l ih =>
    obtain ⟨hnot, hnodup⟩ := List.nodup_cons.mp hl
    have hfirst := resolve_resolved s t
    have hrest := ih hnodup (resolve s t)
    have hplace : ∀ u ∈ l, ((resolve s t).sheet u).map Sheet.place = (s.sheet u).map Sheet.place := fun u hu =>
      hfirst.place u fun h => hnot (List.mem_singleton.mp h ▸ hu)
    have hcount : ∀ (p : SheetState × Slot × Nat × Bin → Prop) [DecidablePred p],
        (l.filter (isLost (resolve s t) fun r => p r.place)).length + ([t].filter (isLost s fun r => p r.place)).length =
          ((t :: l).filter (isLost s fun r => p r.place)).length := fun p _ => by
      have hsame : l.filter (isLost (resolve s t) fun r => p r.place) = l.filter (isLost s fun r => p r.place) :=
        List.filter_congr fun u hu => isLost_congr hfirst.jam (hplace u hu) p
      rw [hsame, List.filter_cons (x := t) (xs := l), List.filter_cons (x := t) (xs := []), List.filter_nil]
      split <;> simp
    refine ⟨hrest.jam.trans hfirst.jam, fun u hu r hr hstate => ?_, fun u hu => ?_, fun slot => ?_, fun b => ?_⟩
    · rcases List.mem_cons.mp hu with rfl | hmem
      · have hgone := hfirst.gone u (List.mem_singleton.mpr rfl) r hr hstate
        have hkept := hrest.place u hnot
        rw [hgone, Option.map_none, Option.map_eq_none_iff] at hkept
        exact hkept
      · have hk := hplace u hmem
        rw [hr] at hk
        obtain ⟨q, hq, hqplace⟩ := Option.map_eq_some_iff.mp hk
        exact hrest.gone u hmem q hq ((congrArg Prod.fst hqplace).trans hstate)
    · rw [List.mem_cons, not_or] at hu
      exact (hrest.place u hu.2).trans (hfirst.place u fun h => hu.1 (List.mem_singleton.mp h))
    · rw [List.foldl_cons, hrest.statements, hfirst.statements, Option.map_map]
      refine congrArg (fun f => (s.statement slot).map f) (funext fun st => ?_)
      dsimp only [Function.comp]
      rw [Statement.lose_lose, Statement.lose_generation]
      exact congrArg (fun n => st.lose n)
        ((Nat.add_comm _ _).trans (hcount fun k => k.2.1 = slot ∧ k.2.2.1 = st.generation))
    · have hload := hrest.load b
      have hbefore := hfirst.load b
      rw [BinRecord.load, Prod.mk.injEq] at hbefore
      rw [hbefore.1, hbefore.2, Nat.sub_sub] at hload
      exact hload.trans (congrArg (fun n => ((s.bin b).reserved - n, (s.bin b).fill))
        ((Nat.add_comm _ _).trans (hcount fun k => k.2.2.2 = b)))

/-! ## The path cleared (R111, R159, R160) -/

theorem anyCovered_iff (s : State) : s.anyCovered = true ↔ ∃ x, s.covered x = true := by
  have hcover : ∀ i : Fin 14, ∃ x : Sensor, x.idx = i := by
    exact fun i => ⟨Sensor.all[i.val]?.getD .f1, by revert i; decide⟩
  rw [State.anyCovered, List.any_eq_true]
  constructor
  case mp =>
    rintro ⟨b, hb, rfl⟩
    obtain ⟨i, hi, hget⟩ := List.mem_iff_getElem.mp hb
    have hlt : i < 14 := by simpa using hi
    obtain ⟨x, hx⟩ := hcover ⟨i, hlt⟩
    have hread : s.ptk.debounced[(⟨i, hlt⟩ : Fin 14)] = true := by simpa using hget
    obtain rfl : x.idx.val = i := congrArg Fin.val hx
    exact ⟨x, hread⟩
  case mpr =>
    rintro ⟨x, hx⟩
    exact ⟨true, by rw [← hx, State.covered]; simp, rfl⟩

/-- The path after the sheets are resolved, before the STOPPED is entered. -/
def pathCleared (s : State) : State :=
  let u := clearPick (clearGates (clearTracker (clearSequencer s)))
  { u with
    jam := { u.jam with runOutCount := 0, delivered := [] }
    requests := { u.requests with reroutes := [] } }

theorem clearPath_eq (s : State) :
    clearPath s = enter (pathCleared (tags.foldl resolve s)) .stopped .clearJam .none_ := rfl

theorem tsq_clearSequencer (s : State) :
    (clearSequencer s).tsq = { s.tsq with pitches := [], transferEnable := false, halted := false } := by
  rw [clearSequencer]
  exact foldl_induction (P := fun u => u.tsq = { s.tsq with pitches := [], transferEnable := false, halted := false })
    rfl fun u p _ hu => (State.notify_tsq ..).trans hu

/-- What the clearing of the path leaves. -/
theorem pathCleared_reads (s : State) : (pathCleared s).sheets = s.sheets ∧ (pathCleared s).stu = s.stu ∧
    (pathCleared s).bnm = s.bnm ∧
    (pathCleared s).tsq = { s.tsq with pitches := [], transferEnable := false, halted := false } ∧
    (pathCleared s).gsc = Gates.atReset ∧
    (pathCleared s).ptk = { s.ptk with
      lists := Vector.replicate 14 [], release := none, park := none, burst := none, frozen := false } ∧
    (pathCleared s).adm = { s.adm with pick := none, previous := none } ∧
    (pathCleared s).jam = { s.jam with runOutCount := 0, delivered := [] } ∧ (pathCleared s).tsv = s.tsv ∧
    (pathCleared s).profile = s.profile := by
  obtain ⟨-, hstu, hsheets, hadm, hptk, hgsc, hbnm, hjam, htsv, hprofile, -⟩ := clearSequencer_frame s
  have htsq := tsq_clearSequencer s
  unfold pathCleared clearPick clearGates clearTracker
  dsimp only
  rw [hstu, hsheets, hadm, hptk, hbnm, hjam, htsv, hprofile, htsq]
  simp only [and_self]

theorem resolveAll_frame (l : List Tag) (s : State) : (l.foldl resolve s).tsq = s.tsq ∧
    (l.foldl resolve s).tsv = s.tsv ∧ (l.foldl resolve s).profile = s.profile :=
  foldl_induction (P := fun u => u.tsq = s.tsq ∧ u.tsv = s.tsv ∧ u.profile = s.profile) ⟨rfl, rfl, rfl⟩
    fun u t _ hu => by simpa using hu

/-- Settles O45: the two checks, then every sheet resolved and the path cleared. -/
theorem clearJamResolvesTheStranded : Obligations.ClearJamResolvesTheStranded := by
  refine fun s hport => ⟨fun hstate => ?_, fun hstate hcovered => ?_, fun hstate hclear => ?_⟩
  · exact answers_of_effect takeClearJam rfl hport rfl (if_pos hstate)
  · refine answers_of_effect takeClearJam rfl hport rfl ?_
    rw [takeClearJam, if_neg (Classical.not_not.mpr hstate), if_pos ((anyCovered_iff s).mpr hcovered)]
    rfl
  · have hnone : ¬ s.anyCovered = true := fun h => by
      obtain ⟨x, hx⟩ := (anyCovered_iff s).mp h
      rw [hclear x] at hx
      exact Bool.false_ne_true hx
    have htake : takeClearJam [] s = (clearPath s, (.ok, [])) := by
      rw [takeClearJam, if_neg (Classical.not_not.mpr hstate), if_neg hnone]
    have hresolved := resolveAll_resolved tags (List.nodup_finRange 48) s
    obtain ⟨ftsq, ftsv, fprofile⟩ := resolveAll_frame tags s
    have hpath := clearPath_eq s
    generalize tags.foldl resolve s = u at hresolved ftsq ftsv fprofile hpath
    obtain ⟨csheets, cstu, cbnm, ctsq, cgsc, cptk, cadm, cjam, ctsv, cprofile⟩ := pathCleared_reads u
    generalize pathCleared u = w at csheets cstu cbnm ctsq cgsc cptk cadm cjam ctsv cprofile hpath
    obtain ⟨-, estu, esheets, eadm, etsq, eptk, egsc, ebnm, ejam, eprofile, -⟩ :=
      enter_frame w .stopped .clearJam .none_
    have etsv := tsv_enter w .stopped .clearJam .none_
    rw [← hpath] at estu esheets eadm etsq eptk egsc ebnm ejam eprofile etsv
    generalize clearPath s = v at htake estu esheets eadm etsq eptk egsc ebnm ejam eprofile etsv
    have hgates : v.gsc = Gates.atReset := egsc.trans cgsc
    have htracker := eptk.trans cptk
    have hload : ∀ b, (v.bin b).load = (u.bin b).load := fun b => by
      rw [bin_of_eq (ebnm.trans cbnm)]
    refine ⟨_, answers_of_effect takeClearJam rfl hport rfl htake, result_answer_ok _, fun tag r hr hstranded => ?_,
      fun slot => ?_, fun b => ?_, ?_, fun g => ?_, ?_, ?_, fun x => ?_, ?_, ?_, ?_, ?_, ?_, ?_, ?_, ?_, ?_⟩
    · exact (sheet_of_eq (esheets.trans csheets) tag).trans
        (hresolved.gone tag (List.mem_finRange tag) r hr hstranded)
    · refine (statement_of_eq (estu.trans cstu) slot).trans ((hresolved.statements slot).trans ?_)
      refine congrArg (fun f => (s.statement slot).map f) (funext fun st => ?_)
      rw [Statement.lose]
      exact ite_congr (propext List.length_eq_zero_iff) (fun _ => rfl) fun _ => rfl
    · have hb := (hload b).trans (hresolved.load b)
      exact Prod.mk.injEq .. ▸ hb
    · exact (etsq.trans ctsq).trans (by rw [ftsq])
    · exact (gate_of_eq (s := { s with gsc := Gates.atReset }) hgates g).trans (gate_atReset g)
    · exact congrArg Gates.lines hgates
    · exact congrArg Gates.frozen hgates
    · rw [State.list, State.answer_ptk, htracker]
      exact Vector.getElem_replicate x.idx.isLt
    · rw [State.answer_ptk, htracker]
    · rw [State.answer_ptk, htracker]
    · rw [State.answer_ptk, htracker]
    · rw [State.answer_ptk, htracker]
    · rw [State.answer_adm, eadm, cadm]
    · rw [State.answer_adm, eadm, cadm]
    · rw [State.answer_jam, ejam, cjam, hresolved.jam]
    · rw [State.answer_tsv, etsv, ctsv, ftsv]
    · rw [State.answer_profile, eprofile, cprofile, fprofile]

end Sys2Proof.Machine
end

section
/-! SUPPORT. Edges: the leads and trails that an accepted edge is judged to be, and the windows that close empty. -/

namespace Sys2Proof.Machine

set_option Elab.async false

/-! ## Leads that are faults (O21) -/

/-- The step of an accepted edge under which the sensor becomes COVERED is the judgement of a lead. -/
theorem runs_lead {s t : State} {x : Sensor} {c : Count} {later : Bool} (h : EdgeAccepted s x c true)
    (hlead : lead (setLevel s x true) x c = t) : Runs (.debounceComplete ⟨x, later⟩) s t :=
  runs_of_finish (by rw [exec_edge h, if_pos rfl, hlead])

/-- The step of an accepted edge under which the sensor becomes CLEAR is the judgement of a trail. -/
theorem runs_trail {s t : State} {x : Sensor} {c : Count} {later : Bool} (h : EdgeAccepted s x c false)
    (htrail : trail (setLevel s x false) x c later = t) : Runs (.debounceComplete ⟨x, later⟩) s t :=
  runs_of_finish (by rw [exec_edge h, if_neg Bool.false_ne_true, htrail])

/-- A debounce ends where no drive runs, as where it has run its distance. -/
theorem completeDebounce_ended {s : State} {x : Sensor} {c : Count} {later : Bool} (hc : s.debouncing x = some c)
    (h : s.runs = false ∨ reaches s.now (plus c (s.limit .debounceDistance)) = true) :
    completeDebounce s x later = acceptEdge s x c later := by
  simp only [completeDebounce, hc]
  exact if_pos (h.imp_left fun hr => by simp [hr])

/-- A lead with no entry that the PTK takes now is UNEXPECTED. -/
theorem lead_unexpected {s : State} {x : Sensor} {c : Count} (h : s.watched x = []) :
    lead s x c = s.handFault .unexpected x none := by
  have hover : expireOverdue s x c = s := expireOverdue_none (by simp [h])
  simp [lead, hover, h]

/-- A lead with a first entry, before which no window has closed: a loop overrun, early, or accepted. -/
theorem lead_first {s : State} {x : Sensor} {c : Count} {e : Expectation} {rest : List Expectation}
    (h : s.watched x = e :: rest) (htime : ∀ f ∈ e :: rest, isLater c f.closes = false) :
    lead s x c =
      if x = .dup2 ∧ s.parkedTag.isSome then s.handFault .loopOverrun .dup2 (some e.tag)
      else if liesBefore c e.opens then s.handFault .early x (some e.tag)
      else acceptLead s x e c := by
  have hover : expireOverdue s x c = s := expireOverdue_none (by rw [h]; exact htime)
  simp only [lead, hover, h, List.head?_cons]

/-- In RUNOUT the PTK takes the entries of the run-out records alone. -/
theorem watched_of_runout {s : State} (h : s.tsv.state = .runout) (x : Sensor) :
    s.watched x = (s.list x).filter fun e => (s.sheet e.tag).any fun r => r.runOut := by
  simp [State.watched, State.tracks, tracking_of_runout h, h, State.isRunOut]

/-- Settles O21: an edge that waits, one where the PTK takes no arrival, and the three leads that are faults. -/
theorem edgesAreAcceptedAndLeadsAreJudged : Obligations.EdgesAreAcceptedAndLeadsAreJudged := by
  intro s u x c later hu
  refine ⟨fun hnone => ?_, fun hsome hruns hdist => ?_, fun hsome hdue htracking hstate => ?_,
    ⟨fun h => watched_of_tracking h x, fun h => watched_of_runout h x⟩, fun hedge hwatched => ?_,
    fun e rest hedge hwatched htime => ?_⟩
  · exact runs_of_effect (completeDebounce_waits (by simp [hnone]))
  · refine runs_of_effect (completeDebounce_waits fun d hd => ?_)
    obtain rfl : c = d := Option.some.inj (hsome.symm.trans hd)
    exact ⟨hruns, hdist⟩
  · refine runs_of_effect ?_
    rw [effect, completeDebounce_ended hsome hdue, acceptEdge_still htracking hstate, hu]
    rfl
  all_goals
    obtain rfl : u = setLevel s x true := by rw [hu, hedge.level]; rfl
  · exact runs_lead hedge (lead_unexpected hwatched)
  · have hjudged := lead_first (s := setLevel s x true) hwatched htime
    refine ⟨fun hdup hparked => runs_lead hedge (hjudged.trans ?_), fun hfree hearly => runs_lead hedge (hjudged.trans ?_)⟩
    · rw [if_pos ⟨hdup, Option.isSome_iff_ne_none.2 hparked⟩]
    · have hnot : ¬(x = .dup2 ∧ (setLevel s x true).parkedTag.isSome = true) := fun hover =>
        Option.isSome_iff_ne_none.1 hover.2 (hfree hover.1)
      rw [if_neg hnot, if_pos hearly]

/-! ## Windows that close empty (O30) -/

theorem trayOf_isSome_iff (x : Sensor) : (trayOf x).isSome = true ↔ x ∈ [Sensor.f1, .f2, .f3] := by
  cases x <;> decide

theorem trayOf_eq_none {x : Sensor} (h : x ∉ [Sensor.f1, .f2, .f3]) : trayOf x = none :=
  Option.not_isSome_iff_eq_none.1 fun hs => h ((trayOf_isSome_iff x).1 hs)

theorem stallCause_eq (x : Sensor) : stallCause x = if x ∈ [Sensor.f1, .f2, .f3] then .overlap else .stall := by
  cases x <;> rfl

theorem expiredEntry_of_clear {s : State} {x : Sensor} (h : s.debouncing x = none) :
    s.expiredEntry x = (s.watched x).find? fun e => reaches s.now e.closes := by
  simp [State.expiredEntry, h]

theorem expiredEntry_none {s : State} {x : Sensor}
    (h : s.debouncing x ≠ none ∨ ∀ f ∈ s.watched x, reaches s.now f.closes = false) : s.expiredEntry x = none := by
  unfold State.expiredEntry
  split
  · rfl
  case isFalse hclear =>
    refine List.find?_eq_none.2 fun f hf => ?_
    rcases h with h | h
    · exact absurd (Option.isSome_iff_ne_none.2 h) hclear
    · simp [h f hf]

/-- Past the tray exits a lead window that closes empty is a jam LATE. -/
theorem expireEntry_late {s : State} {x : Sensor} {e : Expectation} (h : trayOf x = none) :
    expireEntry s x e = (dropEntry s x e).handFault .late x (some e.tag) := by
  simp only [expireEntry, h]

theorem tracks_iff (s : State) (tag : Tag) : s.tracks tag = true ↔
    s.tracking = true ∨ (s.tsv.state = .runout ∧ ∃ r, s.sheet tag = some r ∧ r.runOut = true) := by
  rw [State.tracks, Bool.or_eq_true, Bool.and_eq_true, decide_eq_true_iff, State.isRunOut, Option.any_eq_true]

theorem expireTrailOf_eq {s : State} {tag : Tag} {r : Sheet} {w : TrailPending} (hr : s.sheet tag = some r)
    (hw : r.trail = some w) : expireTrailOf s tag =
      if s.tracks tag ∧ !w.expired ∧ (s.debouncing w.sensor).isNone ∧ reaches s.now w.closes then
        expireTrail s tag r w else s := by
  simp only [expireTrailOf, hr, hw]

theorem expireReleaseWindow_eq {s : State} {w : ReleaseWindow} (h : s.ptk.release = some w) :
    expireReleaseWindow s =
      if s.tracking ∧ !w.expired ∧ (s.debouncing .dup2).isNone ∧ reaches s.now w.closes then
        expireRelease s w else s := by
  simp only [expireReleaseWindow, h]

/-- Settles O30: each of the three windows, where it is watched and due, and where it is not. -/
theorem windowsThatCloseEmptyAreJams : Obligations.WindowsThatCloseEmptyAreJams := by
  refine ⟨fun s x e hx hclear hfind => ?_, fun s x hnone => ?_, tracks_iff, fun s tag r w hr hw => ⟨?_, ?_⟩,
    fun s w hw => ⟨?_, ?_⟩⟩
  · refine runs_of_effect ?_
    have hexpired : s.expiredEntry x = some e := (expiredEntry_of_clear hclear).trans hfind
    rw [effect, if_neg (mt (trayOf_isSome_iff x).1 hx), expireAt]
    simp only [hexpired]
    exact expireEntry_late (trayOf_eq_none hx)
  · refine runs_of_effect ?_
    rw [effect, expireAt]
    simp only [expiredEntry_none hnone, ite_self]
  · intro htracks hopen hclear hdue
    refine runs_of_effect ?_
    rw [effect, expireTrailOf_eq hr hw, if_pos ⟨htracks, by simp [hopen], by simp [hclear], hdue⟩, expireTrail,
      stallCause_eq]
  · intro hnot
    refine runs_of_effect ?_
    rw [effect, expireTrailOf_eq hr hw, if_neg]
    rintro ⟨htracks, hopen, hclear, hdue⟩
    rcases hnot with h | h | h | h
    · simp [h] at htracks
    · simp [h] at hopen
    · exact h (Option.isNone_iff_eq_none.1 hclear)
    · simp [h] at hdue
  · intro htracking hopen hclear hdue
    refine runs_of_effect ?_
    rw [effect, expireReleaseWindow_eq hw, if_pos ⟨htracking, by simp [hopen], by simp [hclear], hdue⟩, expireRelease]
  · intro hnot
    refine runs_of_effect ?_
    rw [effect, expireReleaseWindow_eq hw, if_neg]
    rintro ⟨htracking, hopen, hclear, hdue⟩
    rcases hnot with h | h | h | h
    · simp [h] at htracking
    · simp [h] at hopen
    · exact h (Option.isNone_iff_eq_none.1 hclear)
    · simp [h] at hdue

/-! ## Trails (O26) -/

/-- What the judgement of a trail does with the window of its record. -/
theorem judgeTrail_eq {s : State} {tag : Tag} {r : Sheet} {w : TrailPending} {x : Sensor} {c : Count} {later : Bool}
    (hr : s.sheet tag = some r) (hw : r.trail = some w) : judgeTrail s tag x c later =
      if liesBefore c w.opens then s.handFault .short x (some tag)
      else if reaches w.closes c then acceptTrail s tag r.owner x later
      else if w.expired then s
      else expireTrail s tag r w := by
  simp only [judgeTrail, hr, hw]

/-- The record found awaits its trail at the sensor. -/
theorem sensor_of_found {s : State} {x : Sensor} {tag : Tag} {r : Sheet} {w : TrailPending}
    (hfound : s.firstTag (takesTrail s x) = some tag) (hr : s.sheet tag = some r) (hw : r.trail = some w) :
    w.sensor = x := by
  have hany : takesTrail s x r = true := by simpa [hr] using List.find?_some hfound
  have hawaits := (Bool.and_eq_true_iff.1 hany).2
  simpa [Sheet.awaitsTrail, hw] using hawaits

theorem binBehind_eq_none {x : Sensor} (h : x ∉ [Sensor.xfer, .b1, .b2, .b3, .b4, .bp]) : binBehind x = none := by
  revert h
  cases x <;> decide

/-- A trail accepted at a sensor that hands it to nobody is the trail claim alone. -/
theorem acceptTrail_claim {s : State} {tag : Tag} {o : Owner} {x : Sensor} {later : Bool}
    (h : x ∉ [Sensor.xfer, .b1, .b2, .b3, .b4, .bp]) : acceptTrail s tag o x later = claimTrail s tag o x := by
  have hxfer : x ≠ .xfer := fun hx => h (by simp [hx])
  simp only [acceptTrail, binBehind_eq_none h, if_neg hxfer]

theorem moving_iff (r : Sheet) : r.moving = true ↔ r.state ∈ [SheetState.main, .loop, .output] := by
  simp [Sheet.moving, or_assoc]

theorem claimTrail_moving {s : State} {tag : Tag} {r : Sheet} {x : Sensor} (hr : s.sheet tag = some r)
    (hmoving : r.state ∈ [SheetState.main, .loop, .output]) :
    claimTrail s tag r.owner x = s.setSheet tag (some { r with trail := trailAfter s r x }) :=
  claim_taken hr rfl (if_pos ((moving_iff r).2 hmoving))

theorem claimTrail_still {s : State} {tag : Tag} {r : Sheet} {x : Sensor} (hr : s.sheet tag = some r)
    (hstill : r.state ∉ [SheetState.main, .loop, .output]) : claimTrail s tag r.owner x = s := by
  refine claim_dropped fun q hq _ => ?_
  obtain rfl : r = q := Option.some.inj (hr.symm.trans hq)
  exact if_neg (mt (moving_iff r).1 hstill)

theorem trailAfter_here {s : State} {r : Sheet} {x : Sensor} (h : r.lastSensor = some x) :
    trailAfter s r x = none := by
  unfold trailAfter
  split
  case h_1 l c hl _ => exact if_pos (Option.some.inj (hl.symm.trans h))
  case h_2 => rfl

theorem trailAfter_later {s : State} {r : Sheet} {x y : Sensor} {d : Count} (hy : r.lastSensor = some y)
    (hne : y ≠ x) (hd : r.lastLead = some d) : trailAfter s r x = some (trailWindow s r y d) := by
  simp only [trailAfter, hy, hd, if_neg hne]

section matching
variable {s : State} {x : Sensor} {c : Count} {later : Bool}

/-- A DUP2 trail that no window awaits is SHORT with a parked sheet. -/
theorem matchTrail_parked {tag : Tag} (hnone : (s.firstTag fun q => q.awaitsTrail x) = none) (hx : x = .dup2)
    (hparked : s.parkedTag = some tag) : matchTrail s x c later = s.handFault .short x (some tag) := by
  subst hx
  simp only [matchTrail, hnone, hparked, Option.isSome_some, and_self, if_true]

theorem not_loopTrail (hfree : x = .dup2 → s.parkedTag = none) : ¬(x = .dup2 ∧ s.parkedTag.isSome = true) := by
  rintro ⟨hx, hparked⟩
  simp [hfree hx] at hparked

/-- A trail that no window awaits is SHORT where a sheet was left behind at its sensor. -/
theorem matchTrail_leftBehind {tag : Tag} (hnone : (s.firstTag fun q => q.awaitsTrail x) = none)
    (hfree : x = .dup2 → s.parkedTag = none) (hleft : (s.firstTag fun q => q.leftBehind x) = some tag) :
    matchTrail s x c later = s.handFault .short x (some tag) := by
  simp only [matchTrail, hnone, if_neg (not_loopTrail hfree), hleft]

theorem matchTrail_none (hnone : (s.firstTag fun q => q.awaitsTrail x) = none)
    (hfree : x = .dup2 → s.parkedTag = none) (hleft : (s.firstTag fun q => q.leftBehind x) = none) :
    matchTrail s x c later = s := by
  simp only [matchTrail, hnone, if_neg (not_loopTrail hfree), hleft]

end matching

/-- While every record is tracked, a trail that no release window takes first is matched to a record. -/
theorem trail_tracking {s : State} {x : Sensor} {c : Count} {later : Bool} (ht : s.tracking = true)
    (hr : x = .dup2 → s.ptk.release = none) : trail s x c later = matchTrail s x c later := by
  unfold trail
  rw [if_pos ht]
  split
  case h_1 w hw => exact absurd (hr rfl) (by simp [hw])
  case h_2 => rfl

theorem trail_release {s : State} {w : ReleaseWindow} {c : Count} {later : Bool} (ht : s.tracking = true)
    (hw : s.ptk.release = some w) : trail s .dup2 c later = judgeRelease s w c := by
  unfold trail
  rw [if_pos ht]
  split
  case h_1 v hv => rw [Option.some.inj (hv.symm.trans hw)]
  case h_2 hno => exact (hno w rfl hw).elim

/-- In RUNOUT a trail that no run-out record awaits is judged no further. -/
theorem trail_unawaited {s : State} {x : Sensor} {c : Count} {later : Bool} (ht : s.tracking = false)
    (h : ∀ tag r, s.sheet tag = some r → r.runOut = true → r.awaitsTrail x = false) : trail s x c later = s := by
  have hnone : (s.firstTag fun r => r.runOut && r.awaitsTrail x) = none := by
    refine List.find?_eq_none.2 fun tag _ => ?_
    cases hr : s.sheet tag with
    | none => simp
    | some r =>
      have := h tag r hr
      cases hout : r.runOut <;> simp_all
  unfold trail
  rw [if_neg (by simp [ht])]
  simp only [hnone]

/-- Settles O26: the window of the first record that awaits the trail, no window for it, the trail in RUNOUT that no
run-out record awaits, and the release window. -/
theorem trailsAreJudgedAgainstTheirWindow : Obligations.TrailsAreJudgedAgainstTheirWindow := by
  intro s u x c later hedge hu
  obtain rfl : u = setLevel s x false := hu
  refine ⟨fun hrelease tag r w hfound hr hw => ?_, fun htracking hrelease hnone => ⟨?_, fun hfree => ⟨?_, ?_⟩⟩,
    fun hstate hno => ?_, fun w htracking hx hw => ?_⟩
  · have hsensor := sensor_of_found hfound hr hw
    have hjudged : trail (setLevel s x false) x c later = _ :=
      (trail_found (s := setLevel s x false) hrelease hfound later).trans (judgeTrail_eq hr hw)
    refine ⟨fun hshort => ?_, fun hopened hclosed hexpired => ?_, fun hopened hclosed hexpired => ?_,
      fun hopened hclosed hx => ?_⟩
    · exact runs_trail hedge (hjudged.trans (if_pos hshort))
    · refine runs_trail hedge (hjudged.trans ?_)
      rw [if_neg (by simp [hopened]), if_neg (by simp [hclosed]), if_neg (by simp [hexpired]), expireTrail, stallCause_eq,
        hsensor]
    · refine runs_trail hedge (hjudged.trans ?_)
      rw [if_neg (by simp [hopened]), if_neg (by simp [hclosed]), if_pos hexpired]
    · have haccepted : trail (setLevel s x false) x c later = claimTrail (setLevel s x false) tag r.owner x := by
        rw [hjudged, if_neg (by simp [hopened]), if_pos hclosed, acceptTrail_claim hx]
      refine ⟨fun hmoving => ?_, fun hstill => runs_trail hedge (haccepted.trans (claimTrail_still hr hstill))⟩
      have hclaimed := haccepted.trans (claimTrail_moving hr hmoving)
      refine ⟨fun hlast => ?_, fun y d hlast hne hlead => ?_⟩
      · rw [trailAfter_here hlast] at hclaimed
        exact runs_trail hedge hclaimed
      · rw [trailAfter_later hlast hne hlead] at hclaimed
        exact runs_trail hedge hclaimed
  · intro tag hx hparked
    refine runs_trail hedge ((trail_tracking (s := setLevel s x false) htracking hrelease).trans ?_)
    exact (matchTrail_parked hnone hx hparked)
  · intro tag hleft
    refine runs_trail hedge ((trail_tracking (s := setLevel s x false) htracking hrelease).trans ?_)
    exact matchTrail_leftBehind hnone hfree hleft
  · intro hleft
    refine runs_trail hedge ((trail_tracking (s := setLevel s x false) htracking hrelease).trans ?_)
    exact matchTrail_none hnone hfree hleft
  · exact runs_trail hedge (trail_unawaited (tracking_of_runout hstate) hno)
  · subst hx
    have hjudged : trail (setLevel s .dup2 false) .dup2 c later = judgeRelease (setLevel s .dup2 false) w c :=
      trail_release htracking hw
    refine ⟨fun hshort => ?_, fun hopened hclosed => ?_, fun hopened hclosed hexpired => ?_,
        fun hopened hclosed hexpired => ?_⟩ <;> refine runs_trail hedge (hjudged.trans ?_)
    · exact if_pos hshort
    · rw [judgeRelease, if_neg (by simp [hopened]), if_pos hclosed]
    · rw [judgeRelease, if_neg (by simp [hopened]), if_neg (by simp [hclosed]), if_neg (by simp [hexpired]),
        expireRelease]
    · rw [judgeRelease, if_neg (by simp [hopened]), if_neg (by simp [hclosed]), if_pos hexpired]

end Sys2Proof.Machine
end

section
/-! SUPPORT. Accepted leads: the state in which the sheet has been entered, and the hand-offs after it. -/

namespace Sys2Proof.Machine

set_option Elab.async false

/-! ## What a hand-off can change -/

/-- `u` is `s` after hand-offs for a tag: no record but that of the tag has changed, and that one at most in its sides;
no list and no park watch has changed, and no fault is lost. -/
structure HandedOff (tag : Tag) (s u : State) : Prop where
  others : ∀ v, v ≠ tag → u.sheet v = s.sheet v
  record : ∀ r, s.sheet tag = some r → ∃ front back, u.sheet tag = some { r with front, back }
  lists : u.ptk.lists = s.ptk.lists
  park : u.ptk.park = s.ptk.park
  faults : ∃ fs, u.requests.faults = s.requests.faults ++ fs

namespace HandedOff
variable {tag : Tag} {s u v : State}

theorem refl (tag : Tag) (s : State) : HandedOff tag s s :=
  ⟨fun _ _ => rfl, fun r hr => ⟨r.front, r.back, hr⟩, rfl, rfl, [], (List.append_nil _).symm⟩

theorem trans (h : HandedOff tag s u) (k : HandedOff tag u v) : HandedOff tag s v where
  others w hw := (k.others w hw).trans (h.others w hw)
  record r hr := by
    obtain ⟨f, b, hu⟩ := h.record r hr
    obtain ⟨f', b', hv⟩ := k.record _ hu
    exact ⟨f', b', hv⟩
  lists := k.lists.trans h.lists
  park := k.park.trans h.park
  faults := by
    obtain ⟨fs, hfs⟩ := h.faults
    obtain ⟨gs, hgs⟩ := k.faults
    exact ⟨fs ++ gs, by rw [hgs, hfs, List.append_assoc]⟩

theorem of_sheets (hsheets : u.sheets = s.sheets) (hlists : u.ptk.lists = s.ptk.lists)
    (hpark : u.ptk.park = s.ptk.park) (hfaults : ∃ fs, u.requests.faults = s.requests.faults ++ fs) :
    HandedOff tag s u where
  others v _ := by rw [State.sheet, State.sheet, hsheets]
  record r hr := ⟨r.front, r.back, by rw [State.sheet, hsheets]; exact hr⟩
  lists := hlists
  park := hpark
  faults := hfaults

end HandedOff

theorem tag_of_pitchOf {s : State} {tag : Tag} {p : Pitch} (h : s.pitchOf tag = some p) : p.tag = tag := by
  simpa using List.find?_some h

theorem handedOff_claimSide (s : State) (tag : Tag) (slot : Slot) (generation : Nat) (side : Side) (v : SideState) :
    HandedOff tag s (claimSide s tag slot generation side v) where
  others u hu := by rw [sheet_claimSide, if_neg (Ne.symm hu)]
  record r hr := by
    rw [sheet_claimSide, if_pos rfl, hr, Option.map_some]
    split
    · cases side
      · exact ⟨v, r.back, rfl⟩
      · exact ⟨r.front, some v, rfl⟩
    · exact ⟨r.front, r.back, rfl⟩
  lists := by simp
  park := by simp
  faults := ⟨[], by simp⟩

theorem handedOff_missPitch (s : State) {p : Pitch} {tag : Tag} (htag : p.tag = tag) (reason : MissReason) :
    HandedOff tag s (missPitch s p reason) where
  others u hu := by
    rw [sheet_missPitch]
    simp only [htag, hu, false_and, if_false]
    exact Option.map_id'
  record r hr := by
    subst htag
    rw [sheet_missPitch, hr, Option.map_some]
    split
    · cases p.side
      · exact ⟨.missed, r.back, rfl⟩
      · exact ⟨r.front, some .missed, rfl⟩
    · exact ⟨r.front, r.back, rfl⟩
  lists := by simp
  park := by simp
  faults := ⟨[], by rw [requests_missPitch]; simp⟩

theorem handedOff_updatePitch (s : State) (tag u : Tag) (f : Pitch → Pitch) : HandedOff tag s (s.updatePitch u f) :=
  .of_sheets rfl rfl rfl ⟨[], (List.append_nil _).symm⟩

theorem handedOff_setTransferEnable (s : State) (tag : Tag) (b : Bool) : HandedOff tag s (s.setTransferEnable b) :=
  .of_sheets rfl rfl rfl ⟨[], (List.append_nil _).symm⟩

theorem handedOff_expireDeadline (s : State) (tag : Tag) : HandedOff tag s (expireDeadline s tag) := by
  unfold expireDeadline
  split
  · exact .refl tag s
  case h_2 p hp =>
    split
    · exact handedOff_missPitch s (tag_of_pitchOf hp) .deadline
    · exact .refl tag s

theorem handedOff_moveDeadline (s : State) (tag : Tag) (predicted : Count) :
    HandedOff tag s (moveDeadline s tag predicted) :=
  (handedOff_updatePitch s tag tag _).trans (handedOff_expireDeadline _ tag)

/-- The admission as the end of a pick leaves it, before the deadline moves (R54, R61). -/
def pickEnded (s : State) (tag : Tag) (tray : Tray) (predicted : Count) : State :=
  { s.setPickLine tray false with adm := { (s.setPickLine tray false).adm with
      pick := if s.adm.pick.any fun p => p.tag = tag then none else s.adm.pick
      previous := s.adm.previous.map fun g => if g.tag = tag then { g with predicted := predicted } else g } }

theorem pickDone_eq (s : State) (tag : Tag) (tray : Tray) (c : Count) : pickDone s tag tray c =
    moveDeadline (pickEnded s tag tray (plus c (s.leg (regLegOf tray)))) tag (plus c (s.leg (regLegOf tray))) := rfl

theorem handedOff_pickDone (s : State) (tag : Tag) (tray : Tray) (c : Count) :
    HandedOff tag s (pickDone s tag tray c) :=
  (HandedOff.of_sheets (s := s) (u := pickEnded s tag tray (plus c (s.leg (regLegOf tray)))) rfl rfl rfl
    ⟨[], (List.append_nil _).symm⟩).trans (handedOff_moveDeadline _ tag _)

theorem handedOff_registerPitch (s : State) (tag : Tag) : HandedOff tag s (registerPitch s tag) := by
  unfold registerPitch
  split
  · exact .refl tag s
  case h_2 p hp =>
    refine (handedOff_updatePitch s tag tag fun q => { q with registered := true }).trans ?_
    dsimp only
    split
    · exact ((handedOff_updatePitch _ tag tag _).trans (handedOff_claimSide _ tag _ _ _ _)).trans
        (handedOff_setTransferEnable _ tag true)
    · exact (handedOff_missPitch _ (tag_of_pitchOf hp) _).trans (handedOff_setTransferEnable _ tag false)
    · exact handedOff_setTransferEnable _ tag false
    · exact .refl tag _

theorem handedOff_startBurst (s : State) (tag : Tag) (before : Option Sheet) (c : Count) :
    HandedOff tag s (startBurst s tag before c) := by
  unfold startBurst
  split
  · exact .refl tag s
  · split
    · exact .of_sheets rfl rfl rfl ⟨[], (List.append_nil _).symm⟩
    · exact .refl tag s

theorem handedOff_addRequest (s : State) (tag : Tag) (g : Gate) (q : GateRequest) :
    HandedOff tag s (addRequest s g q) :=
  .of_sheets (by simp) (by simp) (by simp) ⟨_, faults_addRequest s g q⟩

theorem handedOff_scheduleD (s : State) (tag : Tag) (o : Owner) (c : Count) :
    HandedOff tag s (scheduleD s tag o c) := by
  unfold scheduleD
  split
  · exact .refl tag s
  · exact handedOff_addRequest s tag _ _

theorem handedOff_scheduleG (s : State) (tag : Tag) (o : Owner) (c : Count) :
    HandedOff tag s (scheduleG s tag o c) := by
  unfold scheduleG
  split
  · exact .refl tag s
  · exact foldl_induction (P := HandedOff tag s) (.refl tag s) fun u _ _ h => h.trans (handedOff_addRequest u tag _ _)

theorem handedOff_leadAtBin (s : State) (tag : Tag) (b : Bin) : HandedOff tag s (leadAtBin s b tag) := by
  unfold leadAtBin
  split
  · exact .of_sheets rfl rfl rfl ⟨[_], rfl⟩
  · exact .refl tag s

/-- The hand-offs of an accepted lead. -/
theorem handedOff_handLead (s : State) (tag : Tag) (o : Owner) (x : Sensor) (before : Option Sheet) (c : Count) :
    HandedOff tag s (handLead s tag o x before c) := by
  cases x with
  | f1 | f2 | f3 => exact handedOff_pickDone s tag _ c
  | reg => exact (handedOff_registerPitch s tag).trans (handedOff_startBurst _ tag before c)
  | fuse => exact handedOff_scheduleD s tag o c
  | out => exact handedOff_scheduleG s tag o c
  | b1 | b2 | b3 | b4 | bp => exact handedOff_leadAtBin s tag _
  | xfer | dup1 | dup2 => exact .refl tag s

/-! ## The sheet entered at the next sensor -/

/-- The state of an accepted lead before its hand-offs: the entry removed, the claim made, the next entry set. -/
def entered (s : State) (x : Sensor) (e : Expectation) (c : Count) : State :=
  nextEntry (claimLead (dropEntry s x e) e.tag e.owner x c) e.tag e.owner x c

theorem acceptLead_eq (s : State) (x : Sensor) (e : Expectation) (c : Count) :
    acceptLead s x e c = handLead (entered s x e c) e.tag e.owner x (s.claimed e.tag e.owner) c := rfl

/-- The record as an accepted lead leaves it (R27). -/
def Sheet.led (s : State) (x : Sensor) (c : Count) (st : SheetState) (r : Sheet) : Sheet :=
  { r with
    state := st
    lastSensor := some x
    lastLead := some c
    trail := if r.trail.isSome then r.trail else some (trailWindow s r x c) }

theorem sheet_entered (s : State) (x : Sensor) (e : Expectation) (c : Count) (u : Tag) :
    (entered s x e c).sheet u = if e.tag = u then
        (s.sheet e.tag).map fun r => if r.owner = e.owner then (match leadState x r with
          | none => r
          | some st => r.led s x c st) else r
      else s.sheet u := by
  have hnext : (entered s x e c).sheet u = (claimLead (dropEntry s x e) e.tag e.owner x c).sheet u := by
    simp [entered, State.sheet]
  rw [hnext, sheet_claimLead]
  simp only [State.sheet, dropEntry_frame]
  rfl

/-- The state in which the claim of an accepted lead has been made. -/
def leadClaimed (s : State) (x : Sensor) (e : Expectation) (c : Count) : State :=
  claimLead (dropEntry s x e) e.tag e.owner x c

theorem list_leadClaimed (s : State) (x y : Sensor) (e : Expectation) (c : Count) :
    (leadClaimed s x e c).list y = if x = y then (s.list x).erase e else s.list y := by
  rw [← list_dropEntry]
  simp [leadClaimed, State.list]

section accepted
variable {s : State} {x y : Sensor} {e : Expectation} {c : Count} {r : Sheet} {st : SheetState} {l : Leg}

theorem claimed_leadClaimed (hr : s.sheet e.tag = some r) (ho : r.owner = e.owner) (hst : leadState x r = some st) :
    (leadClaimed s x e c).claimed e.tag e.owner = some (r.led s x c st) := by
  have hsheet : (leadClaimed s x e c).sheet e.tag = some (r.led s x c st) := by
    rw [leadClaimed, sheet_claimLead, if_pos rfl]
    have hdrop : (dropEntry s x e).sheet e.tag = some r := hr
    rw [hdrop, Option.map_some, if_pos ho, hst]
    rfl
  have howner : (r.led s x c st).owner = e.owner := ho
  simp [State.claimed, hsheet, howner]

theorem claimed_leadClaimed_none (h : ∀ r, s.sheet e.tag = some r → r.owner ≠ e.owner) :
    (leadClaimed s x e c).claimed e.tag e.owner = none := by
  have hsheet : (leadClaimed s x e c).sheet e.tag = s.sheet e.tag := by
    rw [leadClaimed, sheet_claimLead, if_pos rfl]
    have hdrop : (dropEntry s x e).sheet e.tag = s.sheet e.tag := rfl
    rw [hdrop]
    cases hr : s.sheet e.tag with
    | none => rfl
    | some r => simp [h r hr]
  rw [State.claimed, hsheet, Option.filter_eq_none_iff]
  exact fun r hr => by simpa using h r hr

theorem nextHop_led : nextHop (r.led s x c st) x = nextHop r x := by
  cases x <;> rfl

/-- The entry at the next sensor of the route. -/
theorem entered_hop (hr : s.sheet e.tag = some r) (ho : r.owner = e.owner) (hst : leadState x r = some st)
    (hop : nextHop r x = some (y, l)) : entered s x e c = expect (leadClaimed s x e c) y
      (entryAt s e.tag e.owner (plus c (s.leg l)) (s.limit .leadTolerance)) := by
  have hclaimed := claimed_leadClaimed (c := c) hr ho hst
  rw [entered, ← leadClaimed, nextEntry]
  simp only [hclaimed, nextHop_led, hop]
  simp [leadClaimed, State.leg, State.limit, entryAt, State.widened]

/-- The park watch at DUP2. -/
theorem entered_park (hr : s.sheet e.tag = some r) (ho : r.owner = e.owner) (hst : leadState .dup2 r = some st) :
    entered s .dup2 e c = { leadClaimed s .dup2 e c with ptk := { (leadClaimed s .dup2 e c).ptk with
      park := some { tag := e.tag, owner := e.owner, count := plus c (s.leg .park) } } } := by
  have hclaimed := claimed_leadClaimed (c := c) hr ho hst
  rw [entered, ← leadClaimed, nextEntry]
  simp only [hclaimed, nextHop_led]
  simp [leadClaimed, State.leg, nextHop]

/-- At a bin the route ends. -/
theorem entered_end (hr : s.sheet e.tag = some r) (ho : r.owner = e.owner) (hst : leadState x r = some st)
    (hop : nextHop r x = none) (hx : x ≠ .dup2) : entered s x e c = leadClaimed s x e c := by
  have hclaimed := claimed_leadClaimed (c := c) hr ho hst
  rw [entered, ← leadClaimed, nextEntry]
  simp only [hclaimed, nextHop_led, hop, if_neg hx]

/-- A sheet whose claim is dropped is entered nowhere (R22, R39). -/
theorem entered_unclaimed (h : ∀ r, s.sheet e.tag = some r → r.owner ≠ e.owner) :
    entered s x e c = leadClaimed s x e c := by
  rw [entered, ← leadClaimed, nextEntry]
  simp only [claimed_leadClaimed_none h]

theorem list_leadClaimed_self : (leadClaimed s x e c).list x = (s.list x).erase e := by
  rw [list_leadClaimed, if_pos rfl]

theorem list_leadClaimed_ne {z : Sensor} (hz : z ≠ x) : (leadClaimed s x e c).list z = s.list z := by
  rw [list_leadClaimed, if_neg (Ne.symm hz)]

theorem list_entered_hop (hr : s.sheet e.tag = some r) (ho : r.owner = e.owner) (hst : leadState x r = some st)
    (hop : nextHop r x = some (y, l)) (z : Sensor) : (entered s x e c).list z =
      if y = z ∧ (s.list y).length < 4 then
        insertByOpen (entryAt s e.tag e.owner (plus c (s.leg l)) (s.limit .leadTolerance)) (s.list y)
      else (leadClaimed s x e c).list z := by
  rw [entered_hop hr ho hst hop, list_expect, list_leadClaimed_ne (nextHop_ne hop)]

theorem faults_entered_hop (hr : s.sheet e.tag = some r) (ho : r.owner = e.owner) (hst : leadState x r = some st)
    (hop : nextHop r x = some (y, l)) (hfull : 4 ≤ (s.list y).length) :
    { cause := .trackFull, sensor := y, tag := some e.tag } ∈ (entered s x e c).requests.faults := by
  rw [entered_hop hr ho hst hop, faults_expect, list_leadClaimed_ne (nextHop_ne hop), if_neg (by omega)]
  simp [entryAt]

theorem list_entered_end (hr : s.sheet e.tag = some r) (ho : r.owner = e.owner) (hst : leadState x r = some st)
    (hop : nextHop r x = none) (z : Sensor) : (entered s x e c).list z = (leadClaimed s x e c).list z := by
  by_cases hx : x = .dup2
  · subst hx
    rw [entered_park hr ho hst]
    rfl
  · rw [entered_end hr ho hst hop hx]

theorem park_leadClaimed : (leadClaimed s x e c).ptk.park = s.ptk.park := by
  simp [leadClaimed, dropEntry, State.setList]

theorem park_entered (hr : s.sheet e.tag = some r) (ho : r.owner = e.owner) (hst : leadState x r = some st)
    (hx : x ≠ .dup2) : (entered s x e c).ptk.park = s.ptk.park := by
  cases hop : nextHop r x with
  | none => rw [entered_end hr ho hst hop hx, park_leadClaimed]
  | some k =>
    obtain ⟨y, l⟩ := k
    refine Eq.trans ?_ (park_leadClaimed (x := x) (e := e) (c := c))
    rw [entered_hop hr ho hst hop, expect]
    split <;> rfl

theorem park_entered_dup2 (hr : s.sheet e.tag = some r) (ho : r.owner = e.owner) (hst : leadState .dup2 r = some st) :
    (entered s .dup2 e c).ptk.park = some { tag := e.tag, owner := e.owner, count := plus c (s.leg .park) } := by
  rw [entered_park hr ho hst]

/-- The claim of a lead is taken in the state that its sensor asks for (R27). -/
theorem leadState_of (h : (x = exitOf r.tray ∧ r.state = .picking ∧ st = .main) ∨
      (x = .dup1 ∧ r.state = .main ∧ st = .loop) ∨ (x = .out ∧ r.state = .main ∧ st = .output) ∨
      (x ∉ [Sensor.f1, .f2, .f3, .dup1, .out] ∧ r.state ∈ [SheetState.main, .loop, .output] ∧ st = r.state)) :
    leadState x r = some st := by
  rcases h with ⟨rfl, hpicking, rfl⟩ | ⟨rfl, hmain, rfl⟩ | ⟨rfl, hmain, rfl⟩ | ⟨hx, hmoving, rfl⟩
  · cases ht : r.tray <;> simp [leadState, exitOf, hpicking, ht]
  · simp [leadState, hmain]
  · simp [leadState, hmain]
  · have hmoves := (moving_iff r).2 hmoving
    cases x with
    | f1 | f2 | f3 | dup1 | out => exact absurd (by decide) hx
    | reg | xfer | fuse | dup2 | b1 | b2 | b3 | b4 | bp => exact if_pos hmoves

theorem sheets_leadClaimed_none (h : ∀ r, s.sheet e.tag = some r → r.owner ≠ e.owner) :
    (leadClaimed s x e c).sheets = s.sheets := by
  rw [leadClaimed, claimLead, claim_dropped]
  · simp
  · exact fun r hr ho => absurd ho (h r (by simpa [State.sheet] using hr))

end accepted

section handoffs
variable (s : State) (x : Sensor) (e : Expectation) (c : Count)

theorem handedOff_acceptLead : HandedOff e.tag (entered s x e c) (acceptLead s x e c) :=
  handedOff_handLead _ _ _ _ _ _

theorem list_acceptLead (z : Sensor) : (acceptLead s x e c).list z = (entered s x e c).list z := by
  rw [State.list, (handedOff_acceptLead s x e c).lists]
  rfl

theorem faults_acceptLead {q : PathFault} (h : q ∈ (entered s x e c).requests.faults) :
    q ∈ (acceptLead s x e c).requests.faults := by
  obtain ⟨fs, hfs⟩ := (handedOff_acceptLead s x e c).faults
  rw [hfs]
  exact List.mem_append_left fs h

theorem covered_acceptLead (y : Sensor) : (acceptLead s x e c).covered y = s.covered y := by
  have hdebounced := (congrArg Prod.fst (levels_acceptLead s x e c) :)
  exact congrArg (fun v : Vector Bool 14 => v[y.idx]) hdebounced

end handoffs

/-- Past the tray exits and REG the hand-offs of a lead touch no record; with no record of the pair they schedule
no gate either. -/
theorem handLead_unclaimed {s : State} {tag : Tag} {o : Owner} {x : Sensor} {before : Option Sheet} {c : Count}
    (hno : s.claimed tag o = none) (hx : x ∉ [Sensor.f1, .f2, .f3, .reg]) :
    (handLead s tag o x before c).sheets = s.sheets ∧ (handLead s tag o x before c).gsc = s.gsc := by
  have hschedulable : s.schedulable tag o = none := by rw [State.schedulable, hno, Option.filter_none]
  cases x with
  | f1 | f2 | f3 | reg => exact absurd (by decide) hx
  | fuse => simp only [handLead, scheduleD, hschedulable, and_self]
  | out => simp only [handLead, scheduleG, hschedulable, and_self]
  | b1 | b2 | b3 | b4 | bp => simp [handLead]
  | xfer | dup1 | dup2 => exact ⟨rfl, rfl⟩

/-- The step of an accepted lead, with the level it is accepted at. -/
theorem runs_acceptLead {s : State} {x : Sensor} {c : Count} {e : Expectation} {rest : List Expectation}
    (h : LeadTaken s x c e rest) (later : Bool) :
    Runs (.debounceComplete ⟨x, later⟩) s (acceptLead (setLevel s x true) x e c) ∧
      (acceptLead (setLevel s x true) x e c).covered x = true :=
  ⟨runs_of_finish (exec_lead h later), by rw [covered_acceptLead, covered_setLevel, if_pos rfl]⟩

/-! ## Accepted leads (O22) -/

/-- Settles O22: the record led on, the next entry or the park watch, and the claim that is dropped. -/
theorem acceptedLeadsMoveTheSheetOn : Obligations.AcceptedLeadsMoveTheSheetOn := by
  refine ⟨fun s x c e rest r st later htaken hr ho hcase => ?_, fun s x c e rest later htaken hno hx => ?_⟩
  · obtain ⟨hruns, hcovered⟩ := runs_acceptLead htaken later
    have hst := leadState_of hcase
    have hr' : (setLevel s x true).sheet e.tag = some r := hr
    have hhand := handedOff_acceptLead (setLevel s x true) x e c
    have hlist := list_acceptLead (setLevel s x true) x e c
    have hled : (entered (setLevel s x true) x e c).sheet e.tag = some (r.led (setLevel s x true) x c st) := by
      rw [sheet_entered, if_pos rfl, hr', Option.map_some, if_pos ho, hst]
    obtain ⟨front, back, hq⟩ := hhand.record _ hled
    refine ⟨_, _, hruns, hcovered, hq, rfl, rfl, rfl, rfl, rfl, rfl, rfl, rfl, rfl, rfl, rfl, rfl, rfl, ?_, ?_, ?_, ?_,
      ?_, ?_, ?_, by simp, by simp, by simp, by simp, by simp⟩
    · intro tag htag
      rw [hhand.others tag htag, sheet_entered, if_neg (Ne.symm htag)]
      rfl
    · rw [hlist]
      cases hop : nextHop r x with
      | none => exact (list_entered_end hr' ho hst hop x).trans list_leadClaimed_self
      | some k =>
        rw [list_entered_hop hr' ho hst hop, if_neg (fun h => nextHop_ne hop h.1)]
        exact list_leadClaimed_self
    · intro y l hop hroom
      rw [hlist, list_entered_hop hr' ho hst hop, if_pos ⟨rfl, hroom⟩]
      rfl
    · intro y l hop hfull
      exact faults_acceptLead _ _ _ _ (faults_entered_hop hr' ho hst hop hfull)
    · intro z hz hhop
      rw [hlist]
      cases hop : nextHop r x with
      | none => exact (list_entered_end hr' ho hst hop z).trans (list_leadClaimed_ne hz)
      | some k =>
        rw [list_entered_hop hr' ho hst hop, if_neg (fun h => hhop k.1 k.2 hop h.1.symm)]
        exact list_leadClaimed_ne hz
    · rintro rfl
      exact hhand.park.trans (park_entered_dup2 hr' ho hst)
    · intro hdup
      exact hhand.park.trans (park_entered hr' ho hst hdup)
  · obtain ⟨hruns, hcovered⟩ := runs_acceptLead htaken later
    have hno' : ∀ r, (setLevel s x true).sheet e.tag = some r → r.owner ≠ e.owner := hno
    have hentered : entered (setLevel s x true) x e c = leadClaimed (setLevel s x true) x e c := entered_unclaimed hno'
    have hhand := handedOff_acceptLead (setLevel s x true) x e c
    have hlist := list_acceptLead (setLevel s x true) x e c
    obtain ⟨hsheets, hgsc⟩ := handLead_unclaimed (before := (setLevel s x true).claimed e.tag e.owner) (c := c)
      (claimed_leadClaimed_none (x := x) (c := c) hno') hx
    rw [hentered] at hhand hlist
    rw [acceptLead_eq, hentered] at hruns hcovered hhand hlist
    refine ⟨_, hruns, hcovered, hsheets.trans (sheets_leadClaimed_none hno'), ?_, fun y hy => ?_,
      hhand.park.trans park_leadClaimed, hgsc.trans (by simp [leadClaimed]), by simp [leadClaimed],
      by simp [leadClaimed]⟩
    · exact (hlist x).trans list_leadClaimed_self
    · exact (hlist y).trans (list_leadClaimed_ne hy)

/-! ## The end of a pick (O23) -/

/-- The lead at a tray exit ends the pick there. -/
theorem handLead_exit (s : State) (tag : Tag) (o : Owner) (tray : Tray) (before : Option Sheet) (c : Count) :
    handLead s tag o (exitOf tray) before c = pickDone s tag tray c := by
  cases tray <;> rfl

theorem pitchOf_updatePitch (s : State) (tag : Tag) (f : Pitch → Pitch) (hf : ∀ p, (f p).tag = p.tag) :
    (s.updatePitch tag f).pitchOf tag = (s.pitchOf tag).map f := by
  have hsame : ∀ p : Pitch, decide ((if p.tag = tag then f p else p).tag = tag) = decide (p.tag = tag) := by
    intro p
    split <;> simp [*]
  rw [State.pitchOf, State.pitchOf, State.updatePitch, State.setPitches, List.find?_map]
  simp only [Function.comp_def, hsame]
  cases hp : s.tsq.pitches.find? fun p => decide (p.tag = tag) with
  | none => rfl
  | some p =>
    have htag : p.tag = tag := by simpa using List.find?_some hp
    rw [Option.map_some, Option.map_some, if_pos htag]

/-- A deadline moved to a prediction at which it is not due moves, and nothing more. -/
theorem moveDeadline_early {s : State} {tag : Tag} {predicted : Count}
    (h : ∀ p, s.pitchOf tag = some p → p.state ≠ .called ∨ reaches s.now (minus predicted s.margin) = false) :
    moveDeadline s tag predicted = s.updatePitch tag fun p => { p with deadline := minus predicted s.margin } := by
  have hpitch := pitchOf_updatePitch s tag (fun p => { p with deadline := minus predicted s.margin }) fun _ => rfl
  cases hp : s.pitchOf tag with
  | none =>
    rw [hp, Option.map_none] at hpitch
    simp only [moveDeadline, expireDeadline, hpitch]
  | some p =>
    rw [hp, Option.map_some] at hpitch
    rw [moveDeadline, expireDeadline_named hpitch, if_neg]
    rintro ⟨hcalled, _, hdue⟩
    rcases h p hp with hn | hn
    · exact hn hcalled
    · exact absurd (show reaches s.now _ = true from hdue) (by simp [hn])

theorem entered_frame (s : State) (x : Sensor) (e : Expectation) (c : Count) :
    (entered s x e c).adm = s.adm ∧ (entered s x e c).tsq = s.tsq ∧ (entered s x e c).gsc = s.gsc ∧
    (entered s x e c).tsv = s.tsv ∧ (entered s x e c).profile = s.profile ∧ (entered s x e c).bnm = s.bnm := by
  simp [entered]

/-- Settles O23: the pick ended in the admission, and the deadline moved with it. -/
theorem trayExitLeadEndsThePick : Obligations.TrayExitLeadEndsThePick := by
  intro s tray c e rest r p later htaken hr ho hpicking htray hpick htag
  obtain ⟨hruns, _⟩ := runs_acceptLead htaken later
  obtain ⟨hadm, htsq, hgsc, htsv, hprofile, -⟩ := entered_frame (setLevel s (exitOf tray) true) (exitOf tray) e c
  rw [acceptLead_eq, handLead_exit, pickDone_eq] at hruns
  generalize entered (setLevel s (exitOf tray) true) (exitOf tray) e c = u at hruns hadm htsq hgsc htsv hprofile
  have hadm : u.adm = s.adm := hadm
  have htsq : u.tsq = s.tsq := htsq
  have htsv : u.tsv = s.tsv := htsv
  have hprofile : u.profile = s.profile := hprofile
  have hleg : ∀ l, u.leg l = s.leg l := fun l => by rw [State.leg, State.leg, hprofile]
  have hmargin : u.margin = s.margin := by simp only [State.margin, State.widened, State.limit, htsv, hprofile]
  rw [hleg] at hruns
  refine ⟨_, hruns, ?_, ?_, ?_, fun hearly => ?_, ?_, ?_, ?_⟩
  · simp [pickEnded, hadm, hpick, htag]
  · simp [pickEnded, State.setPickLine, hadm]
  · simp [pickEnded, hadm]
  · have hpitches : ∀ predicted, (pickEnded u e.tag tray predicted).tsq = s.tsq := fun _ => htsq
    have hmargins : ∀ predicted, (pickEnded u e.tag tray predicted).margin = s.margin := fun _ => hmargin
    have hnow : ∀ predicted, (pickEnded u e.tag tray predicted).now = s.now := fun _ => by
      exact congrArg Transport.pathCount htsv
    rw [moveDeadline_early]
    · simp only [State.updatePitch, State.setPitches, hpitches, hmargins]
    · simpa only [State.pitchOf, hpitches, hmargins, hnow] using hearly
  · simp [pickEnded, State.setPickLine, hadm]
  · simp [pickEnded, State.setPickLine, hadm]
  · simp [pickEnded, State.setPickLine, hgsc]

/-! ## The registration of a pitch (O24) -/

section registration
variable {s : State} {tag : Tag} {p : Pitch}

/-- The pitches with that of a tag changed. -/
def changePitch (tag : Tag) (f : Pitch → Pitch) (ps : List Pitch) : List Pitch :=
  ps.map fun q => if q.tag = tag then f q else q

theorem changePitch_changePitch (f g : Pitch → Pitch) (hf : ∀ p, (f p).tag = p.tag) (ps : List Pitch) :
    changePitch tag g (changePitch tag f ps) = changePitch tag (fun q => g (f q)) ps := by
  rw [changePitch, changePitch, List.map_map]
  refine List.map_congr_left fun q _ => ?_
  by_cases hq : q.tag = tag
  · simp only [Function.comp_apply, if_pos hq, hf]
  · simp only [Function.comp_apply, if_neg hq]

theorem registerPitch_ready (hp : s.pitchOf tag = some p) (hstate : p.state = .ready) : registerPitch s tag =
    (claimSide ((s.updatePitch tag fun q => { q with registered := true }).updatePitch tag fun q =>
      { q with state := .imaging }) tag p.slot p.generation p.side .imaging).setTransferEnable true := by
  simp only [registerPitch, hp, hstate]

theorem registerPitch_called (hp : s.pitchOf tag = some p) (hstate : p.state = .called) : registerPitch s tag =
    (missPitch (s.updatePitch tag fun q => { q with registered := true }) p .deadline).setTransferEnable false := by
  simp only [registerPitch, hp, hstate]

theorem registerPitch_missed (hp : s.pitchOf tag = some p) (hstate : p.state = .missed) : registerPitch s tag =
    (s.updatePitch tag fun q => { q with registered := true }).setTransferEnable false := by
  simp only [registerPitch, hp, hstate]

theorem tsq_registerPitch_ready (hp : s.pitchOf tag = some p) (hstate : p.state = .ready) :
    (registerPitch s tag).tsq = { s.tsq with
      pitches := changePitch tag (fun q => { q with registered := true, state := .imaging }) s.tsq.pitches
      transferEnable := true } := by
  rw [registerPitch_ready hp hstate,
    ← changePitch_changePitch (fun q => { q with registered := true }) (fun q => { q with state := .imaging })
      fun _ => rfl, State.setTransferEnable, (claimSide_frame _ _ _ _ _ _).2.2.2.1]
  rfl

theorem tsq_registerPitch_called (hp : s.pitchOf tag = some p) (hstate : p.state = .called) :
    (registerPitch s tag).tsq = { s.tsq with
      pitches := changePitch tag (fun q => { q with registered := true, state := .missed, reason := some .deadline })
        s.tsq.pitches
      transferEnable := false } := by
  rw [registerPitch_called hp hstate,
    ← changePitch_changePitch (fun q => { q with registered := true })
      (fun q => { q with state := .missed, reason := some .deadline }) fun _ => rfl, State.setTransferEnable,
    missPitch_tsq, tag_of_pitchOf hp]
  rfl

theorem tsq_registerPitch_missed (hp : s.pitchOf tag = some p) (hstate : p.state = .missed) :
    (registerPitch s tag).tsq = { s.tsq with
      pitches := changePitch tag (fun q => { q with registered := true }) s.tsq.pitches
      transferEnable := false } := by
  rw [registerPitch_missed hp hstate]
  rfl

/-- The side of a pitch claimed for its record (R31). -/
def Sheet.claimedSide (side : Side) (v : SideState) (r : Sheet) : Sheet :=
  match side with
  | .front => { r with front := v }
  | .back => { r with back := some v }

theorem sheet_registerPitch_ready {r : Sheet} (hp : s.pitchOf tag = some p) (hstate : p.state = .ready)
    (hr : s.sheet tag = some r) (hslot : r.slot = p.slot) (hgeneration : r.generation = p.generation) :
    (registerPitch s tag).sheet tag = some (r.claimedSide p.side .imaging) := by
  rw [registerPitch_ready hp hstate, State.setTransferEnable]
  refine (sheet_claimSide _ _ _ _ _ _ _).trans ?_
  have howner : r.owner = { slot := p.slot, generation := p.generation } := by rw [Sheet.owner, hslot, hgeneration]
  have hr' : ((s.updatePitch tag fun q => { q with registered := true }).updatePitch tag fun q =>
    { q with state := .imaging }).sheet tag = some r := hr
  rw [if_pos rfl, hr', Option.map_some, if_pos howner]
  rfl

theorem requests_registerPitch_called (hp : s.pitchOf tag = some p) (hstate : p.state = .called) :
    (registerPitch s tag).requests = { s.requests with
      condemns := s.requests.condemns ++
        [{ tag := some tag, slot := p.slot, generation := p.generation, cause := .blank }]
      breaks := s.requests.breaks ++
        [{ slot := p.slot, generation := p.generation, cause := .blank, opening := none }] } := by
  rw [registerPitch_called hp hstate, State.setTransferEnable, requests_missPitch, tag_of_pitchOf hp]
  rfl

end registration

theorem burst_startBurst {s : State} {tag : Tag} {r : Sheet} {c : Count} :
    (startBurst s tag (some r) c).ptk.burst = if firstPass (some r) ∧ s.profile.enabled.gauge then
      some { tag := tag, owner := r.owner, tray := r.tray, regLead := c, readings := [] } else s.ptk.burst :=
  apply_ite (fun u : State => u.ptk.burst) _ _ _

theorem firstPass_iff (r : Sheet) : firstPass (some r) = true ↔ ∃ tray, r.lastSensor = some (exitOf tray) := by
  change (r.lastSensor.bind trayOf).isSome = true ↔ _
  cases r.lastSensor with
  | none => simp
  | some x =>
    constructor
    · intro h
      cases x with
      | f1 => exact ⟨.t1, rfl⟩
      | f2 => exact ⟨.t2, rfl⟩
      | f3 => exact ⟨.t3, rfl⟩
      | reg | xfer | fuse | dup1 | dup2 | out | b1 | b2 | b3 | b4 | bp => exact absurd h (by decide)
    · rintro ⟨tray, h⟩
      cases Option.some.inj h
      cases tray <;> rfl

theorem burst_entered (s : State) (x : Sensor) (e : Expectation) (c : Count) :
    (entered s x e c).ptk.burst = s.ptk.burst := by
  have hclaimed : (leadClaimed s x e c).ptk.burst = s.ptk.burst := by simp [leadClaimed, dropEntry, State.setList]
  rw [entered, ← leadClaimed, nextEntry]
  split
  · exact hclaimed
  · split
    · refine Eq.trans ?_ hclaimed
      rw [expect]
      split <;> rfl
    · split <;> exact hclaimed

/-- Settles O24: the pitch registered by its state, and the burst of the first pass. -/
theorem regLeadRegistersThePitch : Obligations.RegLeadRegistersThePitch := by
  intro s c e rest r later htaken hr ho hmain
  obtain ⟨hruns, _⟩ := runs_acceptLead htaken later
  obtain ⟨hadm, htsq, hgsc, htsv, hprofile, -⟩ := entered_frame (setLevel s .reg true) .reg e c
  have hburst := burst_entered (setLevel s .reg true) .reg e c
  have hbefore : (setLevel s .reg true).claimed e.tag e.owner = some r := by
    have hr' : (setLevel s .reg true).sheet e.tag = some r := hr
    simp [State.claimed, hr', ho]
  have hsheet : (entered (setLevel s .reg true) .reg e c).sheet e.tag =
      some (r.led (setLevel s .reg true) .reg c .main) := by
    have hr' : (setLevel s .reg true).sheet e.tag = some r := hr
    have hst : leadState .reg r = some .main := by simp [leadState, Sheet.moving, hmain]
    rw [sheet_entered, if_pos rfl, hr', Option.map_some, if_pos ho, hst]
  rw [acceptLead_eq, hbefore] at hruns
  generalize entered (setLevel s .reg true) .reg e c = u at hruns hadm htsq hgsc htsv hprofile hburst hsheet
  have htsq : u.tsq = s.tsq := htsq
  have hprofile : u.profile = s.profile := hprofile
  have hburst : u.ptk.burst = s.ptk.burst := hburst
  have hpitch : u.pitchOf e.tag = s.pitchOf e.tag := by rw [State.pitchOf, State.pitchOf, htsq]
  refine ⟨_, hruns, fun p hp hslot hgeneration => ?_, fun hgauge hfirst => ?_, fun hnot => ?_⟩
  · rw [← hpitch] at hp
    have hstsq : ∀ q : Sequencer, (registerPitch u e.tag).tsq = q →
        (handLead u e.tag e.owner .reg (some r) c).tsq = q := fun q h => by
      rw [← h, handLead]
      exact (startBurst_frame _ _ _ _).2.2.2.2.1
    have hsides : ∀ q, (registerPitch u e.tag).sheet e.tag = q →
        (handLead u e.tag e.owner .reg (some r) c).sheet e.tag = q := fun q h => by
      rw [← h, handLead, State.sheet, (startBurst_frame _ _ _ _).2.2.1]
      rfl
    have hrequests : (handLead u e.tag e.owner .reg (some r) c).requests = (registerPitch u e.tag).requests := by
      rw [handLead]
      simp only [startBurst_frame]
    refine ⟨fun hready => ⟨?_, ?_⟩, fun hcalled => ⟨?_, ?_, ?_⟩, fun hmissed => ?_⟩
    · rw [← htsq]
      exact hstsq _ (tsq_registerPitch_ready hp hready)
    · refine ⟨_, hsides _ (sheet_registerPitch_ready hp hready hsheet hslot.symm hgeneration.symm), fun h => ?_,
        fun h => ?_⟩ <;> rw [h] <;> rfl
    · rw [← htsq]
      exact hstsq _ (tsq_registerPitch_called hp hcalled)
    · rw [hrequests, requests_registerPitch_called hp hcalled, hslot, hgeneration]
      simp
    · rw [hrequests, requests_registerPitch_called hp hcalled, hslot, hgeneration]
      simp
    · rw [← htsq]
      exact hstsq _ (tsq_registerPitch_missed hp hmissed)
  · rw [handLead, burst_startBurst, if_pos ⟨(firstPass_iff r).2 hfirst, by simpa [hprofile] using hgauge⟩, ho]
  · rw [handLead, burst_startBurst, if_neg]
    · simpa using hburst
    · rintro ⟨hfirst, hgauge⟩
      rcases hnot with h | h
      · simp [hprofile, h] at hgauge
      · obtain ⟨tray, ht⟩ := (firstPass_iff r).1 hfirst
        exact h tray ht

end Sys2Proof.Machine
end

section
/-! SUPPORT. The gates that an accepted lead schedules, and the doors it meets (O25). -/

namespace Sys2Proof.Machine

set_option Elab.async false

/-! ## The record scheduled -/

/-- A lead strands no record on the path. -/
theorem leadState_ne_stranded {x : Sensor} {r : Sheet} {st : SheetState} (h : leadState x r = some st)
    (hr : r.state = .main ∨ r.state = .output) : st ≠ .stranded := by
  have hne : r.state ≠ .stranded := by rcases hr with h | h <;> simp [h]
  cases x with
  | f1 | f2 | f3 | dup1 | out =>
    obtain ⟨-, hst⟩ := Option.ite_none_right_eq_some.1 h
    cases hst
    decide
  | reg | xfer | fuse | dup2 | b1 | b2 | b3 | b4 | bp =>
    obtain ⟨-, hst⟩ := Option.ite_none_right_eq_some.1 h
    cases hst
    exact hne

/-- The record that a FUSE or OUT lead schedules gates for keeps its plex, its back pitch and its target. -/
theorem schedulable_entered {s : State} {x : Sensor} {e : Expectation} {c : Count} {r : Sheet}
    (hr : s.sheet e.tag = some r) (ho : r.owner = e.owner) (hstate : r.state = .main ∨ r.state = .output) :
    ∃ q, (entered s x e c).schedulable e.tag e.owner = some q ∧ q.plex = r.plex ∧ q.back = r.back ∧
      q.target = r.target := by
  have hsheet := sheet_entered s x e c e.tag
  rw [if_pos rfl, hr, Option.map_some, if_pos ho] at hsheet
  cases hst : leadState x r with
  | none =>
    rw [hst] at hsheet
    have hne : r.state ≠ .stranded := by rcases hstate with h | h <;> simp [h]
    exact ⟨r, by simp [State.schedulable, State.claimed, hsheet, ho, hne], rfl, rfl, rfl⟩
  | some st =>
    rw [hst] at hsheet
    have hne : (r.led s x c st).state ≠ .stranded := leadState_ne_stranded hst hstate
    have howner : (r.led s x c st).owner = e.owner := ho
    exact ⟨r.led s x c st, by simp [State.schedulable, State.claimed, hsheet, howner, hne], rfl, rfl, rfl⟩

/-! ## Requests for several gates -/

/-- The requests of one route, gate by gate (R115). -/
def addRequests (tag : Tag) (o : Owner) (c : Count) (ks : List (Gate × RequestKind)) (s : State) : State :=
  ks.foldl (fun u k => addRequest u k.1 { tag := tag, owner := o, kind := k.2, count := requestCount u k.1 c }) s

theorem requestCount_addRequest (s : State) (g h : Gate) (q : GateRequest) (c : Count) :
    requestCount (addRequest s g q) h c = requestCount s h c := by
  simp [requestCount, State.offset, State.limit]

section requests
variable {tag : Tag} {o : Owner} {c : Count}

theorem gate_addRequests_other {ks : List (Gate × RequestKind)} {g : Gate} (h : ∀ kind, (g, kind) ∉ ks) (s : State) :
    (addRequests tag o c ks s).gate g = s.gate g := by
  induction ks generalizing s with
  | nil => rfl
  | cons k ks ih =>
    have hk : k.1 ≠ g := fun heq => h k.2 (by simp [← heq])
    rw [addRequests, List.foldl_cons, ← addRequests, ih fun kind hmem => h kind (List.mem_cons_of_mem k hmem),
      gate_addRequest, if_neg fun hand => hk hand.1]

theorem faults_addRequests (ks : List (Gate × RequestKind)) (s : State) :
    ∃ fs, (addRequests tag o c ks s).requests.faults = s.requests.faults ++ fs := by
  refine foldl_induction (P := fun u : State => ∃ fs, u.requests.faults = s.requests.faults ++ fs)
    ⟨[], (List.append_nil _).symm⟩ ?_
  rintro u k _ ⟨fs, hfs⟩
  exact ⟨_, by rw [faults_addRequest, hfs, List.append_assoc]⟩

/-- Each gate of a route gets its request at the place of its count, and no other (log 37). -/
theorem gate_addRequests_room {ks : List (Gate × RequestKind)} (hnodup : (ks.map Prod.fst).Nodup) {g : Gate}
    {kind : RequestKind} (hmem : (g, kind) ∈ ks) (s : State) (hroom : (s.gate g).waiting.length < 2) :
    (addRequests tag o c ks s).gate g = { s.gate g with
      waiting := insertRequest { tag := tag, owner := o, kind := kind, count := requestCount s g c }
        (s.gate g).waiting } := by
  induction ks generalizing s with
  | nil => exact absurd hmem List.not_mem_nil
  | cons k ks ih =>
    obtain ⟨hk, hnodup'⟩ := List.nodup_cons.1 (by simpa using hnodup : (k.1 :: ks.map Prod.fst).Nodup)
    rw [addRequests, List.foldl_cons, ← addRequests]
    rcases List.mem_cons.1 hmem with rfl | hmem
    · rw [gate_addRequests_other, gate_addRequest, if_pos ⟨rfl, hroom⟩]
      exact fun kind' hmem' => hk (List.mem_map.2 ⟨_, hmem', rfl⟩)
    · have hne : k.1 ≠ g := fun heq => hk (heq ▸ List.mem_map_of_mem (f := Prod.fst) hmem)
      have hgate : ∀ q, (addRequest s k.1 q).gate g = s.gate g := fun q => by
        rw [gate_addRequest, if_neg fun hand => hne hand.1]
      rw [ih hnodup' hmem _ (by rwa [hgate]), hgate, requestCount_addRequest]

/-- A full list of a gate of a route is a conflict (R116). -/
theorem gate_addRequests_full {ks : List (Gate × RequestKind)} (hnodup : (ks.map Prod.fst).Nodup) {g : Gate}
    {kind : RequestKind} (hmem : (g, kind) ∈ ks) (s : State) (hfull : 2 ≤ (s.gate g).waiting.length) :
    (addRequests tag o c ks s).gate g = s.gate g ∧
      { cause := .gateConflict, sensor := leadSensor g, tag := some tag } ∈
        (addRequests tag o c ks s).requests.faults := by
  induction ks generalizing s with
  | nil => exact absurd hmem List.not_mem_nil
  | cons k ks ih =>
    obtain ⟨hk, hnodup'⟩ := List.nodup_cons.1 (by simpa using hnodup : (k.1 :: ks.map Prod.fst).Nodup)
    rw [addRequests, List.foldl_cons, ← addRequests]
    rcases List.mem_cons.1 hmem with rfl | hmem
    · constructor
      · rw [gate_addRequests_other, gate_addRequest, if_neg fun hand => absurd hand.2 (Nat.not_lt.2 hfull)]
        exact fun kind' hmem' => hk (List.mem_map.2 ⟨_, hmem', rfl⟩)
      · obtain ⟨fs, hfs⟩ := faults_addRequests (tag := tag) (o := o) (c := c) ks
          (addRequest s g { tag := tag, owner := o, kind := kind, count := requestCount s g c })
        rw [hfs, faults_addRequest, if_neg (by omega)]
        simp
    · have hne : k.1 ≠ g := fun heq => hk (heq ▸ List.mem_map_of_mem (f := Prod.fst) hmem)
      have hgate : ∀ q, (addRequest s k.1 q).gate g = s.gate g := fun q => by
        rw [gate_addRequest, if_neg fun hand => hne hand.1]
      obtain ⟨hsame, hfault⟩ := ih hnodup' hmem
        (addRequest s k.1 { tag := tag, owner := o, kind := k.2, count := requestCount s k.1 c }) (by rwa [hgate])
      exact ⟨hsame.trans (hgate _), hfault⟩

end requests

theorem nodup_routeGates (b : Bin) : ((routeGates b).map Prod.fst).Nodup := by
  cases b <;> decide

theorem leadSensor_of_route {b : Bin} {g : Gate} {kind : RequestKind} (h : (g, kind) ∈ routeGates b) :
    leadSensor g = .out := by
  revert h
  cases b <;> cases g <;> cases kind <;> decide

/-! ## The hand-off to the gates and to the bins -/

theorem gate_entered (s : State) (x : Sensor) (e : Expectation) (c : Count) (g : Gate) :
    (entered s x e c).gate g = s.gate g := by
  obtain ⟨-, -, hgsc, -⟩ := entered_frame s x e c
  rw [State.gate, State.gate, hgsc]

theorem requestCount_entered (s : State) (x : Sensor) (e : Expectation) (c d : Count) (g : Gate) :
    requestCount (entered s x e c) g d = requestCount s g d := by
  obtain ⟨-, -, -, -, hprofile, -⟩ := entered_frame s x e c
  rw [requestCount, requestCount, State.offset, State.limit, hprofile]
  rfl

/-- Away from FUSE and OUT a lead schedules no gate. -/
theorem gsc_handLead (s : State) (tag : Tag) (o : Owner) {x : Sensor} (before : Option Sheet) (c : Count)
    (hfuse : x ≠ .fuse) (hout : x ≠ .out) : (handLead s tag o x before c).gsc = s.gsc := by
  cases x with
  | fuse => exact absurd rfl hfuse
  | out => exact absurd rfl hout
  | f1 | f2 | f3 | reg | b1 | b2 | b3 | b4 | bp => simp [handLead]
  | xfer | dup1 | dup2 => rfl

theorem handLead_bin (s : State) (tag : Tag) (o : Owner) (b : Bin) (before : Option Sheet) (c : Count) :
    handLead s tag o (entryOf b) before c = leadAtBin s b tag := by
  cases b <;> rfl

/-- At a bin a lead enters the sheet nowhere, and hands over no fault but that of the door. -/
theorem faults_entered_bin {s : State} {e : Expectation} {c : Count} {r : Sheet} {b : Bin}
    (hr : s.sheet e.tag = some r) (ho : r.owner = e.owner) (hstate : r.state = .main ∨ r.state = .output) :
    (entered s (entryOf b) e c).requests.faults = s.requests.faults := by
  have hst : leadState (entryOf b) r = some r.state := by
    have hmoves : r.moving = true := by rcases hstate with h | h <;> simp [Sheet.moving, h]
    cases b <;> exact if_pos hmoves
  rw [entered_end hr ho hst (by cases b <;> rfl) (by cases b <;> decide)]
  simp [leadClaimed]

/-- Settles O25: gate D at FUSE, the gates of the route at OUT, and the door at a bin. -/
theorem leadsScheduleTheGatesAndMeetTheDoors : Obligations.LeadsScheduleTheGatesAndMeetTheDoors := by
  intro s x c e rest r later htaken hr ho hstate
  obtain ⟨hruns, _⟩ := runs_acceptLead htaken later
  have hr' : (setLevel s x true).sheet e.tag = some r := hr
  obtain ⟨q, hq, hplex, hback, htarget⟩ := schedulable_entered (x := x) (c := c) hr' ho hstate
  have hgate : ∀ g, (entered (setLevel s x true) x e c).gate g = s.gate g := gate_entered (setLevel s x true) x e c
  have hcount : ∀ g, requestCount (entered (setLevel s x true) x e c) g c = requestCount s g c :=
    requestCount_entered (setLevel s x true) x e c c
  obtain ⟨-, -, hgsc, -, -, hbnm⟩ := entered_frame (setLevel s x true) x e c
  have hdoor : ∀ b, x = entryOf b → (entered (setLevel s x true) x e c).requests.faults = s.requests.faults := by
    rintro b rfl
    exact faults_entered_bin hr' ho hstate
  rw [acceptLead_eq] at hruns
  generalize hu : entered (setLevel s x true) x e c = u at hruns hq hgate hcount hgsc hbnm hdoor
  have hfuse : x = .fuse → ∀ before, handLead u e.tag e.owner x before c = addRequest u .d
      { tag := e.tag
        owner := e.owner
        kind := if r.plex = .duplex ∧ r.back = some .none_ then .throw else .passage
        count := requestCount s .d c } := by
    rintro rfl before
    simp only [handLead, scheduleD, hq, hcount, Sheet.backPending, hplex, hback, decide_eq_true_eq, Bool.and_eq_true,
      beq_iff_eq]
  have hout : x = .out → ∀ before, handLead u e.tag e.owner x before c =
      addRequests e.tag e.owner c (routeGates r.target) u := by
    rintro rfl before
    simp only [handLead, scheduleG, hq, htarget] <;> rfl
  have hbin : ∀ b, x = entryOf b → ∀ before, handLead u e.tag e.owner x before c = leadAtBin u b e.tag := by
    rintro b rfl before
    exact handLead_bin ..
  have hstates : ∀ b, u.bin b = s.bin b := fun b => by rw [State.bin, State.bin, hbnm]; rfl
  refine ⟨_, hruns, fun hx hroom => ?_, fun hx hfull => ⟨?_, ?_⟩, fun hx g hg => ?_,
    fun hx hmain g kind hmem => ⟨fun hroom => ?_, fun hfull => ?_⟩, fun hx g hno => ?_, fun hf hx => ?_,
    fun b hx hopen => ?_, fun b hx hclosed => ?_⟩
  · rw [hfuse hx, gate_addRequest, hgate, if_pos ⟨rfl, hroom⟩]
    rfl
  · rw [hfuse hx, gate_addRequest, hgate, if_neg fun hand => by omega]
  · rw [hfuse hx, faults_addRequest, hgate, if_neg (by omega)]
    exact List.mem_append_right _ (List.mem_singleton.2 rfl)
  · rw [hfuse hx, gate_addRequest, if_neg fun hand => hg hand.1.symm, hgate]
  · rw [hout hx, gate_addRequests_room (nodup_routeGates _) hmem u (by rwa [hgate]), hgate, hcount]
    rfl
  · obtain ⟨hsame, hfault⟩ := gate_addRequests_full (tag := e.tag) (o := e.owner) (c := c) (nodup_routeGates _) hmem u
      (by rwa [hgate])
    rw [hout hx]
    exact ⟨hsame.trans (hgate g), leadSensor_of_route hmem ▸ hfault⟩
  · rw [hout hx, gate_addRequests_other hno, hgate]
  · exact (gsc_handLead u e.tag e.owner _ c hf hx).trans hgsc
  · rw [hbin b hx, leadAtBin, hstates, if_pos hopen, ← hdoor b hx, hx]
    rfl
  · rw [hbin b hx, leadAtBin, hstates, if_neg hclosed, hdoor b hx]

end Sys2Proof.Machine
end

section
/-! SUPPORT. The end of a pitch at an accepted XFER trail (O27). -/

namespace Sys2Proof.Machine

set_option Elab.async false

section finishing
variable {s : State} {tag : Tag} {p : Pitch}

/-- The pitches without that of a tag, and the line withdrawn with the last registered (R78, R79). -/
def pitchLeft (q : Sequencer) (tag : Tag) : Sequencer :=
  { q with
    pitches := q.pitches.filter fun p => p.tag != tag
    transferEnable := if (lastRegistered q.pitches).any fun p => p.tag = tag then false else q.transferEnable }

theorem finishPitch_open (hp : s.pitchOf tag = some p) (hstate : p.state = .called ∨ p.state = .ready) :
    finishPitch s tag = s := by
  rcases hstate with h | h <;> simp only [finishPitch, hp, h]

theorem tsq_finishPitch (hp : s.pitchOf tag = some p) (hstate : p.state = .imaging ∨ p.state = .missed) :
    (finishPitch s tag).tsq = pitchLeft s.tsq tag := by
  rcases hstate with h | h
  · simp only [finishPitch, hp, h, pitchLeft]
    split <;> simp [State.setTransferEnable, State.removePitch, State.setPitches, *]
  · simp only [finishPitch, hp, h, pitchLeft]
    split <;> simp [State.setTransferEnable, State.removePitch, State.setPitches, *]

theorem sheets_finishPitch_imaging (hp : s.pitchOf tag = some p) (hstate : p.state = .imaging) :
    (finishPitch s tag).sheets = (claimSide s tag p.slot p.generation p.side .done).sheets := by
  simp only [finishPitch, hp, hstate]
  split <;> rfl

end finishing

theorem handedOff_removePitch (s : State) (tag : Tag) (last : Bool) : HandedOff tag s
    (if last then (s.removePitch tag).setTransferEnable false else s.removePitch tag) := by
  split <;> exact .of_sheets rfl rfl rfl ⟨[], (List.append_nil _).symm⟩

theorem handedOff_finishPitch (s : State) (tag : Tag) : HandedOff tag s (finishPitch s tag) := by
  unfold finishPitch
  split
  · exact .refl tag s
  case h_2 p hp =>
    dsimp only
    split
    · exact (handedOff_claimSide s tag p.slot p.generation p.side .done).trans (handedOff_removePitch _ tag _)
    · exact handedOff_removePitch s tag _
    · exact .refl tag s
    · exact .refl tag s

/-- The step of an accepted XFER trail: the trail claim, and the end of the pitch. -/
theorem runs_xferTrail {s : State} {c : Count} {tag : Tag} {r : Sheet} {w : TrailPending}
    (h : TrailTaken s .xfer c tag r w) (hmoving : r.state ∈ [SheetState.main, .loop, .output]) (later : Bool) :
    Runs (.debounceComplete ⟨.xfer, later⟩) s (finishPitch ((setLevel s .xfer false).setSheet tag
      (some { r with trail := trailAfter (setLevel s .xfer false) r .xfer })) tag) := by
  have hr : (setLevel s .xfer false).sheet tag = some r := h.record
  refine runs_of_finish ((exec_trail h later).trans ?_)
  rw [acceptTrail, claimTrail_moving hr hmoving]
  rfl

/-- Settles O27: the pitch leaves by its state, with the line and the side of the record. -/
theorem xferTrailEndsThePitch : Obligations.XferTrailEndsThePitch := by
  intro s c tag r w p later htaken hmoving hp
  have hruns := runs_xferTrail htaken hmoving later
  generalize hu : (setLevel s .xfer false).setSheet tag
    (some { r with trail := trailAfter (setLevel s .xfer false) r .xfer }) = u at hruns
  have htsq : u.tsq = s.tsq := by rw [← hu]; rfl
  have hpu : u.pitchOf tag = some p := by rw [← hp, State.pitchOf, State.pitchOf, htsq]
  have hsheet : u.sheet tag = some { r with trail := trailAfter (setLevel s .xfer false) r .xfer } := by
    rw [← hu, State.sheet_setSheet, if_pos rfl]
  refine ⟨_, hruns, fun h => ?_, fun h => ?_, fun himaging hslot hgeneration => ?_, fun v hv => ?_, ?_⟩
  · rw [tsq_finishPitch hpu h, htsq]
    rfl
  · rw [finishPitch_open hpu h, htsq]
  · have howner : r.owner = { slot := p.slot, generation := p.generation } := by rw [Sheet.owner, hslot, hgeneration]
    refine ⟨Sheet.claimedSide p.side .done { r with trail := trailAfter (setLevel s .xfer false) r .xfer },
      ?_, fun h => ?_, fun h => ?_⟩
    · rw [State.sheet, sheets_finishPitch_imaging hpu himaging]
      refine (sheet_claimSide u tag tag _ _ _ _).trans ?_
      rw [if_pos rfl, hsheet, Option.map_some]
      exact congrArg some (if_pos howner)
    · rw [h]
      rfl
    · rw [h]
      rfl
  · rw [(handedOff_finishPitch u tag).others v hv, ← hu, State.sheet_setSheet, if_neg (Ne.symm hv)]
    rfl
  · have hrequests : (finishPitch u tag).requests = u.requests := by simp
    rw [hrequests]
    simp [← hu]

end Sys2Proof.Machine
end

section
/-! SUPPORT. Deliveries: the report to the statement and the spoil range, and what they leave (O28, O29). -/

namespace Sys2Proof.Machine

set_option Elab.async false

/-! ## What a report of a delivery leaves -/

theorem mem_notices_notify {s : State} {n k : Notice} (h : n ∈ s.cpt.notices) : n ∈ (s.notify k).cpt.notices := by
  unfold State.notify
  split
  · exact List.mem_append_left _ h
  · exact h

/-- What the report of a delivery into a bin, with the spoil range it places, leaves as it was: the retirement claims,
the other bins and slots, the counts of the bin, its state but for the fence, and the notices. -/
structure Reported (b : Bin) (slot : Slot) (s u : State) : Prop where
  retires : u.requests.retires = s.requests.retires
  others : ∀ d, d ≠ b → u.bin d = s.bin d
  fill : (u.bin b).fill = (s.bin b).fill
  reserved : (u.bin b).reserved = (s.bin b).reserved
  last : (u.bin b).last = (s.bin b).last
  jog : (u.bin b).jogRight = (s.bin b).jogRight
  state : (u.bin b).state = (s.bin b).state ∨ ((s.bin b).state = .ready ∧ (u.bin b).state = .fenced)
  statements : ∀ j, j ≠ slot → u.statement j = s.statement j
  notices : ∀ n ∈ s.cpt.notices, n ∈ u.cpt.notices

namespace Reported
variable {b : Bin} {slot : Slot} {s u v : State}

theorem refl (b : Bin) (slot : Slot) (s : State) : Reported b slot s s :=
  ⟨rfl, fun _ _ => rfl, rfl, rfl, rfl, rfl, .inl rfl, fun _ _ => rfl, fun _ h => h⟩

theorem trans (h : Reported b slot s u) (k : Reported b slot u v) : Reported b slot s v where
  retires := k.retires.trans h.retires
  others d hd := (k.others d hd).trans (h.others d hd)
  fill := k.fill.trans h.fill
  reserved := k.reserved.trans h.reserved
  last := k.last.trans h.last
  jog := k.jog.trans h.jog
  state := by
    rcases h.state with hsame | ⟨hready, hfenced⟩
    · rw [← hsame]
      exact k.state
    · rcases k.state with hsame | ⟨hready', -⟩
      · exact .inr ⟨hready, hsame.trans hfenced⟩
      · rw [hfenced] at hready'
        exact absurd hready' (by decide)
  statements j hj := (k.statements j hj).trans (h.statements j hj)
  notices n hn := k.notices n (h.notices n hn)

/-- An operation that leaves the bins. -/
theorem of_bins (hbnm : u.bnm = s.bnm) (hretires : u.requests.retires = s.requests.retires)
    (hstatements : ∀ j, j ≠ slot → u.statement j = s.statement j)
    (hnotices : ∀ n ∈ s.cpt.notices, n ∈ u.cpt.notices) : Reported b slot s u where
  retires := hretires
  others d _ := bin_of_eq hbnm d
  fill := by rw [bin_of_eq hbnm]
  reserved := by rw [bin_of_eq hbnm]
  last := by rw [bin_of_eq hbnm]
  jog := by rw [bin_of_eq hbnm]
  state := .inl (by rw [bin_of_eq hbnm])
  statements := hstatements
  notices := hnotices

/-- An operation on the bin alone. -/
theorem of_bin {r : BinRecord} (hfill : r.fill = (s.bin b).fill) (hreserved : r.reserved = (s.bin b).reserved)
    (hlast : r.last = (s.bin b).last) (hjog : r.jogRight = (s.bin b).jogRight)
    (hstate : r.state = (s.bin b).state ∨ ((s.bin b).state = .ready ∧ r.state = .fenced)) :
    Reported b slot s (s.setBin b r) where
  retires := rfl
  others d hd := by rw [State.bin_setBin, if_neg (Ne.symm hd)]
  fill := by rw [State.bin_setBin, if_pos rfl, hfill]
  reserved := by rw [State.bin_setBin, if_pos rfl, hreserved]
  last := by rw [State.bin_setBin, if_pos rfl, hlast]
  jog := by rw [State.bin_setBin, if_pos rfl, hjog]
  state := by
    rw [State.bin_setBin, if_pos rfl]
    exact hstate
  statements _ _ := rfl
  notices _ h := h

end Reported

theorem reported_notify (b : Bin) (slot : Slot) (s : State) (n : Notice) : Reported b slot s (s.notify n) :=
  .of_bins (by simp) (by simp) (fun j _ => statement_of_eq (by simp) j) fun _ h => mem_notices_notify h

theorem reported_setStatement (b : Bin) (slot : Slot) (s : State) (r : Option Statement) :
    Reported b slot s (s.setStatement slot r) :=
  .of_bins rfl rfl (fun j hj => by rw [State.statement_setStatement, if_neg (Ne.symm hj)]) fun _ h => h

theorem reported_closeIfClear (b : Bin) (slot j : Slot) (s : State) : Reported b slot s (closeIfClear s j) := by
  refine .of_bins (by simp) ?_ (fun j _ => statement_of_eq (by simp) j) (by simp)
  unfold closeIfClear
  split
  · rfl
  · split
    · rfl
    · split <;> rfl

theorem reported_takeBreak (b : Bin) (s : State) (q : BreakRequest) : Reported b q.slot s (takeBreak s q) := by
  unfold takeBreak
  split
  case isFalse => exact .refl b q.slot s
  case isTrue =>
    by_cases hdrop : ∀ r, s.statement q.slot = some r → r.generation = q.generation → r.state.ended = true
    · rw [breakNow_dropped q.cause hdrop]
      exact .refl b q.slot s
    · simp only [Classical.not_forall] at hdrop
      obtain ⟨r, hr, hg, hopen⟩ := hdrop
      rw [← hg, breakNow_taken hr (by simpa using hopen)]
      refine (reported_setStatement b q.slot s (some (r.broken r.generation q.cause))).trans
        (Reported.trans (u := { s.setStatement q.slot (some (r.broken r.generation q.cause)) with
          requests := endedRequests s.requests q.slot r }) (.of_bins rfl rfl (fun _ _ => rfl) fun _ h => h)
          (reported_notify b q.slot _ _))

theorem reported_takeBreaksOf (b : Bin) (s : State) (slot : Slot) (generation : Nat) (cause : BreakCause) :
    Reported b slot s (takeBreaksOf s slot generation cause) := by
  unfold takeBreaksOf
  refine Reported.trans (u := { s with requests := { s.requests with
    breaks := s.requests.breaks.filter fun q => !q.names slot generation cause } })
    (.of_bins rfl rfl (fun _ _ => rfl) fun _ h => h) ?_
  refine foldl_induction (.refl b slot _) fun u q hq h => h.trans ?_
  have hslot : q.slot = slot := by
    have := (List.mem_filter.1 hq).2
    simp only [BreakRequest.names, Bool.and_eq_true, decide_eq_true_eq] at this
    exact this.1.1
  exact hslot ▸ reported_takeBreak b u q

theorem reported_evaluateFence (b : Bin) (slot : Slot) (s : State) : Reported b slot s (evaluateFence s b) := by
  unfold evaluateFence
  split
  case isFalse => exact .refl b slot s
  case isTrue h =>
    exact Reported.trans (u := s.setBin b { s.bin b with state := .fenced })
      (.of_bin rfl rfl rfl rfl (.inr ⟨h.1, rfl⟩)) (reported_notify b slot _ _)

theorem reported_placeSpoil (b : Bin) (slot : Slot) (s : State) (ident : Ident) (position : Nat) :
    Reported b slot s (placeSpoil s b ident position) := by
  unfold placeSpoil
  dsimp only
  split
  · exact .of_bin rfl rfl rfl rfl (.inl rfl)
  · refine Reported.trans ?_ (reported_evaluateFence b slot _)
    exact .of_bin rfl rfl rfl rfl (.inl rfl)

theorem reported_completeStatement (b : Bin) (slot : Slot) (s : State) (r : Statement) :
    Reported b slot s (completeStatement s slot r b) :=
  ((reported_notify b slot s _).trans (Reported.of_bin (r := { (s.notify _).bin b with
    stacking := ((s.notify _).bin b).stacking.filter fun o => o != { slot, generation := r.generation } })
      rfl rfl rfl rfl (.inl rfl))).trans (reported_setStatement b slot _ none)

theorem reported_countDelivery (b : Bin) (slot : Slot) (s : State) (generation position : Nat) (condemned : Bool) :
    Reported b slot s (countDelivery s slot generation b position condemned).1 := by
  unfold countDelivery
  split
  · exact .refl b slot s
  · dsimp only
    split
    · exact (reported_setStatement b slot s _).trans (reported_completeStatement b slot _ _)
    · exact (reported_setStatement b slot s _).trans (reported_closeIfClear b slot slot _)

theorem reported_reportDelivery (b : Bin) (slot : Slot) (s : State) (generation position : Nat) (condemned : Bool) :
    Reported b slot s (reportDelivery s slot generation b position condemned).1 :=
  (reported_takeBreaksOf b s slot generation .binOpened).trans (reported_countDelivery b slot _ _ _ _)

theorem reported_reportAndPlace (b : Bin) (s : State) (r : Sheet) (position : Nat) :
    Reported b r.slot s (reportAndPlace s b r position) := by
  have hreport := reported_reportDelivery b r.slot s r.generation position r.condemned.isSome
  unfold reportAndPlace
  split
  case h_1 hd =>
    rw [hd] at hreport
    exact hreport.trans (reported_placeSpoil b r.slot _ _ _)
  case h_2 hd =>
    rw [hd] at hreport
    exact hreport
  case h_3 hd =>
    rw [hd] at hreport
    exact hreport

/-! ## The statement and the bin after a report -/

/-- The statement of a delivered sheet when its report is judged: after the BIN_OPENED break that waits (R144). -/
def afterBreaks (s : State) (slot : Slot) (generation : Nat) (st : Statement) : Statement :=
  if breakWaits s slot generation .binOpened then st.broken generation .binOpened else st

section reports
variable {s : State} {slot : Slot} {generation position : Nat} {b : Bin} {st : Statement} {condemned : Bool}

theorem broken_keeps_fields (st : Statement) (generation : Nat) (cause : BreakCause) :
    (st.broken generation cause).generation = st.generation ∧ (st.broken generation cause).ident = st.ident ∧
    (st.broken generation cause).bin = st.bin ∧ (st.broken generation cause).inFlight = st.inFlight := by
  unfold Statement.broken
  split <;> exact ⟨rfl, rfl, rfl, rfl⟩

theorem afterBreaks_fields (s : State) (slot : Slot) (generation : Nat) (st : Statement) :
    (afterBreaks s slot generation st).generation = st.generation ∧ (afterBreaks s slot generation st).ident = st.ident ∧
    (afterBreaks s slot generation st).bin = st.bin ∧ (afterBreaks s slot generation st).inFlight = st.inFlight := by
  unfold afterBreaks
  split
  · exact broken_keeps_fields st generation .binOpened
  · exact ⟨rfl, rfl, rfl, rfl⟩

/-- A break that has been taken leaves the statement ended. -/
theorem ended_afterBreaks (hg : st.generation = generation)
    (h : breakWaits s slot generation .binOpened = true ∨ st.state.ended = true) :
    (afterBreaks s slot generation st).state.ended = true := by
  unfold afterBreaks
  by_cases hended : st.state.ended = true
  · have hsame : st.broken generation .binOpened = st := if_neg fun hand => by simp [hended] at hand
    rw [hsame, ite_self, hended]
  · rw [if_pos (h.resolve_right hended), Statement.broken, if_pos ⟨hg, by simpa using hended⟩]
    dsimp only
    split <;> rfl

theorem ofPair_takeBreaksOf (hst : s.statement slot = some st) (hg : st.generation = generation) :
    (takeBreaksOf s slot generation .binOpened).ofPair slot generation = some (afterBreaks s slot generation st) := by
  refine ofPair_eq_some ?_ ((afterBreaks_fields s slot generation st).1.trans hg)
  rw [statement_takeBreaksOf, afterBreaks]
  by_cases hw : breakWaits s slot generation .binOpened = true
  · rw [if_pos ⟨rfl, hw⟩, if_pos hw, hst, Option.map_some]
  · rw [if_neg fun h => hw h.2, if_neg hw, hst]

/-- Without the statement of the pair the breaks that wait for it are dropped. -/
theorem stu_takeBreaksOf_none (h : ∀ st, s.statement slot = some st → st.generation ≠ generation) :
    (takeBreaksOf s slot generation .binOpened).stu = s.stu := by
  unfold takeBreaksOf
  refine foldl_induction (P := fun u : State => u.stu = s.stu) rfl fun u q hq hu => ?_
  have hnames := (List.mem_filter.1 hq).2
  simp only [BreakRequest.names, Bool.and_eq_true, decide_eq_true_eq] at hnames
  obtain ⟨⟨rfl, rfl⟩, -⟩ := hnames
  unfold takeBreak
  split
  · rw [breakNow_dropped, hu]
    intro r hr hg
    rw [statement_of_eq hu] at hr
    exact absurd hg (h r hr)
  · exact hu

theorem reportDelivery_none (h : ∀ st, s.statement slot = some st → st.generation ≠ generation) :
    reportDelivery s slot generation b position condemned = (takeBreaksOf s slot generation .binOpened, none) := by
  have hpair : (takeBreaksOf s slot generation .binOpened).ofPair slot generation = none :=
    ofPair_eq_none fun st hst => h st (by rwa [statement_of_eq (stu_takeBreaksOf_none h)] at hst)
  simp only [reportDelivery, countDelivery, hpair]

/-- The state after a report of a page that is not good. -/
def spoilReported (s : State) (slot : Slot) (generation : Nat) (st : Statement) : State :=
  closeIfClear ((takeBreaksOf s slot generation .binOpened).setStatement slot
    (some { afterBreaks s slot generation st with inFlight := st.inFlight - 1 })) slot

theorem reportDelivery_spoil (hst : s.statement slot = some st) (hg : st.generation = generation)
    (hbad : goodPage (afterBreaks s slot generation st) b condemned = false) :
    reportDelivery s slot generation b position condemned =
      (spoilReported s slot generation st, some (false, st.ident)) := by
  obtain ⟨-, hident, -, hflight⟩ := afterBreaks_fields s slot generation st
  simp only [reportDelivery, countDelivery, ofPair_takeBreaksOf hst hg, Statement.deliver, hbad, Bool.false_eq_true,
    if_false, false_and, hident, hflight, spoilReported]

theorem statement_spoilReported (s : State) (slot : Slot) (generation : Nat) (st : Statement) :
    (spoilReported s slot generation st).statement slot =
      some { afterBreaks s slot generation st with inFlight := st.inFlight - 1 } := by
  have hclose : ∀ u : State, (closeIfClear u slot).statement slot = u.statement slot := fun u =>
    statement_of_eq (by simp) slot
  rw [spoilReported, hclose, State.statement_setStatement, if_pos rfl]

theorem bnm_spoilReported (s : State) (slot : Slot) (generation : Nat) (st : Statement) :
    (spoilReported s slot generation st).bnm = s.bnm := by
  simp [spoilReported]

/-- The statement after a good page (R9). -/
def Statement.paged (position : Nat) (st : Statement) : Statement :=
  { st with
    inFlight := st.inFlight - 1
    delivered := st.delivered + 1
    lastPos := some position
    firstPos := some (st.firstPos.getD position) }

theorem afterBreaks_unbroken (h : breakWaits s slot generation .binOpened = false) :
    afterBreaks s slot generation st = st := by
  rw [afterBreaks, h]
  rfl

theorem reportDelivery_good (hst : s.statement slot = some st) (hg : st.generation = generation)
    (hwaits : breakWaits s slot generation .binOpened = false) (hgood : goodPage st b condemned = true) :
    reportDelivery s slot generation b position condemned =
      if (st.paged position).complete then
        (completeStatement ((takeBreaksOf s slot generation .binOpened).setStatement slot (some (st.paged position)))
          slot (st.paged position) b, some (true, st.ident))
      else
        (closeIfClear ((takeBreaksOf s slot generation .binOpened).setStatement slot (some (st.paged position))) slot,
          some (true, st.ident)) := by
  have hpair := ofPair_takeBreaksOf hst hg
  rw [afterBreaks_unbroken hwaits] at hpair
  simp only [reportDelivery, countDelivery, hpair, Statement.deliver, hgood, if_true, true_and]
  rfl

end reports

/-! ## The retirement claim of a delivery -/

/-- What the retirement claim of a delivery does with the record, taken at once or kept for the next step (log 41). -/
theorem sendRetirement_reads {s f : State} {tag : Tag} {r q : Sheet} (hq : f.sheet tag = some q)
    (ho : q.owner = r.owner) (hstate : q.state = .output) (hout : q.runOut = r.runOut)
    (hretires : f.requests.retires = s.requests.retires) (hburst : f.ptk.burst = s.ptk.burst) (hjam : f.jam = s.jam)
    (htsv : f.tsv = s.tsv) (later : Bool) :
    (later = false → (sendRetirement f tag r.owner later).sheet tag = none ∧
      (sendRetirement f tag r.owner later).requests.retires = s.requests.retires ∧
      (sendRetirement f tag r.owner later).ptk.burst = s.ptk.burst.filter (fun g => g.tag != tag) ∧
      (sendRetirement f tag r.owner later).jam = if r.runOut = true ∧ s.tsv.state = .runout then
        { s.jam with runOutCount := s.jam.runOutCount - 1 } else s.jam) ∧
    (later = true →
      (sendRetirement f tag r.owner later).requests.retires = s.requests.retires ++ [{ tag, owner := r.owner }] ∧
      (sendRetirement f tag r.owner later).ptk.burst = s.ptk.burst ∧ (sendRetirement f tag r.owner later).jam = s.jam ∧
      (sendRetirement f tag r.owner later).sheet tag = some q) ∧
    (∀ u, u ≠ tag → (sendRetirement f tag r.owner later).sheet u = f.sheet u) := by
  refine ⟨?_, ?_, fun u hu => ?_⟩
  · rintro rfl
    have hretire : sendRetirement f tag r.owner false = _ := retireDelivered_output hq ho hstate
    rw [hretire, sheet_retire, if_pos rfl, ← hretires, ← hburst, ← hjam, ← htsv, ← hout]
    split <;> exact ⟨rfl, rfl, rfl, rfl⟩
  · rintro rfl
    exact ⟨congrArg (· ++ _) hretires, hburst, hjam, hq⟩
  · cases later with
    | true => rfl
    | false =>
      refine (sheet_retireDelivered f tag u r.owner).trans (if_neg fun h => hu h.1.symm)

/-! ## Deliveries -/

theorem binBehind_entryOf (b : Bin) : binBehind (entryOf b) = some b := by
  cases b <;> rfl

/-- `u` is `s` after the trail claim of an accepted trail at a sensor, and `q` is the record `r` after it. -/
structure TrailClaim (s u : State) (x : Sensor) (tag : Tag) (r q : Sheet) : Prop where
  record : u.sheet tag = some q
  others : ∀ v, v ≠ tag → u.sheet v = s.sheet v
  same : q = { r with trail := q.trail }
  here : r.lastSensor = some x → q.trail = none
  blocks : u = { s with sheets := u.sheets, ptk := u.ptk }
  burst : u.ptk.burst = s.ptk.burst

namespace TrailClaim
variable {s u : State} {x : Sensor} {tag : Tag} {r q : Sheet}

theorem fields (h : TrailClaim s u x tag r q) : q.slot = r.slot ∧ q.generation = r.generation ∧ q.owner = r.owner ∧
    q.condemned = r.condemned ∧ q.state = r.state ∧ q.runOut = r.runOut := by
  rw [h.same]
  exact ⟨rfl, rfl, rfl, rfl, rfl, rfl⟩

theorem frame (h : TrailClaim s u x tag r q) : u.stu = s.stu ∧ u.bnm = s.bnm ∧ u.jam = s.jam ∧ u.tsv = s.tsv ∧
    u.gsc = s.gsc ∧ u.tsq = s.tsq ∧ u.profile = s.profile ∧ u.requests = s.requests ∧ u.cpt = s.cpt := by
  rw [h.blocks]
  exact ⟨rfl, rfl, rfl, rfl, rfl, rfl, rfl, rfl, rfl⟩

end TrailClaim

/-- The step of an accepted trail at a bin entry: the trail claim, and the delivery. -/
theorem runs_delivery {s : State} {b : Bin} {c : Count} {tag : Tag} {r : Sheet} {w : TrailPending}
    (h : TrailTaken s (entryOf b) c tag r w) (hout : r.state = .output) (later : Bool) :
    ∃ u q, TrailClaim s u (entryOf b) tag r q ∧ Runs (.debounceComplete ⟨entryOf b, later⟩) s
      (if b = .p then deliverPurge u tag q later else deliverStacker u b tag q later) := by
  have hr : (setLevel s (entryOf b) false).sheet tag = some r := h.record
  have hclaimed := claimTrail_moving (x := entryOf b) hr (by simp [hout])
  refine ⟨(setLevel s (entryOf b) false).setSheet tag
      (some { r with trail := trailAfter (setLevel s (entryOf b) false) r (entryOf b) }),
    { r with trail := trailAfter (setLevel s (entryOf b) false) r (entryOf b) }, ⟨?_, fun v hv => ?_, rfl, trailAfter_here, rfl, rfl⟩,
    runs_of_finish ((exec_trail h later).trans (congrArg (finish s) ?_))⟩
  rotate_left 2
  · simp only [acceptTrail, hclaimed, binBehind_entryOf, deliver, State.sheet_setSheet, if_true]
  · rw [State.sheet_setSheet, if_pos rfl]
  · rw [State.sheet_setSheet, if_neg (Ne.symm hv)]
    rfl

/-- A statement after the delivery of a sheet into the purge bin. -/
theorem statement_purged {s : State} {slot : Slot} {generation : Nat} {condemned : Bool}
    (hbin : ∀ st, s.statement slot = some st → st.bin ≠ some .p) (j : Slot) :
    (reportDelivery s slot generation .p 0 condemned).1.statement j = (s.statement j).map fun st =>
      if j = slot ∧ st.generation = generation then
        { afterBreaks s slot generation st with inFlight := st.inFlight - 1 } else st := by
  by_cases hj : j = slot
  · subst hj
    simp only [true_and]
    cases hst : s.statement j with
    | none =>
      have hno : ∀ st, s.statement j = some st → st.generation ≠ generation := by simp [hst]
      rw [reportDelivery_none hno]
      exact (statement_of_eq (stu_takeBreaksOf_none hno) j).trans hst
    | some st =>
      by_cases hg : st.generation = generation
      · have hbad : goodPage (afterBreaks s j generation st) .p condemned = false := by
          have hne := hbin st hst
          simp [goodPage, (afterBreaks_fields s j generation st).2.2.1, hne]
        rw [reportDelivery_spoil hst hg hbad, Option.map_some, if_pos hg]
        exact statement_spoilReported s j generation st
      · have hno : ∀ st, s.statement j = some st → st.generation ≠ generation := fun q hq => by
          obtain rfl : st = q := Option.some.inj (hst.symm.trans hq)
          exact hg
        rw [reportDelivery_none hno, Option.map_some, if_neg hg]
        exact (statement_of_eq (stu_takeBreaksOf_none hno) j).trans hst
  · simp only [hj, false_and, if_false]
    rw [(reported_reportDelivery .p slot s generation 0 condemned).statements j hj]
    exact Option.map_id'.symm

/-- A report from the purge bin of a statement that is not P's changes no bin. -/
theorem bnm_purged {s : State} {slot : Slot} {generation : Nat} {condemned : Bool}
    (hbin : ∀ st, s.statement slot = some st → st.bin ≠ some .p) :
    (reportDelivery s slot generation .p 0 condemned).1.bnm = s.bnm := by
  by_cases hno : ∀ st, s.statement slot = some st → st.generation ≠ generation
  · rw [reportDelivery_none hno]
    simp
  · simp only [Classical.not_forall, Classical.not_not] at hno
    obtain ⟨st, hst, hg⟩ := hno
    have hbad : goodPage (afterBreaks s slot generation st) .p condemned = false := by
      have hne := hbin st hst
      simp [goodPage, (afterBreaks_fields s slot generation st).2.2.1, hne]
    rw [reportDelivery_spoil hst hg hbad]
    exact bnm_spoilReported s slot generation st

end Sys2Proof.Machine
end

section
/-! SUPPORT. Deliveries into the purge bin and into a stacker (O28, O29). -/

namespace Sys2Proof.Machine

set_option Elab.async false

/-! ## The purge bin (O29) -/

/-- The state of a delivery into the purge bin before its retirement claim is sent. -/
def purged (s : State) (r : Sheet) : State :=
  fillUp (reportDelivery (countIn s .p) r.slot r.generation .p 0 r.condemned.isSome).1 .p

theorem deliverPurge_eq (s : State) (tag : Tag) (r : Sheet) (later : Bool) :
    deliverPurge s tag r later = sendRetirement (purged s r) tag r.owner later := rfl

theorem purged_frame (s : State) (r : Sheet) :
    (purged s r).sheets = s.sheets ∧ (purged s r).ptk = s.ptk ∧ (purged s r).jam = s.jam ∧
    (purged s r).tsv = s.tsv ∧ (purged s r).gsc = s.gsc ∧ (purged s r).tsq = s.tsq ∧
    (purged s r).profile = s.profile := by
  simp [purged]

theorem retires_purged (s : State) (r : Sheet) : (purged s r).requests.retires = s.requests.retires := by
  have hfill : ∀ v : State, (fillUp v .p).requests = v.requests := fun v => by simp
  rw [purged, hfill, (reported_reportDelivery .p r.slot (countIn s .p) _ _ _).retires]
  simp

theorem breakWaits_congr {s u : State} (hstu : u.stu = s.stu) (hrequests : u.requests = s.requests) (slot : Slot)
    (generation : Nat) (cause : BreakCause) : breakWaits u slot generation cause = breakWaits s slot generation cause := by
  rw [breakWaits, breakWaits, hrequests, State.openingOf, State.openingOf, hstu]

/-- P after the delivery: one more sheet, one less reserved, FULL at its capacity. -/
theorem bin_purged {s : State} {r : Sheet} (hbin : ∀ st, s.statement r.slot = some st → st.bin ≠ some .p) (d : Bin) :
    (purged s r).bin d = if d = .p then { s.bin .p with
      fill := (s.bin .p).fill + 1
      reserved := (s.bin .p).reserved - 1
      state :=
        if (s.bin .p).fill + 1 = s.capacity .p ∧ ((s.bin .p).state = .ready ∨ (s.bin .p).state = .fenced) then .full
        else (s.bin .p).state } else s.bin d := by
  have hreport : ∀ e, (reportDelivery (countIn s .p) r.slot r.generation .p 0 r.condemned.isSome).1.bin e =
      (countIn s .p).bin e := bin_of_eq (bnm_purged hbin)
  have hcapacity : (reportDelivery (countIn s .p) r.slot r.generation .p 0 r.condemned.isSome).1.capacity .p =
      s.capacity .p := by simp [State.capacity]
  rw [purged, bin_fillUp, hreport, hreport, hcapacity, bin_countIn, bin_countIn, if_pos rfl]
  by_cases hd : d = .p
  · subst hd
    simp only [true_and, if_true]
    split <;> rfl
  · rw [if_neg fun h => hd h.1.symm, if_neg (Ne.symm hd), if_neg hd]

theorem afterBreaks_congr {s u : State} (hstu : u.stu = s.stu) (hrequests : u.requests = s.requests) (slot : Slot)
    (generation : Nat) (st : Statement) : afterBreaks u slot generation st = afterBreaks s slot generation st := by
  rw [afterBreaks, afterBreaks, breakWaits_congr hstu hrequests]

/-- Settles O29: the counts of P, the statement of the sheet, and the retirement claim. -/
theorem deliveryIntoThePurgeBin : Obligations.DeliveryIntoThePurgeBin := by
  intro s c tag r w later htaken hout hbin
  obtain ⟨u, q, hclaim, hruns⟩ := runs_delivery (b := .p) htaken hout later
  rw [if_pos rfl, deliverPurge_eq] at hruns
  obtain ⟨hslot, hgeneration, howner, hcondemned, hstate, hrunOut⟩ := hclaim.fields
  obtain ⟨hstu, hbnm, hjam, htsv, hgsc, htsq, hprofile, hrequests, -⟩ := hclaim.frame
  obtain ⟨fsheets, fptk, fjam, ftsv, fgsc, ftsq, fprofile⟩ := purged_frame u q
  have hbin' : ∀ st, u.statement q.slot = some st → st.bin ≠ some .p := by
    rw [hslot, statement_of_eq hstu]
    exact hbin
  have hcapacity : u.capacity .p = s.capacity .p := by rw [State.capacity, State.capacity, hprofile]
  have hbins := fun d => bin_purged hbin' d
  have hstatements : ∀ j, (purged u q).statement j = _ := fun j =>
    (statement_of_eq (by simp [purged]) j).trans (statement_purged (s := countIn u .p) (slot := q.slot)
      (generation := q.generation) (condemned := q.condemned.isSome) (by simpa [State.statement] using hbin') j)
  rw [howner] at hruns
  obtain ⟨hnow, hwait, hrest⟩ := sendRetirement_reads (s := s) (r := r) ((sheet_of_eq fsheets tag).trans hclaim.record)
    howner (hstate.trans hout) hrunOut ((retires_purged u q).trans (congrArg Requests.retires hrequests))
    ((congrArg Tracker.burst fptk).trans hclaim.burst) (fjam.trans hjam) (ftsv.trans htsv) later
  refine ⟨_, hruns, hnow, fun hl => ?_, fun v hv => ?_, ?_, fun d hd => ?_, fun j => ?_, ?_, ?_, ?_, ?_⟩
  · obtain ⟨hretires, hburst, hjams, hsheet⟩ := hwait hl
    exact ⟨hretires, hburst, hjams, q.trail, hsheet.trans (congrArg some hclaim.same), hclaim.here⟩
  · exact (hrest v hv).trans ((sheet_of_eq fsheets v).trans (hclaim.others v hv))
  · rw [bin_of_eq (by simp : _ = (purged u q).bnm), hbins, if_pos rfl, bin_of_eq hbnm, hcapacity]
  · rw [bin_of_eq (by simp : _ = (purged u q).bnm), hbins, if_neg hd, bin_of_eq hbnm]
  · rw [statement_of_eq (by simp : _ = (purged u q).stu), hstatements, hslot, hgeneration]
    have hcount : (countIn u .p).stu = s.stu ∧ (countIn u .p).requests = s.requests := by simp [hstu, hrequests]
    rw [statement_of_eq hcount.1]
    simp only [afterBreaks_congr hcount.1 hcount.2]
    rfl
  · simp [ftsv, htsv]
  · simp [fgsc, hgsc]
  · simp [ftsq, htsq]
  · simp [fprofile, hprofile]

/-! ## A stacker (O28) -/

/-- The bin counted and the jog moved, before the report (R131, R132). -/
def counted (s : State) (b : Bin) (r : Sheet) : State :=
  moveJog (countIn s b) b { slot := r.slot, generation := r.generation }

/-- The state of a delivery into a stacker before its retirement claim is sent. -/
def stacked (s : State) (b : Bin) (r : Sheet) : State :=
  fillUp (reportAndPlace (counted s b r) b r ((s.bin b).fill + 1)) b

section stacker
variable {s : State} {b : Bin} {r : Sheet} {st : Statement}

theorem deliverStacker_eq (hoff : (s.bin b).state ≠ .off) (tag : Tag) (later : Bool) :
    deliverStacker s b tag r later = sendRetirement (stacked s b r) tag r.owner later := by
  have hfill : ((countIn s b).bin b).fill = (s.bin b).fill + 1 := by rw [bin_countIn, if_pos rfl]
  rw [deliverStacker, if_neg hoff]
  dsimp only
  rw [hfill]
  rfl

theorem stacked_frame (s : State) (b : Bin) (r : Sheet) :
    (stacked s b r).sheets = s.sheets ∧ (stacked s b r).ptk = s.ptk ∧ (stacked s b r).jam = s.jam ∧
    (stacked s b r).tsv = s.tsv ∧ (stacked s b r).gsc = s.gsc ∧ (stacked s b r).tsq = s.tsq ∧
    (stacked s b r).profile = s.profile := by
  simp [stacked, counted]

theorem counted_frame (s : State) (b : Bin) (r : Sheet) : (counted s b r).stu = s.stu ∧
    (counted s b r).requests = s.requests ∧ (counted s b r).cpt = s.cpt ∧ (counted s b r).profile = s.profile := by
  simp [counted]

/-- The record of a bin with one more sheet. -/
def BinRecord.counted (o : Owner) (k : BinRecord) : BinRecord :=
  { k with
    fill := k.fill + 1
    reserved := k.reserved - 1
    jogRight := if k.last = some o then k.jogRight else !k.jogRight
    last := some o }

theorem bin_counted (s : State) (b : Bin) (r : Sheet) :
    (counted s b r).bin b = (s.bin b).counted { slot := r.slot, generation := r.generation } := by
  rw [counted, bin_moveJog, if_pos rfl, bin_countIn, if_pos rfl]
  rfl

theorem bin_counted_ne (s : State) (b : Bin) (r : Sheet) {d : Bin} (hd : d ≠ b) : (counted s b r).bin d = s.bin d := by
  rw [counted, bin_moveJog, if_neg (Ne.symm hd), bin_countIn, if_neg (Ne.symm hd)]

/-- Filling up changes at most the state of its bin. -/
theorem bin_fillUp_self (s : State) (b : Bin) : ∃ state, (fillUp s b).bin b = { s.bin b with state := state } := by
  rw [bin_fillUp]
  split
  · exact ⟨_, rfl⟩
  · exact ⟨(s.bin b).state, rfl⟩

theorem notices_fillUp (s : State) (b : Bin) {n : Notice} (h : n ∈ s.cpt.notices) : n ∈ (fillUp s b).cpt.notices := by
  unfold fillUp
  dsimp only
  split
  · exact mem_notices_notify h
  · exact h

/-! ### The spoil range -/

theorem spoil_evaluateFence (s : State) (b : Bin) : ((evaluateFence s b).bin b).spoil = (s.bin b).spoil := by
  rw [bin_evaluateFence]
  split <;> rfl

theorem spoil_placeSpoil_none {ident : Ident} {position : Nat} (h : openRange (s.bin b) ident = none) :
    ((placeSpoil s b ident position).bin b).spoil =
      insertRange { first := position, last := position, ident, isOpen := true } (s.bin b).spoil := by
  simp only [placeSpoil, h]
  rw [spoil_evaluateFence, State.bin_setBin, if_pos rfl]

theorem spoil_placeSpoil_some {ident : Ident} {position : Nat} {g : SpoilRange}
    (h : openRange (s.bin b) ident = some g) : ((placeSpoil s b ident position).bin b).spoil =
      insertRange { g with last := position } (withoutOpenRange (s.bin b) ident) := by
  simp only [placeSpoil, h]
  rw [State.bin_setBin, if_pos rfl]

/-! ### The report -/

theorem reportAndPlace_none {position : Nat} (h : ∀ st, s.statement r.slot = some st → st.generation ≠ r.generation) :
    reportAndPlace s b r position = takeBreaksOf s r.slot r.generation .binOpened := by
  simp only [reportAndPlace, reportDelivery_none h]

theorem reportAndPlace_spoil {position : Nat} (hst : s.statement r.slot = some st) (hg : st.generation = r.generation)
    (hbad : goodPage (afterBreaks s r.slot r.generation st) b r.condemned.isSome = false) :
    reportAndPlace s b r position = placeSpoil (spoilReported s r.slot r.generation st) b st.ident position := by
  simp only [reportAndPlace, reportDelivery_spoil hst hg hbad]

theorem reportAndPlace_complete {position : Nat} (hst : s.statement r.slot = some st)
    (hg : st.generation = r.generation) (hwaits : breakWaits s r.slot r.generation .binOpened = false)
    (hgood : goodPage st b r.condemned.isSome = true) (hcomplete : (st.paged position).complete = true) :
    reportAndPlace s b r position = completeStatement ((takeBreaksOf s r.slot r.generation .binOpened).setStatement r.slot
      (some (st.paged position))) r.slot (st.paged position) b := by
  have hreport := reportDelivery_good (position := position) hst hg hwaits hgood
  rw [if_pos hcomplete] at hreport
  simp only [reportAndPlace, hreport]

theorem reportAndPlace_paged {position : Nat} (hst : s.statement r.slot = some st)
    (hg : st.generation = r.generation) (hwaits : breakWaits s r.slot r.generation .binOpened = false)
    (hgood : goodPage st b r.condemned.isSome = true) (hopen : (st.paged position).complete = false) :
    reportAndPlace s b r position = closeIfClear ((takeBreaksOf s r.slot r.generation .binOpened).setStatement r.slot
      (some (st.paged position))) r.slot := by
  have hreport := reportDelivery_good (position := position) hst hg hwaits hgood
  rw [if_neg (by simp [hopen])] at hreport
  simp only [reportAndPlace, hreport]

/-- Break requests that are all dropped change nothing at the port. -/
theorem cpt_takeBreaksOf {slot : Slot} {generation : Nat} {cause : BreakCause}
    (h : breakWaits s slot generation cause = false) : (takeBreaksOf s slot generation cause).cpt = s.cpt := by
  unfold takeBreaksOf
  refine (foldl_induction (P := fun u : State => u.stu = s.stu ∧ u.cpt = s.cpt)
    (s := { s with requests := { s.requests with
      breaks := s.requests.breaks.filter fun q => !q.names slot generation cause } }) ⟨rfl, rfl⟩ fun u q hq hu => ?_).2
  obtain ⟨hmem, hnames⟩ := List.mem_filter.1 hq
  have hslot : q.slot = slot := by
    simp only [BreakRequest.names, Bool.and_eq_true, decide_eq_true_eq] at hnames
    exact hnames.1.1
  have hdropped : ¬(q.opening.all fun n => n == u.openingOf q.slot) = true := fun hall => by
    have hopening : u.openingOf q.slot = s.openingOf slot := by rw [State.openingOf, State.openingOf, hu.1, hslot]
    rw [hopening] at hall
    exact List.any_eq_false.1 h q hmem (Bool.and_eq_true_iff.2 ⟨hnames, hall⟩)
  rwa [takeBreak, if_neg hdropped]

end stacker

/-- The pages of a record are all delivered with the next good one. -/
theorem complete_paged (st : Statement) (position : Nat) : (st.paged position).complete = true ↔
    st.state = .closed ∧ st.lastSeen = true ∧ st.delivered + 1 = st.queued := by
  simp only [Statement.complete, Bool.and_eq_true, beq_iff_eq, and_assoc]
  exact and_congr decide_eq_true_iff Iff.rfl

theorem goodPage_iff (st : Statement) (b : Bin) (condemned : Bool) : goodPage st b condemned = true ↔
    (st.state = .opened ∨ st.state = .closed) ∧ condemned = false ∧ st.bin = some b := by
  cases hs : st.state <;> simp [goodPage, StatementState.ended, hs]

/-- What a delivery into a stacker leaves and counts, whatever its report (R131). -/
structure Stacked (s t : State) (b : Bin) (slot : Slot) (o : Owner) : Prop where
  fill : (t.bin b).fill = (s.bin b).fill + 1
  reserved : (t.bin b).reserved = (s.bin b).reserved - 1
  last : (t.bin b).last = some o
  jog : (t.bin b).jogRight = if (s.bin b).last = some o then (s.bin b).jogRight else !(s.bin b).jogRight
  full : (s.bin b).fill + 1 = s.capacity b → (s.bin b).state = .ready ∨ (s.bin b).state = .fenced →
    (t.bin b).state = .full
  others : ∀ d, d ≠ b → t.bin d = s.bin d
  statements : ∀ j, j ≠ slot → t.statement j = s.statement j
  retires : t.requests.retires = s.requests.retires

theorem stacked_spec (s : State) (b : Bin) (r : Sheet) :
    Stacked s (stacked s b r) b r.slot { slot := r.slot, generation := r.generation } := by
  obtain ⟨hstu, hrequests, -, hprofile⟩ := counted_frame s b r
  have hcounted := bin_counted s b r
  have hreport := reported_reportAndPlace b (counted s b r) r ((s.bin b).fill + 1)
  have hcapacity : (reportAndPlace (counted s b r) b r ((s.bin b).fill + 1)).capacity b = s.capacity b := by
    simp [State.capacity, hprofile]
  rw [stacked]
  generalize reportAndPlace (counted s b r) b r ((s.bin b).fill + 1) = w at hreport hcapacity ⊢
  obtain ⟨state, hfill⟩ := bin_fillUp_self w b
  have hfilled := hreport.fill
  have hstate := hreport.state
  rw [hcounted] at hfilled hstate
  refine ⟨?_, ?_, ?_, ?_, fun hcap hopen => ?_, fun d hd => ?_, fun j hj => ?_, ?_⟩
  · rw [hfill]
    exact hfilled
  · rw [hfill]
    exact hreport.reserved.trans (by rw [hcounted]; rfl)
  · rw [hfill]
    exact hreport.last.trans (by rw [hcounted]; rfl)
  · rw [hfill]
    exact hreport.jog.trans (by rw [hcounted]; rfl)
  · have hopened : (w.bin b).state = .ready ∨ (w.bin b).state = .fenced := by
      rcases hstate with hsame | ⟨-, hfenced⟩
      · rwa [hsame]
      · exact .inr hfenced
    rw [bin_fillUp, if_pos ⟨rfl, hfilled.trans (hcap.trans hcapacity.symm), hopened⟩]
  · rw [bin_fillUp, if_neg fun h => hd h.1.symm, hreport.others d hd, bin_counted_ne s b r hd]
  · rw [statement_of_eq (by simp : (fillUp w b).stu = w.stu), hreport.statements j hj, statement_of_eq hstu]
  · have hsame : (fillUp w b).requests = w.requests := by simp
    rw [hsame, hreport.retires, hrequests]

section judged
variable {s : State} {b : Bin} {r : Sheet} {st : Statement}

theorem stu_stacked (s : State) (b : Bin) (r : Sheet) :
    (stacked s b r).stu = (reportAndPlace (counted s b r) b r ((s.bin b).fill + 1)).stu := by
  simp [stacked]

theorem spoil_stacked (s : State) (b : Bin) (r : Sheet) : ((stacked s b r).bin b).spoil =
    ((reportAndPlace (counted s b r) b r ((s.bin b).fill + 1)).bin b).spoil := by
  obtain ⟨state, hfill⟩ := bin_fillUp_self (reportAndPlace (counted s b r) b r ((s.bin b).fill + 1)) b
  rw [stacked, hfill]

theorem stacking_stacked (s : State) (b : Bin) (r : Sheet) : ((stacked s b r).bin b).stacking =
    ((reportAndPlace (counted s b r) b r ((s.bin b).fill + 1)).bin b).stacking := by
  obtain ⟨state, hfill⟩ := bin_fillUp_self (reportAndPlace (counted s b r) b r ((s.bin b).fill + 1)) b
  rw [stacked, hfill]

theorem statement_counted (s : State) (b : Bin) (r : Sheet) (j : Slot) :
    (counted s b r).statement j = s.statement j := statement_of_eq (counted_frame s b r).1 j

theorem breakWaits_counted (s : State) (b : Bin) (r : Sheet) (slot : Slot) (generation : Nat) (cause : BreakCause) :
    breakWaits (counted s b r) slot generation cause = breakWaits s slot generation cause :=
  breakWaits_congr (counted_frame s b r).1 (counted_frame s b r).2.1 slot generation cause

theorem bin_takeBreaksOf (s : State) (slot : Slot) (generation : Nat) (cause : BreakCause) (d : Bin) :
    (takeBreaksOf s slot generation cause).bin d = s.bin d := bin_of_eq (by simp) d

/-- A report that is dropped leaves the statements and the spoil ranges. -/
theorem stacked_none (h : ∀ st, s.statement r.slot = some st → st.generation ≠ r.generation) :
    (stacked s b r).stu = s.stu ∧ ((stacked s b r).bin b).spoil = (s.bin b).spoil := by
  have h' : ∀ st, (counted s b r).statement r.slot = some st → st.generation ≠ r.generation := by
    rwa [statement_counted]
  rw [stu_stacked, spoil_stacked, reportAndPlace_none h', bin_takeBreaksOf, bin_counted]
  exact ⟨(stu_takeBreaksOf_none h').trans (counted_frame s b r).1, rfl⟩

/-- A page that is not good: the statement has one sheet less in flight, and the page is spoil (R9, R134). -/
theorem stacked_spoil (hst : s.statement r.slot = some st) (hg : st.generation = r.generation)
    (hbad : goodPage (afterBreaks s r.slot r.generation st) b r.condemned.isSome = false) :
    (stacked s b r).statement r.slot =
      some { afterBreaks s r.slot r.generation st with inFlight := st.inFlight - 1 } ∧
    (openRange (s.bin b) st.ident = none → ((stacked s b r).bin b).spoil = insertRange
      { first := (s.bin b).fill + 1, last := (s.bin b).fill + 1, ident := st.ident, isOpen := true }
      (s.bin b).spoil) ∧
    (∀ g, openRange (s.bin b) st.ident = some g → ((stacked s b r).bin b).spoil =
      insertRange { g with last := (s.bin b).fill + 1 } (withoutOpenRange (s.bin b) st.ident)) := by
  have hst' : (counted s b r).statement r.slot = some st := by rwa [statement_counted]
  have hbreaks : afterBreaks (counted s b r) r.slot r.generation st = afterBreaks s r.slot r.generation st :=
    afterBreaks_congr (counted_frame s b r).1 (counted_frame s b r).2.1 _ _ _
  have hplaced := reportAndPlace_spoil (position := (s.bin b).fill + 1) hst' hg (by rwa [hbreaks])
  have hbin : (spoilReported (counted s b r) r.slot r.generation st).bin b =
      (s.bin b).counted { slot := r.slot, generation := r.generation } :=
    (bin_of_eq (bnm_spoilReported ..) b).trans (bin_counted s b r)
  refine ⟨?_, fun hnone => ?_, fun g hsome => ?_⟩
  · rw [statement_of_eq (stu_stacked s b r), hplaced, statement_of_eq (placeSpoil_frame ..).2.1, statement_spoilReported,
      hbreaks]
  · rw [spoil_stacked, hplaced, spoil_placeSpoil_none (by rw [hbin]; exact hnone), hbin]
    rfl
  · rw [spoil_stacked, hplaced, spoil_placeSpoil_some (by rw [hbin]; exact hsome), hbin]
    rfl

/-- A good page counts, and its spoil list stays (R9). -/
theorem stacked_paged (hst : s.statement r.slot = some st) (hg : st.generation = r.generation)
    (hwaits : breakWaits s r.slot r.generation .binOpened = false)
    (hgood : goodPage st b r.condemned.isSome = true) (hopen : (st.paged ((s.bin b).fill + 1)).complete = false) :
    (stacked s b r).statement r.slot = some (st.paged ((s.bin b).fill + 1)) ∧
      ((stacked s b r).bin b).spoil = (s.bin b).spoil := by
  have hst' : (counted s b r).statement r.slot = some st := by rwa [statement_counted]
  have hplaced := reportAndPlace_paged hst' hg (by rwa [breakWaits_counted]) hgood hopen
  constructor
  · rw [statement_of_eq (stu_stacked s b r), hplaced, statement_of_eq (closeIfClear_frame _ _).2.1,
      State.statement_setStatement, if_pos rfl]
  · have hbin : ∀ u : State, (closeIfClear u r.slot).bin b = u.bin b := fun u => bin_of_eq (by simp) b
    have hcounted : ((takeBreaksOf (counted s b r) r.slot r.generation .binOpened).setStatement r.slot
        (some (st.paged ((s.bin b).fill + 1)))).bin b =
          (s.bin b).counted { slot := r.slot, generation := r.generation } :=
      (bin_takeBreaksOf ..).trans (bin_counted s b r)
    rw [spoil_stacked, hplaced, hbin, hcounted]
    rfl

/-- The last good page completes the statement (R11). -/
theorem stacked_complete (hst : s.statement r.slot = some st) (hg : st.generation = r.generation)
    (hwaits : breakWaits s r.slot r.generation .binOpened = false)
    (hgood : goodPage st b r.condemned.isSome = true) (hcomplete : (st.paged ((s.bin b).fill + 1)).complete = true) :
    (stacked s b r).statement r.slot = none ∧ ((stacked s b r).bin b).spoil = (s.bin b).spoil ∧
    ((stacked s b r).bin b).stacking =
      (s.bin b).stacking.filter (fun o => decide (o ≠ { slot := r.slot, generation := r.generation })) ∧
    (s.cpt.notices.length < 32 →
      Notice.stmtComplete r.slot st.ident b (st.firstPos.getD ((s.bin b).fill + 1)) ((s.bin b).fill + 1) ∈
        (stacked s b r).cpt.notices) := by
  have hst' : (counted s b r).statement r.slot = some st := by rwa [statement_counted]
  have hwaits' : breakWaits (counted s b r) r.slot r.generation .binOpened = false := by rwa [breakWaits_counted]
  have hplaced := reportAndPlace_complete hst' hg hwaits' hgood hcomplete
  generalize hu : (takeBreaksOf (counted s b r) r.slot r.generation .binOpened).setStatement r.slot
    (some (st.paged ((s.bin b).fill + 1))) = u at hplaced
  have hbin : u.bin b = (s.bin b).counted { slot := r.slot, generation := r.generation } := by
    rw [← hu]
    exact (bin_takeBreaksOf ..).trans (bin_counted s b r)
  have hcpt : u.cpt = s.cpt := by
    rw [← hu]
    exact (cpt_takeBreaksOf hwaits').trans (counted_frame s b r).2.2.1
  have hdone : (completeStatement u r.slot (st.paged ((s.bin b).fill + 1)) b).bin b =
      { u.bin b with stacking := (u.bin b).stacking.filter fun o => o != { slot := r.slot, generation := st.generation } } := by
    refine (bin_removeStacked _ b b r.slot st.generation).trans ?_
    rw [if_pos rfl, bin_of_eq (State.notify_bnm ..)]
  refine ⟨?_, ?_, ?_, fun hroom => ?_⟩
  · rw [statement_of_eq (stu_stacked s b r), hplaced, completeStatement, State.statement_setStatement, if_pos rfl]
  · rw [spoil_stacked, hplaced, hdone, hbin]
    rfl
  · rw [stacking_stacked, hplaced, hdone, hbin, hg]
    refine List.filter_congr fun o _ => ?_
    rw [decide_not]
    rfl
  · refine notices_fillUp _ _ ?_
    rw [hplaced]
    have hnotified : (completeStatement u r.slot (st.paged ((s.bin b).fill + 1)) b).cpt.notices =
        (u.notify (.stmtComplete r.slot st.ident b (st.firstPos.getD ((s.bin b).fill + 1))
          ((s.bin b).fill + 1))).cpt.notices := rfl
    rw [hnotified, State.notify_room _ _ (by rwa [hcpt])]
    simp

end judged

end Sys2Proof.Machine
end

section
/-! SUPPORT. A delivery into a stacker, and the retirement claim that waits for the next step (O28). -/

namespace Sys2Proof.Machine

set_option Elab.async false

/-! ## The retirement claim that waited -/

/-- The one claim that waited before the step is the one taken (log 41). -/
theorem takeRetirements_one {s u : State} {q : Retirement} {rest : List Retirement} (hs : s.requests.retires = [q])
    (hu : u.requests.retires = q :: rest) : takeRetirements s u =
      retireDelivered { u with requests := { u.requests with retires := rest } } q.tag q.owner := by
  simp only [takeRetirements, hs, hu, List.length_singleton, List.take_succ_cons, List.take_zero, List.drop_succ_cons,
    List.drop_zero, List.foldl_cons, List.foldl_nil]

theorem retireDelivered_unclaimed {s : State} {t : Tag} {o : Owner} (h : ∀ r, s.sheet t = some r → r.owner ≠ o) :
    retireDelivered s t o = s := by
  have hnone : s.claimed t o = none := by
    rw [State.claimed, Option.filter_eq_none_iff]
    exact fun r hr => by simpa using h r hr
  simp only [retireDelivered, hnone]

theorem retireDelivered_other {s : State} {t : Tag} {o : Owner} {r : Sheet} (hr : s.sheet t = some r) (ho : r.owner = o)
    (hout : r.state ≠ .output) (hstranded : r.state ≠ .stranded) : retireDelivered s t o = s := by
  simp [retireDelivered, State.claimed, hr, Option.filter, ho, hout, hstranded]

/-- What the taking of the one claim that waited does (R36, R152). -/
theorem waitingRetirement_taken {s u : State} {q : Retirement} {rest : List Retirement}
    (hs : s.requests.retires = [q]) (hu : u.requests.retires = q :: rest) :
    (∀ r, u.sheet q.tag = some r → r.owner = q.owner →
      (r.state = .output →
        (takeRetirements s u).sheet q.tag = none ∧ (∀ tag, tag ≠ q.tag → (takeRetirements s u).sheet tag = u.sheet tag) ∧
        (takeRetirements s u).ptk = { u.ptk with burst := u.ptk.burst.filter fun g => g.tag != q.tag } ∧
        (takeRetirements s u).jam = (if r.runOut = true ∧ u.tsv.state = .runout then
          { u.jam with runOutCount := u.jam.runOutCount - 1 } else u.jam) ∧
        (takeRetirements s u).requests = { u.requests with
          retires := rest, condemns := u.requests.condemns.filter fun k => k.tag != some q.tag } ∧
        (takeRetirements s u).stu = u.stu ∧ (takeRetirements s u).bnm = u.bnm ∧ (takeRetirements s u).tsv = u.tsv) ∧
      (r.state = .stranded → takeRetirements s u = { u with
        jam := { u.jam with delivered :=
          if q.tag ∈ u.jam.delivered then u.jam.delivered else u.jam.delivered ++ [q.tag] }
        requests := { u.requests with retires := rest } }) ∧
      (r.state ≠ .output → r.state ≠ .stranded →
        takeRetirements s u = { u with requests := { u.requests with retires := rest } })) ∧
    ((∀ r, u.sheet q.tag = some r → r.owner ≠ q.owner) →
      takeRetirements s u = { u with requests := { u.requests with retires := rest } }) := by
  rw [takeRetirements_one hs hu]
  refine ⟨fun r hr ho => ⟨fun hout => ?_, fun hstranded => ?_, fun hout hstranded => ?_⟩, fun hno => ?_⟩
  · rw [retireDelivered_output (s := { u with requests := { u.requests with retires := rest } }) hr ho hout]
    refine ⟨?_, fun tag htag => ?_, ?_, ?_, ?_, ?_, ?_, ?_⟩
    · rw [sheet_retire, if_pos rfl]
    · rw [sheet_retire, if_neg (Ne.symm htag)]
      split <;> rfl
    all_goals split <;> rfl
  · exact retireDelivered_stranded (s := { u with requests := { u.requests with retires := rest } }) hr ho hstranded
  · exact retireDelivered_other (s := { u with requests := { u.requests with retires := rest } }) hr ho hout hstranded
  · exact retireDelivered_unclaimed (s := { u with requests := { u.requests with retires := rest } }) hno

/-! ## The delivery (O28) -/

/-- A page that is not good: by the break that waits, by the state of its statement, by the sheet, or by the bin. -/
theorem goodPage_afterBreaks_bad {s : State} {slot : Slot} {generation : Nat} {st : Statement} {b : Bin} {r : Sheet}
    (hg : st.generation = generation)
    (h : breakWaits s slot generation .binOpened = true ∨ st.state = .broken ∨ st.state = .abandoned ∨
      r.condemned ≠ none ∨ st.bin ≠ some b) :
    goodPage (afterBreaks s slot generation st) b r.condemned.isSome = false := by
  have hended : ∀ hw : breakWaits s slot generation .binOpened = true ∨ st.state.ended = true,
      goodPage (afterBreaks s slot generation st) b r.condemned.isSome = false := fun hw => by
    simp [goodPage, ended_afterBreaks hg hw]
  rcases h with h | h | h | h | h
  · exact hended (.inl h)
  · exact hended (.inr (by rw [h]; rfl))
  · exact hended (.inr (by rw [h]; rfl))
  · simp [goodPage, Option.isSome_iff_ne_none.2 h]
  · simp [goodPage, (afterBreaks_fields s slot generation st).2.2.1, h]

/-- Settles O28: the counts of the bin, the judgement of the page, and the retirement claim, at once or waiting. -/
theorem deliveryIntoAStacker : Obligations.DeliveryIntoAStacker := by
  refine ⟨fun s b c tag r w later hb htaken hout hoff => ?_, fun s u q rest => waitingRetirement_taken⟩
  obtain ⟨u, q, hclaim, hruns⟩ := runs_delivery htaken hout later
  obtain ⟨hslot, hgeneration, howner, hcondemned, hstate, hrunOut⟩ := hclaim.fields
  obtain ⟨hstu, hbnm, hjam, htsv, hgsc, htsq, hprofile, hrequests, hcpt⟩ := hclaim.frame
  have hbin : ∀ d, u.bin d = s.bin d := bin_of_eq hbnm
  have hstatement : ∀ j, u.statement j = s.statement j := statement_of_eq hstu
  have hwaits : breakWaits u r.slot r.generation .binOpened = breakWaits s r.slot r.generation .binOpened :=
    breakWaits_congr hstu hrequests ..
  have hbreaks : ∀ st, afterBreaks u r.slot r.generation st = afterBreaks s r.slot r.generation st :=
    afterBreaks_congr hstu hrequests r.slot r.generation
  rw [if_neg hb, deliverStacker_eq (by rwa [hbin]), howner] at hruns
  obtain ⟨fsheets, fptk, fjam, ftsv, fgsc, ftsq, fprofile⟩ := stacked_frame u b q
  have hspec := stacked_spec u b q
  obtain ⟨hnow, hwait, hrest⟩ := sendRetirement_reads (s := s) (r := r) ((sheet_of_eq fsheets tag).trans hclaim.record)
    howner (hstate.trans hout) hrunOut (hspec.retires.trans (congrArg Requests.retires hrequests))
    ((congrArg Tracker.burst fptk).trans hclaim.burst) (fjam.trans hjam) (ftsv.trans htsv) later
  have tbin : ∀ d, (sendRetirement (stacked u b q) tag r.owner later).bin d = (stacked u b q).bin d :=
    bin_of_eq (by simp)
  have tstu : (sendRetirement (stacked u b q) tag r.owner later).stu = (stacked u b q).stu := by simp
  have tcpt : (sendRetirement (stacked u b q) tag r.owner later).cpt = (stacked u b q).cpt := by simp
  have tstatement : ∀ j, (sendRetirement (stacked u b q) tag r.owner later).statement j = (stacked u b q).statement j :=
    statement_of_eq tstu
  have hcapacity : u.capacity b = s.capacity b := by rw [State.capacity, State.capacity, hprofile]
  have hdropped := stacked_none (s := u) (b := b) (r := q)
  have hspoil := fun st => stacked_spoil (s := u) (b := b) (r := q) (st := st)
  have hpaged := fun st => stacked_paged (s := u) (b := b) (r := q) (st := st)
  have hcomplete := fun st => stacked_complete (s := u) (b := b) (r := q) (st := st)
  simp only [hslot, hgeneration, hcondemned, hstatement, hwaits, hbreaks, hbin, hcpt, hstu]
    at hdropped hspoil hpaged hcomplete
  rw [hslot, hgeneration] at hspec
  refine ⟨_, hruns, hnow, fun hl => ?_, fun v hv => ?_, ?_, ?_, ?_, ?_, fun hfull hopen => ?_, fun d hd => ?_,
    fun j hj => ?_, fun st hst hg => ⟨fun hfree hopen hgood hmine => ?_, fun hbad => ?_⟩, fun hno => ?_, ?_, ?_, ?_, ?_⟩
  · obtain ⟨hretires, hburst, hjams, hsheet⟩ := hwait hl
    exact ⟨hretires, hburst, hjams, q.trail, hsheet.trans (congrArg some hclaim.same), hclaim.here⟩
  · exact (hrest v hv).trans ((sheet_of_eq fsheets v).trans (hclaim.others v hv))
  · rw [tbin, hspec.fill, hbin]
  · rw [tbin, hspec.reserved, hbin]
  · rw [tbin, hspec.last]
  · rw [tbin, hspec.jog, hbin]
  · rw [tbin]
    exact hspec.full (by rwa [hbin, hcapacity]) (by rwa [hbin])
  · rw [tbin, hspec.others d hd, hbin]
  · rw [tstatement, hspec.statements j hj, hstatement]
  · have hpage : goodPage st b r.condemned.isSome = true := (goodPage_iff st b _).2 ⟨hopen, by simp [hgood], hmine⟩
    rw [tbin, tstatement, tcpt]
    by_cases hdone : (st.paged ((s.bin b).fill + 1)).complete = true
    · obtain ⟨hgone, hsame, hstacking, hnotice⟩ := hcomplete st hst hg hfree hpage hdone
      obtain ⟨hclosed, hseen, hlast⟩ := (complete_paged st _).1 hdone
      refine ⟨hsame, fun _ _ _ => ⟨hgone, hstacking, hnotice⟩, fun hnot => ?_⟩
      rcases hnot with h | h | h
      · simp [h] at hclosed
      · simp [h] at hseen
      · exact absurd hlast h
    · obtain ⟨hcount, hsame⟩ := hpaged st hst hg hfree hpage (by simpa using hdone)
      exact ⟨hsame, fun hclosed hseen hlast => absurd ((complete_paged st _).2 ⟨hclosed, hseen, hlast⟩) hdone,
        fun _ => hcount⟩
  · rw [tbin, tstatement]
    exact hspoil st hst hg (goodPage_afterBreaks_bad hg hbad)
  · have hnot : ∀ st, s.statement r.slot = some st → st.generation ≠ r.generation := by
      intro st hst
      rcases hno with h | ⟨p, hp, hg⟩
      · simp [h] at hst
      · obtain rfl : p = st := Option.some.inj (hp.symm.trans hst)
        exact hg
    rw [tbin, tstu]
    exact hdropped hnot
  · simp [ftsv, htsv]
  · simp [fgsc, hgsc]
  · simp [ftsq, htsq]
  · simp [fprofile, hprofile]

end Sys2Proof.Machine
end

section
/-! SUPPORT. Reroutes: the gates, the reservation and the bin entry of one record (O36, R120). -/

namespace Sys2Proof.Machine

set_option Elab.async false

/-! ## Lists that take one more entry -/

theorem insertRequest_perm (q : GateRequest) (l : List GateRequest) : (insertRequest q l).Perm (q :: l) := by
  induction l with
  | nil => exact .refl _
  | cons h t ih =>
    unfold insertRequest
    split
    · exact .refl _
    · exact (ih.cons h).trans (.swap q h t)

theorem insertByOpen_perm (e : Expectation) (l : List Expectation) : (insertByOpen e l).Perm (e :: l) := by
  induction l with
  | nil => exact .refl _
  | cons h t ih =>
    unfold insertByOpen
    split
    · exact .refl _
    · exact (ih.cons h).trans (.swap e h t)

theorem filter_insertRequest {p : GateRequest → Bool} {q : GateRequest} (h : p q = false) (l : List GateRequest) :
    (insertRequest q l).filter p = l.filter p := by
  induction l with
  | nil => simp [insertRequest, h]
  | cons k t ih =>
    unfold insertRequest
    split
    · simp [h]
    · rw [List.filter_cons, List.filter_cons, ih]

theorem filter_insertByOpen {p : Expectation → Bool} {e : Expectation} (h : p e = false) (l : List Expectation) :
    (insertByOpen e l).filter p = l.filter p := by
  induction l with
  | nil => simp [insertByOpen, h]
  | cons k t ih =>
    unfold insertByOpen
    split
    · simp [h]
    · rw [List.filter_cons, List.filter_cons, ih]

theorem filter_erase_of_not {p : Expectation → Bool} {e : Expectation} (h : p e = false) (l : List Expectation) :
    (l.erase e).filter p = l.filter p := by
  rw [← List.erase_filter, List.erase_of_not_mem]
  exact fun hmem => by simp [h] at hmem

/-! ## The bin entry -/

/-- The stacker entries of the cascade, in its order. -/
def stackerEntries : List Sensor := [.b1, .b2, .b3, .b4]

/-- A bin entry moved to BP: around its new count, wide where it was wide or the backup base runs (R97). -/
def purgeEntry (s : State) (e : Expectation) (lastLead : Count) : Expectation :=
  { e with
    opens := minus (plus lastLead (s.leg .outBp)) (if e.widened || s.tsv.backup then
      s.limit .leadTolerance * s.limit .backupMultiplier else s.limit .leadTolerance)
    closes := plus (plus lastLead (s.leg .outBp)) (if e.widened || s.tsv.backup then
      s.limit .leadTolerance * s.limit .backupMultiplier else s.limit .leadTolerance)
    widened := e.widened || s.tsv.backup }

theorem tag_of_entryOfTag {s : State} {x : Sensor} {tag : Tag} {e : Expectation} (h : s.entryOfTag x tag = some e) :
    e.tag = tag := by
  simpa using List.find?_some h

/-- No bin entry of the tag: nothing moves. -/
theorem moveToPurge_none {s : State} {tag : Tag} {c : Count}
    (h : ∀ x ∈ stackerEntries, s.entryOfTag x tag = none) : moveToPurge s tag c = s := by
  have hfind : (stackerEntries.find? fun x => (s.entryOfTag x tag).isSome) = none :=
    List.find?_eq_none.2 fun x hx => by simp [h x hx]
  unfold moveToPurge
  rw [stackerEntries] at hfind
  simp only [hfind]

/-- The first bin entry of the tag moves. -/
theorem moveToPurge_some {s : State} {tag : Tag} {c : Count} {x : Sensor} {e : Expectation}
    (hfind : (stackerEntries.find? fun x => (s.entryOfTag x tag).isSome) = some x)
    (he : s.entryOfTag x tag = some e) :
    moveToPurge s tag c = expect (dropEntry s x e) .bp (purgeEntry s e c) := by
  unfold moveToPurge
  rw [stackerEntries] at hfind
  simp only [hfind, he]
  rfl

theorem moveToPurge_cases (s : State) (tag : Tag) (c : Count) : moveToPurge s tag c = s ∨
    ∃ x e, x ∈ stackerEntries ∧ s.entryOfTag x tag = some e ∧
      moveToPurge s tag c = expect (dropEntry s x e) .bp (purgeEntry s e c) := by
  cases hfind : stackerEntries.find? fun x => (s.entryOfTag x tag).isSome with
  | none =>
    exact .inl (moveToPurge_none fun x hx => by simpa using List.find?_eq_none.1 hfind x hx)
  | some x =>
    obtain ⟨e, he⟩ := Option.isSome_iff_exists.1 (List.find?_some (p := fun x => (s.entryOfTag x tag).isSome) hfind)
    exact .inr ⟨x, e, List.mem_of_find?_eq_some hfind, he, moveToPurge_some hfind he⟩

/-- The only bin entry of the tag moves. -/
theorem moveToPurge_only {s : State} {tag : Tag} {c : Count} {b : Bin} {e : Expectation} (hb : b ≠ .p)
    (he : s.entryOfTag (entryOf b) tag = some e)
    (honly : ∀ d, d ≠ b → d ≠ .p → s.entryOfTag (entryOf d) tag = none) :
    moveToPurge s tag c = expect (dropEntry s (entryOf b) e) .bp (purgeEntry s e c) := by
  refine moveToPurge_some ?_ he
  cases b with
  | p => exact absurd rfl hb
  | b1 => simp [stackerEntries, show s.entryOfTag .b1 tag = some e from he, entryOf]
  | b2 =>
    have h1 : s.entryOfTag .b1 tag = none := honly .b1 (by decide) (by decide)
    simp [stackerEntries, h1, show s.entryOfTag .b2 tag = some e from he, entryOf]
  | b3 =>
    have h1 : s.entryOfTag .b1 tag = none := honly .b1 (by decide) (by decide)
    have h2 : s.entryOfTag .b2 tag = none := honly .b2 (by decide) (by decide)
    simp [stackerEntries, h1, h2, show s.entryOfTag .b3 tag = some e from he, entryOf]
  | b4 =>
    have h1 : s.entryOfTag .b1 tag = none := honly .b1 (by decide) (by decide)
    have h2 : s.entryOfTag .b2 tag = none := honly .b2 (by decide) (by decide)
    have h3 : s.entryOfTag .b3 tag = none := honly .b3 (by decide) (by decide)
    simp [stackerEntries, h1, h2, h3, show s.entryOfTag .b4 tag = some e from he, entryOf]

theorem gate_moveToPurge (s : State) (tag : Tag) (c : Count) (h : Gate) : (moveToPurge s tag c).gate h = s.gate h :=
  gate_of_eq (by simp) h

theorem faults_moveToPurge (s : State) (tag : Tag) (c : Count) {f : PathFault} (h : f ∈ s.requests.faults) :
    f ∈ (moveToPurge s tag c).requests.faults := by
  rcases moveToPurge_cases s tag c with hsame | ⟨x, e, -, -, hmoved⟩
  · rwa [hsame]
  · rw [hmoved, faults_expect]
    exact List.mem_append_left _ h

/-! ## The gates -/

/-- The requests of a reroute: a PASSAGE at each gate beyond the diverting one. -/
def passagesBeyond (g : Gate) : List (Gate × RequestKind) := (gatesBeyond g).map fun h => (h, .passage)

/-- The pending THROW of the tag at its gate made a PASSAGE (R120). -/
def unthrown (s : State) (g : Gate) (tag : Tag) : State :=
  s.setGate g { s.gate g with waiting := (s.gate g).waiting.map (GateRequest.toPassage tag) }

theorem rerouteGates_eq (s : State) (g : Gate) (tag : Tag) (o : Owner) (c : Count) : rerouteGates s g tag o c =
    if (s.gate g).waiting.any fun k => k.tag = tag ∧ k.kind = .throw then
      addRequests tag o c (passagesBeyond g) (unthrown s g tag) else s := by
  rw [rerouteGates, addRequests, passagesBeyond, List.foldl_map]
  rfl

theorem passage_mem_passagesBeyond {g h : Gate} {kind : RequestKind} :
    (h, kind) ∈ passagesBeyond g ↔ h ∈ gatesBeyond g ∧ kind = .passage := by
  constructor
  · intro hmem
    obtain ⟨k, hk, heq⟩ := List.mem_map.1 hmem
    cases heq
    exact ⟨hk, rfl⟩
  · rintro ⟨hmem, rfl⟩
    exact List.mem_map.2 ⟨h, hmem, rfl⟩

theorem nodup_passagesBeyond (g : Gate) : ((passagesBeyond g).map Prod.fst).Nodup := by
  cases g <;> decide

theorem not_mem_gatesBeyond_self (g : Gate) : g ∉ gatesBeyond g := by
  cases g <;> decide

theorem leadSensor_gatesBeyond {g h : Gate} (hmem : h ∈ gatesBeyond g) : leadSensor h = .out := by
  revert hmem
  cases g <;> cases h <;> decide

theorem map_toPassage_of_none {tag : Tag} {l : List GateRequest} (h : ∀ k ∈ l, k.tag = tag → k.kind ≠ .throw) :
    l.map (GateRequest.toPassage tag) = l := by
  refine (List.map_congr_left fun k hk => ?_).trans (List.map_id l)
  exact if_neg fun hand => h k hk hand.1 hand.2

theorem any_throw_iff (tag : Tag) (l : List GateRequest) :
    (l.any fun k => decide (k.tag = tag ∧ k.kind = .throw)) = true ↔ ∃ k ∈ l, k.tag = tag ∧ k.kind = .throw := by
  simp [List.any_eq_true]

section gates
variable {s : State} {g : Gate} {tag : Tag} {o : Owner} {c : Count}

theorem gate_unthrown_ne {h : Gate} (hne : h ≠ g) : (unthrown s g tag).gate h = s.gate h := by
  rw [unthrown, State.gate_setGate, if_neg (Ne.symm hne)]

/-- The gate of the divert: its throws of the tag are passages. -/
theorem gate_rerouteGates_self : (rerouteGates s g tag o c).gate g =
    { s.gate g with waiting := (s.gate g).waiting.map (GateRequest.toPassage tag) } := by
  rw [rerouteGates_eq]
  split
  · rw [gate_addRequests_other fun kind hmem => not_mem_gatesBeyond_self g (passage_mem_passagesBeyond.1 hmem).1,
      unthrown, State.gate_setGate, if_pos rfl]
  case isFalse hno =>
    rw [map_toPassage_of_none]
    exact fun k hk htag hkind => hno ((any_throw_iff tag _).2 ⟨k, hk, htag, hkind⟩)

theorem gate_rerouteGates_other {h : Gate} (hbeyond : h ∉ gatesBeyond g) (hne : h ≠ g) :
    (rerouteGates s g tag o c).gate h = s.gate h := by
  rw [rerouteGates_eq]
  split
  · rw [gate_addRequests_other fun kind hmem => hbeyond (passage_mem_passagesBeyond.1 hmem).1, gate_unthrown_ne hne]
  · rfl

theorem rerouteGates_none (h : ∀ k ∈ (s.gate g).waiting, k.tag = tag → k.kind ≠ .throw) :
    rerouteGates s g tag o c = s := by
  rw [rerouteGates_eq, if_neg]
  rw [any_throw_iff]
  rintro ⟨k, hk, htag, hkind⟩
  exact h k hk htag hkind

theorem requestCount_unthrown (h : Gate) : requestCount (unthrown s g tag) h c = requestCount s h c := rfl

theorem gate_rerouteGates_room {h : Gate} (hbeyond : h ∈ gatesBeyond g)
    (hthrow : ∃ k ∈ (s.gate g).waiting, k.tag = tag ∧ k.kind = .throw) (hroom : (s.gate h).waiting.length < 2) :
    (rerouteGates s g tag o c).gate h = { s.gate h with
      waiting := insertRequest { tag := tag, owner := o, kind := .passage, count := requestCount s h c }
        (s.gate h).waiting } := by
  have hne : h ≠ g := fun heq => not_mem_gatesBeyond_self g (heq ▸ hbeyond)
  have hgate := gate_unthrown_ne (s := s) (tag := tag) hne
  rw [rerouteGates_eq, if_pos ((any_throw_iff tag _).2 hthrow),
    gate_addRequests_room (nodup_passagesBeyond g) (passage_mem_passagesBeyond.2 ⟨hbeyond, rfl⟩) _ (by rwa [hgate]),
    hgate, requestCount_unthrown]

theorem gate_rerouteGates_full {h : Gate} (hbeyond : h ∈ gatesBeyond g)
    (hthrow : ∃ k ∈ (s.gate g).waiting, k.tag = tag ∧ k.kind = .throw) (hfull : 2 ≤ (s.gate h).waiting.length) :
    (rerouteGates s g tag o c).gate h = s.gate h ∧
      { cause := .gateConflict, sensor := .out, tag := some tag } ∈ (rerouteGates s g tag o c).requests.faults := by
  have hne : h ≠ g := fun heq => not_mem_gatesBeyond_self g (heq ▸ hbeyond)
  have hgate := gate_unthrown_ne (s := s) (tag := tag) hne
  obtain ⟨hsame, hfault⟩ := gate_addRequests_full (tag := tag) (o := o) (c := c) (nodup_passagesBeyond g)
    (passage_mem_passagesBeyond.2 ⟨hbeyond, rfl⟩) (unthrown s g tag) (by rwa [hgate])
  rw [rerouteGates_eq, if_pos ((any_throw_iff tag _).2 hthrow)]
  exact ⟨hsame.trans hgate, leadSensor_gatesBeyond hbeyond ▸ hfault⟩

theorem faults_rerouteGates {f : PathFault} (h : f ∈ s.requests.faults) :
    f ∈ (rerouteGates s g tag o c).requests.faults := by
  rw [rerouteGates_eq]
  split
  · obtain ⟨fs, hfs⟩ := faults_addRequests (tag := tag) (o := o) (c := c) (passagesBeyond g) (unthrown s g tag)
    rw [hfs]
    exact List.mem_append_left fs h
  · exact h

end gates

/-! ## One record rerouted -/

/-- The record retargeted and its reservation moved to P (R120, steps 1 and 2). -/
def retargeted (s : State) (tag : Tag) (r : Sheet) : State :=
  reserve (release (s.setSheet tag (some { r with target := .p })) r.target) .p

/-- The count from which a reroute reckons. -/
def leadOf (s : State) (r : Sheet) : Count := r.lastLead.getD s.now

theorem retargeted_frame (s : State) (tag : Tag) (r : Sheet) :
    (retargeted s tag r).gsc = s.gsc ∧ (retargeted s tag r).ptk = s.ptk ∧ (retargeted s tag r).requests = s.requests ∧
    (retargeted s tag r).profile = s.profile ∧ (retargeted s tag r).tsv = s.tsv ∧ (retargeted s tag r).stu = s.stu := by
  simp [retargeted]

section one
variable {s : State} {tag : Tag} {r : Sheet} {g : Gate}

theorem rerouteOne_taken (hr : s.sheet tag = some r) (hg : gateOf r.target = some g) (hd : r.divert = false) :
    rerouteOne s tag =
      moveToPurge (rerouteGates (retargeted s tag r) g tag r.owner (leadOf s r)) tag (leadOf s r) := by
  have hfree : ¬r.divert = true := by simp [hd]
  simp only [rerouteOne, hr, hg, if_neg hfree] <;> rfl

theorem gateOf_eq_none_iff (b : Bin) : gateOf b = none ↔ b = .p := by
  cases b <;> decide

theorem rerouteOne_kept (hr : s.sheet tag = some r) (h : r.target = .p ∨ r.divert = true) : rerouteOne s tag = s := by
  unfold rerouteOne
  simp only [hr]
  split
  · rfl
  case h_2 g hg =>
    rcases h with h | h
    · rw [(gateOf_eq_none_iff _).2 h] at hg
      exact absurd hg (by simp)
    · exact if_pos h

theorem rerouteOne_free (hr : s.sheet tag = none) : rerouteOne s tag = s := by
  simp only [rerouteOne, hr]

theorem sheet_rerouteOne_self (hr : s.sheet tag = some r) (hg : gateOf r.target = some g) (hd : r.divert = false) :
    (rerouteOne s tag).sheet tag = some { r with target := .p } := by
  rw [rerouteOne_taken hr hg hd, sheet_of_eq (t := moveToPurge _ tag _) (s := s.setSheet tag _) (by simp [retargeted]; rfl),
    State.sheet_setSheet, if_pos rfl]

theorem bin_rerouteOne (hr : s.sheet tag = some r) (hg : gateOf r.target = some g) (hd : r.divert = false) (b : Bin) :
    (rerouteOne s tag).bin b =
      if b = r.target then { s.bin r.target with reserved := (s.bin r.target).reserved - 1 }
      else if b = .p then { s.bin .p with reserved := (s.bin .p).reserved + 1 } else s.bin b := by
  have hp : r.target ≠ .p := fun h => by rw [(gateOf_eq_none_iff _).2 h] at hg; exact absurd hg (by simp)
  rw [rerouteOne_taken hr hg hd, bin_of_eq (s := retargeted s tag r) (by simp), retargeted, bin_reserve, bin_release,
    bin_release, if_neg hp]
  by_cases hb : b = r.target
  · rw [if_neg (fun h => hp (hb.symm.trans h.symm)), if_pos hb.symm, if_pos hb]
    rfl
  · by_cases hbp : b = .p
    · subst hbp
      rw [if_pos rfl, if_neg hb, if_pos rfl]
      rfl
    · rw [if_neg (Ne.symm hbp), if_neg (Ne.symm hb), if_neg hb, if_neg hbp]
      rfl

theorem gate_rerouteOne (hr : s.sheet tag = some r) (hg : gateOf r.target = some g) (hd : r.divert = false) (h : Gate) :
    (rerouteOne s tag).gate h = (rerouteGates (retargeted s tag r) g tag r.owner (leadOf s r)).gate h := by
  rw [rerouteOne_taken hr hg hd, gate_moveToPurge]

theorem gate_retargeted (s : State) (tag : Tag) (r : Sheet) (h : Gate) : (retargeted s tag r).gate h = s.gate h :=
  gate_of_eq (retargeted_frame s tag r).1 h

theorem requestCount_retargeted (s : State) (tag : Tag) (r : Sheet) (h : Gate) (c : Count) :
    requestCount (retargeted s tag r) h c = requestCount s h c := by
  rw [requestCount, requestCount, State.offset, State.limit, (retargeted_frame s tag r).2.2.2.1]
  rfl

/-- The state whose bin entry the reroute moves: lists, settings and the transport are those before it. -/
theorem gated_frame (s : State) (tag : Tag) (r : Sheet) (g : Gate) (o : Owner) (c : Count) :
    (rerouteGates (retargeted s tag r) g tag o c).ptk = s.ptk ∧
    (rerouteGates (retargeted s tag r) g tag o c).profile = s.profile ∧
    (rerouteGates (retargeted s tag r) g tag o c).tsv = s.tsv := by
  obtain ⟨-, hptk, -, hprofile, htsv, -⟩ := retargeted_frame s tag r
  simp [hptk, hprofile, htsv]

theorem purgeEntry_congr {s u : State} (hprofile : u.profile = s.profile) (htsv : u.tsv = s.tsv) (e : Expectation)
    (c : Count) : purgeEntry u e c = purgeEntry s e c := by
  simp only [purgeEntry, State.leg, State.limit, hprofile, htsv]

theorem entryOfTag_congr {s u : State} (hptk : u.ptk = s.ptk) (x : Sensor) (tag : Tag) :
    u.entryOfTag x tag = s.entryOfTag x tag := by
  rw [State.entryOfTag, State.entryOfTag, State.list, State.list, hptk]

/-- The only bin entry of the record, moved: its list without it, and BP with it or a fault. -/
theorem rerouteOne_entry (hr : s.sheet tag = some r) (hg : gateOf r.target = some g) (hd : r.divert = false)
    {e : Expectation} {b : Bin} (hb : b ≠ .p) (he : s.entryOfTag (entryOf b) tag = some e)
    (honly : ∀ d, d ≠ b → d ≠ .p → s.entryOfTag (entryOf d) tag = none) :
    (rerouteOne s tag).list (entryOf b) = (s.list (entryOf b)).erase e ∧
    ((s.list .bp).length < 4 →
      (rerouteOne s tag).list .bp = insertByOpen (purgeEntry s e (leadOf s r)) (s.list .bp)) ∧
    (4 ≤ (s.list .bp).length → (rerouteOne s tag).list .bp = s.list .bp ∧
      { cause := .trackFull, sensor := .bp, tag := some tag } ∈ (rerouteOne s tag).requests.faults) := by
  obtain ⟨hptk, hprofile, htsv⟩ := gated_frame s tag r g r.owner (leadOf s r)
  have hlists := rerouteOne_taken hr hg hd
  generalize hu : rerouteGates (retargeted s tag r) g tag r.owner (leadOf s r) = u at hptk hprofile htsv hlists
  have hlist : ∀ x, u.list x = s.list x := fun x => by rw [State.list, State.list, hptk]
  rw [moveToPurge_only hb ((entryOfTag_congr hptk _ _).trans he) (fun d hd hp => (entryOfTag_congr hptk _ _).trans
    (honly d hd hp)), purgeEntry_congr hprofile htsv] at hlists
  have hbp : entryOf b ≠ .bp := fun h => hb (by cases b <;> simp_all [entryOf])
  have hdrop : (dropEntry u (entryOf b) e).list .bp = s.list .bp := by rw [list_dropEntry, if_neg hbp, hlist]
  rw [hlists]
  refine ⟨?_, fun hroom => ?_, fun hfull => ⟨?_, ?_⟩⟩
  · rw [list_expect, if_neg fun h => hbp h.1.symm, list_dropEntry, if_pos rfl, hlist]
  · rw [list_expect, hdrop, if_pos ⟨rfl, hroom⟩]
  · rw [list_expect, hdrop, if_neg fun h => by omega]
  · rw [faults_expect, hdrop, if_neg (by omega)]
    have htag : (purgeEntry s e (leadOf s r)).tag = tag := (tag_of_entryOfTag he : e.tag = tag)
    rw [htag]
    exact List.mem_append_right _ (List.mem_singleton.2 rfl)

end one

end Sys2Proof.Machine
end

section
/-! SUPPORT. Reroutes of every record of a pair (O36, R120). -/

namespace Sys2Proof.Machine

set_option Elab.async false

/-! ## The reroute of one record -/

/-- A reroute of one record: nothing for one that stays, and the four steps for one that goes. -/
theorem rerouteOne_spec (s t : State) (tag : Tag) (r : Sheet) (ht : t = rerouteOne s tag) (hr : s.sheet tag = some r) :
    (r.target = .p ∨ r.divert = true → t = s) ∧
    (∀ g, gateOf r.target = some g → r.divert = false →
      t.sheet tag = some { r with target := .p } ∧ (∀ u, u ≠ tag → t.sheet u = s.sheet u) ∧
      t.bin r.target = { s.bin r.target with reserved := (s.bin r.target).reserved - 1 } ∧
      t.bin .p = { s.bin .p with reserved := (s.bin .p).reserved + 1 } ∧
      (∀ b, b ≠ r.target → b ≠ .p → t.bin b = s.bin b) ∧
      (t.gate g).hold = (s.gate g).hold ∧
      (t.gate g).waiting = (s.gate g).waiting.map (fun k =>
        if k.tag = tag ∧ k.kind = .throw then { k with kind := .passage } else k) ∧
      (∀ h, h ∉ gatesBeyond g → h ≠ g → t.gate h = s.gate h) ∧
      (∀ h d, h ∈ gatesBeyond g → r.lastLead = some d →
        (∃ k ∈ (s.gate g).waiting, k.tag = tag ∧ k.kind = .throw) →
        ((s.gate h).waiting.length < 2 → t.gate h = { s.gate h with
          waiting := insertRequest
            { tag := tag
              owner := r.owner
              kind := .passage
              count := minus (plus d (s.offset h)) (s.limit .throwLead) } (s.gate h).waiting }) ∧
        (2 ≤ (s.gate h).waiting.length → t.gate h = s.gate h ∧
          { cause := .gateConflict, sensor := .out, tag := some tag } ∈ t.requests.faults)) ∧
      ((∀ k ∈ (s.gate g).waiting, k.tag = tag → k.kind ≠ .throw) → t.gsc = s.gsc) ∧
      ((∀ x e, e ∈ s.list x → e.tag ≠ tag) → t.ptk = s.ptk)) := by
  refine ⟨fun h => ht.trans (rerouteOne_kept hr h), fun g hg hd => ?_⟩
  have hgate := gate_rerouteOne hr hg hd
  have hbase := gate_retargeted s tag r
  have hp : r.target ≠ .p := fun h => by rw [(gateOf_eq_none_iff _).2 h] at hg; exact absurd hg (by simp)
  have hgates : (rerouteOne s tag).gsc = (rerouteGates (retargeted s tag r) g tag r.owner (leadOf s r)).gsc := by
    rw [rerouteOne_taken hr hg hd]
    simp
  subst ht
  refine ⟨sheet_rerouteOne_self hr hg hd, fun u hu => sheet_rerouteOne s hu, ?_, ?_, fun b hb hbp => ?_, ?_, ?_,
    fun h hbeyond hne => ?_, fun h d hbeyond hlead hthrow => ⟨fun hroom => ?_, fun hfull => ?_⟩, fun hno => ?_,
    fun hno => ?_⟩
  · rw [bin_rerouteOne hr hg hd, if_pos rfl]
  · rw [bin_rerouteOne hr hg hd, if_neg (Ne.symm hp), if_pos rfl]
  · rw [bin_rerouteOne hr hg hd, if_neg hb, if_neg hbp]
  · rw [hgate, gate_rerouteGates_self, hbase]
  · rw [hgate, gate_rerouteGates_self, hbase]
    rfl
  · rw [hgate, gate_rerouteGates_other hbeyond hne, hbase]
  · rw [hgate, gate_rerouteGates_room hbeyond (by rwa [hbase]) (by rwa [hbase]), hbase, requestCount_retargeted, leadOf,
      hlead]
    rfl
  · obtain ⟨hsame, hfault⟩ := gate_rerouteGates_full (s := retargeted s tag r) (o := r.owner) (c := leadOf s r) hbeyond
      (by rwa [hbase]) (by rwa [hbase])
    refine ⟨by rw [hgate, hsame, hbase], ?_⟩
    rw [rerouteOne_taken hr hg hd]
    exact faults_moveToPurge _ _ _ hfault
  · rw [hgates, rerouteGates_none (by rwa [hbase])]
    exact (retargeted_frame s tag r).1
  · obtain ⟨hptk, -⟩ := gated_frame s tag r g r.owner (leadOf s r)
    rw [rerouteOne_taken hr hg hd, moveToPurge_none, hptk]
    intro x _
    rw [entryOfTag_congr hptk]
    exact List.find?_eq_none.2 fun e he => by simpa using hno x e he

/-! ## What the reroute of one record leaves of another -/

/-- To the record of a tag the state `v` looks as `s`: its record, its requests and its entries are the same, the holds
and the settings are, and no fault is lost. -/
structure Apart (tag : Tag) (s v : State) : Prop where
  sheet : v.sheet tag = s.sheet tag
  waiting : ∀ g, (v.gate g).waiting.filter (fun k => k.tag = tag) = (s.gate g).waiting.filter fun k => k.tag = tag
  hold : ∀ g, (v.gate g).hold = (s.gate g).hold
  entries : ∀ x, (v.list x).filter (fun e => e.tag = tag) = (s.list x).filter fun e => e.tag = tag
  profile : v.profile = s.profile
  tsv : v.tsv = s.tsv
  faults : ∀ f ∈ s.requests.faults, f ∈ v.requests.faults

namespace Apart
variable {tag : Tag} {s u v : State}

theorem refl (tag : Tag) (s : State) : Apart tag s s :=
  ⟨rfl, fun _ => rfl, fun _ => rfl, fun _ => rfl, rfl, rfl, fun _ h => h⟩

theorem trans (h : Apart tag s u) (k : Apart tag u v) : Apart tag s v :=
  ⟨k.sheet.trans h.sheet, fun g => (k.waiting g).trans (h.waiting g), fun g => (k.hold g).trans (h.hold g),
    fun x => (k.entries x).trans (h.entries x), k.profile.trans h.profile, k.tsv.trans h.tsv,
    fun f hf => k.faults f (h.faults f hf)⟩

end Apart

theorem filter_map_toPassage {tag u : Tag} (hne : u ≠ tag) (l : List GateRequest) :
    (l.map (GateRequest.toPassage u)).filter (fun k => k.tag = tag) = l.filter fun k => k.tag = tag := by
  induction l with
  | nil => rfl
  | cons k l ih =>
    have htag : (GateRequest.toPassage u k).tag = k.tag := by
      unfold GateRequest.toPassage
      split <;> rfl
    rw [List.map_cons, List.filter_cons, List.filter_cons, ih, htag]
    by_cases hk : k.tag = tag
    · have hsame : GateRequest.toPassage u k = k := if_neg fun h => hne (h.1.symm.trans hk)
      rw [hsame]
    · rw [if_neg (by simpa using hk), if_neg (by simpa using hk)]

theorem apart_addRequest {s : State} {tag : Tag} (g : Gate) {q : GateRequest} (hq : q.tag ≠ tag) :
    Apart tag s (addRequest s g q) where
  sheet := sheet_of_eq (by simp) tag
  waiting h := by
    rw [gate_addRequest]
    split
    case isTrue hand => rw [filter_insertRequest (by simpa using hq), hand.1]
    case isFalse => rfl
  hold h := by
    rw [gate_addRequest]
    split
    case isTrue hand => rw [hand.1]
    case isFalse => rfl
  entries x := by rw [list_of_eq (s := s) (by simp)]
  profile := by simp
  tsv := by simp
  faults f hf := by
    rw [faults_addRequest]
    exact List.mem_append_left _ hf

theorem apart_rerouteGates {s : State} {tag u : Tag} (hne : u ≠ tag) (g : Gate) (o : Owner) (c : Count) :
    Apart tag s (rerouteGates s g u o c) := by
  rw [rerouteGates_eq]
  split
  case isFalse => exact .refl tag s
  case isTrue =>
    refine foldl_induction (P := Apart tag s) ?_ fun v k _ hv => hv.trans (apart_addRequest k.1 hne)
    refine ⟨rfl, fun h => ?_, fun h => ?_, fun _ => rfl, rfl, rfl, fun _ h => h⟩
    · rw [unthrown, State.gate_setGate]
      split
      case isTrue heq => rw [filter_map_toPassage hne, heq]
      case isFalse => rfl
    · rw [unthrown, State.gate_setGate]
      split
      case isTrue heq => rw [heq]
      case isFalse => rfl

theorem apart_moveToPurge {s : State} {tag u : Tag} (hne : u ≠ tag) (c : Count) : Apart tag s (moveToPurge s u c) where
  sheet := sheet_of_eq (by simp) tag
  waiting g := by rw [gate_moveToPurge]
  hold g := by rw [gate_moveToPurge]
  entries x := by
    rcases moveToPurge_cases s u c with hsame | ⟨y, e, -, he, hmoved⟩
    · rw [hsame]
    · have htag : (decide (e.tag = tag)) = false := by simpa [tag_of_entryOfTag he] using hne
      have hdrop : ∀ z, ((dropEntry s y e).list z).filter (fun e => e.tag = tag) =
          (s.list z).filter fun e => e.tag = tag := fun z => by
        rw [list_dropEntry]
        split
        case isTrue heq => rw [filter_erase_of_not htag, heq]
        case isFalse => rfl
      rw [hmoved, list_expect]
      split
      case isTrue hand => rw [filter_insertByOpen htag, hdrop, hand.1]
      case isFalse => exact hdrop x
  profile := by simp
  tsv := by simp
  faults f hf := faults_moveToPurge s u c hf

theorem apart_rerouteOne {s : State} {tag u : Tag} (hne : u ≠ tag) : Apart tag s (rerouteOne s u) := by
  cases hr : s.sheet u with
  | none =>
    rw [rerouteOne_free hr]
    exact .refl tag s
  | some r =>
    by_cases hkept : r.target = .p ∨ r.divert = true
    · rw [rerouteOne_kept hr hkept]
      exact .refl tag s
    · rw [not_or] at hkept
      obtain ⟨g, hg⟩ := Option.ne_none_iff_exists'.1 fun h => hkept.1 ((gateOf_eq_none_iff _).1 h)
      rw [rerouteOne_taken hr hg (by simpa using hkept.2)]
      refine Apart.trans ?_ ((apart_rerouteGates hne g r.owner _).trans (apart_moveToPurge hne _))
      obtain ⟨hgsc, hptk, hrequests, hprofile, htsv, -⟩ := retargeted_frame s u r
      refine ⟨?_, fun g => by rw [gate_of_eq hgsc], fun g => by rw [gate_of_eq hgsc], fun x => ?_, hprofile, htsv,
        fun f hf => by rwa [hrequests]⟩
      · rw [sheet_of_eq (s := s.setSheet u (some { r with target := .p })) (by simp [retargeted]), State.sheet_setSheet,
          if_neg hne]
      · rw [list_of_eq (s := s) (by rw [hptk])]

theorem apart_rerouteAll {l : List Tag} {tag : Tag} (h : tag ∉ l) (s : State) : Apart tag s (l.foldl rerouteOne s) :=
  foldl_induction (.refl tag s) fun _ _ hu hv => hv.trans (apart_rerouteOne fun heq => h (heq ▸ hu))

/-- The reroute of one record of several: those before and after it leave what concerns it. -/
theorem rerouteAll_split {l : List Tag} (hl : l.Nodup) {tag : Tag} (hmem : tag ∈ l) (s : State) :
    ∃ v, Apart tag s v ∧ Apart tag (rerouteOne v tag) (l.foldl rerouteOne s) := by
  obtain ⟨l₁, l₂, rfl⟩ := List.append_of_mem hmem
  rw [List.nodup_append, List.nodup_cons] at hl
  obtain ⟨-, ⟨hnot₂, -⟩, hdisjoint⟩ := hl
  have hnot₁ : tag ∉ l₁ := fun h => hdisjoint tag h tag List.mem_cons_self rfl
  refine ⟨l₁.foldl rerouteOne s, apart_rerouteAll hnot₁ s, ?_⟩
  rw [List.foldl_append, List.foldl_cons]
  exact apart_rerouteAll hnot₂ _

/-! ## The records of a pair rerouted -/

theorem entryOfTag_eq (s : State) (x : Sensor) (tag : Tag) :
    s.entryOfTag x tag = ((s.list x).filter fun e => e.tag = tag).head? := by
  rw [List.head?_filter]
  rfl

theorem Apart.entryOfTag {tag : Tag} {s v : State} (h : Apart tag s v) (x : Sensor) :
    v.entryOfTag x tag = s.entryOfTag x tag := by
  rw [entryOfTag_eq, entryOfTag_eq, h.entries]

theorem Apart.mem_waiting {tag : Tag} {s v : State} (h : Apart tag s v) {g : Gate} {k : GateRequest}
    (hk : k.tag = tag) : k ∈ (v.gate g).waiting ↔ k ∈ (s.gate g).waiting := by
  have hfilter := h.waiting g
  have hiff : k ∈ (v.gate g).waiting.filter (fun k => k.tag = tag) ↔
      k ∈ (s.gate g).waiting.filter fun k => k.tag = tag := by rw [hfilter]
  simpa [List.mem_filter, hk] using hiff

theorem Apart.mem_list {tag : Tag} {s v : State} (h : Apart tag s v) {x : Sensor} {e : Expectation}
    (he : e.tag = tag) : e ∈ v.list x ↔ e ∈ s.list x := by
  have hfilter := h.entries x
  have hiff : e ∈ (v.list x).filter (fun e => e.tag = tag) ↔ e ∈ (s.list x).filter fun e => e.tag = tag := by
    rw [hfilter]
  simpa [List.mem_filter, he] using hiff

/-- A request is a THROW or a PASSAGE. -/
theorem toPassage_kind {tag : Tag} {k : GateRequest} (hk : k.tag = tag) :
    GateRequest.toPassage tag k = { k with kind := .passage } := by
  unfold GateRequest.toPassage
  split
  · rfl
  case isFalse hnot =>
    obtain ⟨t, o, kind, c⟩ := k
    cases kind with
    | passage => rfl
    | throw => exact absurd ⟨hk, rfl⟩ hnot

theorem toPassage_tag (tag : Tag) (k : GateRequest) : (GateRequest.toPassage tag k).tag = k.tag := by
  unfold GateRequest.toPassage
  split <;> rfl

section several
variable {s : State} {l : List Tag} {tag : Tag} {r : Sheet} {g : Gate}

/-- Every request of a rerouted record at its gate is a PASSAGE. -/
theorem rerouteAll_passages (hl : l.Nodup) (hmem : tag ∈ l) (hr : s.sheet tag = some r)
    (hg : gateOf r.target = some g) (hd : r.divert = false) :
    (∀ k ∈ ((l.foldl rerouteOne s).gate g).waiting, k.tag = tag → k.kind = .passage) ∧
    (∀ k ∈ (s.gate g).waiting, k.tag = tag → { k with kind := .passage } ∈ ((l.foldl rerouteOne s).gate g).waiting) := by
  obtain ⟨v, hbefore, hafter⟩ := rerouteAll_split hl hmem s
  have hgate : ((rerouteOne v tag).gate g).waiting = (v.gate g).waiting.map (GateRequest.toPassage tag) := by
    rw [gate_rerouteOne (hbefore.sheet.trans hr) hg hd, gate_rerouteGates_self, gate_retargeted]
  refine ⟨fun k hk htag => ?_, fun k hk htag => ?_⟩
  · rw [hafter.mem_waiting htag, hgate] at hk
    obtain ⟨j, -, rfl⟩ := List.mem_map.1 hk
    rw [toPassage_kind ((toPassage_tag tag j).symm.trans htag)]
  · have hmem' := List.mem_map_of_mem (f := GateRequest.toPassage tag) ((hbefore.mem_waiting htag).2 hk)
    rw [toPassage_kind htag] at hmem'
    exact (hafter.mem_waiting (k := { k with kind := .passage }) htag).2 (hgate ▸ hmem')

/-- A gate beyond takes the PASSAGE of a rerouted record, or is in conflict. -/
theorem rerouteAll_beyond (hl : l.Nodup) (hmem : tag ∈ l) (hr : s.sheet tag = some r)
    (hg : gateOf r.target = some g) (hd : r.divert = false) {h : Gate} {d : Count} (hbeyond : h ∈ gatesBeyond g)
    (hlead : r.lastLead = some d) (hthrow : ∃ k ∈ (s.gate g).waiting, k.tag = tag ∧ k.kind = .throw) :
    { tag := tag, owner := r.owner, kind := .passage, count := requestCount s h d } ∈
      ((l.foldl rerouteOne s).gate h).waiting ∨
    { cause := .gateConflict, sensor := .out, tag := some tag } ∈ (l.foldl rerouteOne s).requests.faults := by
  obtain ⟨v, hbefore, hafter⟩ := rerouteAll_split hl hmem s
  have hr' := hbefore.sheet.trans hr
  have hthrow' : ∃ k ∈ ((retargeted v tag r).gate g).waiting, k.tag = tag ∧ k.kind = .throw := by
    obtain ⟨k, hk, htag, hkind⟩ := hthrow
    exact ⟨k, by rw [gate_retargeted]; exact (hbefore.mem_waiting htag).2 hk, htag, hkind⟩
  have hcount : requestCount (retargeted v tag r) h (leadOf v r) = requestCount s h d := by
    rw [requestCount_retargeted, leadOf, hlead, requestCount, requestCount, State.offset, State.limit, hbefore.profile]
    rfl
  by_cases hroom : ((retargeted v tag r).gate h).waiting.length < 2
  · left
    refine (hafter.mem_waiting rfl).2 ?_
    rw [gate_rerouteOne hr' hg hd, gate_rerouteGates_room hbeyond hthrow' hroom, hcount]
    exact (insertRequest_perm _ _).mem_iff.2 List.mem_cons_self
  · right
    refine hafter.faults _ ?_
    rw [rerouteOne_taken hr' hg hd]
    exact faults_moveToPurge _ _ _ (gate_rerouteGates_full hbeyond hthrow' (Nat.not_lt.1 hroom)).2

/-- The only bin entry of a rerouted record moves to BP, or BP is full. -/
theorem rerouteAll_entry (hl : l.Nodup) (hmem : tag ∈ l) (hr : s.sheet tag = some r)
    (hg : gateOf r.target = some g) (hd : r.divert = false) {e : Expectation} {b : Bin} (hb : b ≠ .p)
    (he : (s.list (entryOf b)).filter (fun f => f.tag = tag) = [e])
    (honly : ∀ c, c ≠ b → c ≠ .p → s.entryOfTag (entryOf c) tag = none) :
    (∀ f ∈ (l.foldl rerouteOne s).list (entryOf b), f.tag ≠ tag) ∧
    ((∀ d, r.lastLead = some d → purgeEntry s e d ∈ (l.foldl rerouteOne s).list .bp) ∨
      { cause := .trackFull, sensor := .bp, tag := some tag } ∈ (l.foldl rerouteOne s).requests.faults) := by
  obtain ⟨v, hbefore, hafter⟩ := rerouteAll_split hl hmem s
  have hfirst : v.entryOfTag (entryOf b) tag = some e := by
    rw [hbefore.entryOfTag, entryOfTag_eq, he]
    rfl
  have htag := tag_of_entryOfTag hfirst
  obtain ⟨herased, hroom, hfull⟩ := rerouteOne_entry (hbefore.sheet.trans hr) hg hd hb hfirst
    (fun c hc hp => (hbefore.entryOfTag _).trans (honly c hc hp))
  refine ⟨fun f hf heq => ?_, ?_⟩
  · rw [hafter.mem_list heq, herased] at hf
    have hgone : ((v.list (entryOf b)).erase e).filter (fun f => f.tag = tag) = [] := by
      rw [← List.erase_filter, hbefore.entries, he, List.erase_cons_head]
    exact (List.filter_eq_nil_iff.1 hgone f hf) (by simpa using heq)
  · by_cases hlen : (v.list .bp).length < 4
    · refine .inl fun d hlead => ?_
      have hlead' : leadOf v r = d := by rw [leadOf, hlead]; rfl
      have hentry := hroom hlen
      rw [hlead', purgeEntry_congr hbefore.profile hbefore.tsv] at hentry
      refine (hafter.mem_list (show (purgeEntry s e d).tag = tag from htag)).2 ?_
      rw [hentry]
      exact (insertByOpen_perm _ _).mem_iff.2 List.mem_cons_self
    · exact .inr (hafter.faults _ (hfull (Nat.not_lt.1 hlen)).2)

end several

/-! ## The reservations of a pair -/

/-- The record of a tag gives its reservation at a bin to P. -/
def leaves (s : State) (b : Bin) (tag : Tag) : Bool :=
  (s.sheet tag).any fun r => r.divert = false ∧ r.target = b

/-- The record of a tag comes to P. -/
def comes (s : State) (tag : Tag) : Bool := (s.sheet tag).any fun r => r.divert = false ∧ r.target ≠ .p

theorem rerouteOne_reserved (s : State) (tag : Tag) :
    (∀ b, b ≠ .p → (rerouteOne s tag).bin b =
      { s.bin b with reserved := (s.bin b).reserved - if leaves s b tag then 1 else 0 }) ∧
    (rerouteOne s tag).bin .p = { s.bin .p with reserved := (s.bin .p).reserved + if comes s tag then 1 else 0 } := by
  cases hr : s.sheet tag with
  | none =>
    rw [rerouteOne_free hr]
    simp [leaves, comes, hr]
  | some r =>
    by_cases hkept : r.target = .p ∨ r.divert = true
    · rw [rerouteOne_kept hr hkept]
      have hcomes : comes s tag = false := by
        rcases hkept with h | h <;> simp [comes, hr, h]
      refine ⟨fun b hb => ?_, by simp [hcomes]⟩
      have hleaves : leaves s b tag = false := by
        rcases hkept with h | h <;> simp [leaves, hr, h, Ne.symm hb]
      simp [hleaves]
    · rw [not_or] at hkept
      obtain ⟨hp, hd⟩ := hkept
      obtain ⟨g, hg⟩ := Option.ne_none_iff_exists'.1 fun h => hp ((gateOf_eq_none_iff _).1 h)
      have hd : r.divert = false := by simpa using hd
      refine ⟨fun b hb => ?_, ?_⟩
      · rw [bin_rerouteOne hr hg hd]
        by_cases hbt : b = r.target
        · subst hbt
          simp [leaves, hr, hd]
        · rw [if_neg hbt, if_neg hb]
          simp [leaves, hr, Ne.symm hbt]
      · rw [bin_rerouteOne hr hg hd, if_neg (Ne.symm hp), if_pos rfl]
        simp [comes, hr, hd, hp]

theorem rerouteAll_reserved {l : List Tag} (hl : l.Nodup) (s : State) :
    (∀ b, b ≠ .p → (l.foldl rerouteOne s).bin b =
      { s.bin b with reserved := (s.bin b).reserved - (l.filter (leaves s b)).length }) ∧
    (l.foldl rerouteOne s).bin .p =
      { s.bin .p with reserved := (s.bin .p).reserved + (l.filter (comes s)).length } := by
  induction l generalizing s with
  | nil => exact ⟨fun _ _ => rfl, rfl⟩
  | cons tag l ih =>
    obtain ⟨hnot, hl⟩ := List.nodup_cons.1 hl
    obtain ⟨hbins, hpurge⟩ := ih hl (rerouteOne s tag)
    obtain ⟨hone, honep⟩ := rerouteOne_reserved s tag
    have hsame : ∀ u ∈ l, (rerouteOne s tag).sheet u = s.sheet u := fun u hu =>
      sheet_rerouteOne s fun heq => hnot (heq ▸ hu)
    have hleaves : ∀ b, l.filter (leaves (rerouteOne s tag) b) = l.filter (leaves s b) := fun b =>
      List.filter_congr fun u hu => by rw [leaves, leaves, hsame u hu]
    have hcomes : l.filter (comes (rerouteOne s tag)) = l.filter (comes s) :=
      List.filter_congr fun u hu => by rw [comes, comes, hsame u hu]
    refine ⟨fun b hb => ?_, ?_⟩
    · rw [List.foldl_cons, hbins b hb, hone b hb, hleaves, List.filter_cons]
      split
      · simp
        omega
      · simp
    · rw [List.foldl_cons, hpurge, honep, hcomes, List.filter_cons]
      split
      · simp
        omega
      · simp

/-! ## The request of a pair (O36) -/

/-- The live records of a pair, in ascending tag order. -/
def pairTags (s : State) (q : RerouteRequest) : List Tag :=
  tags.filter fun tag => (s.sheet tag).any fun r => r.slot = q.slot ∧ r.generation = q.generation

theorem mem_pairTags {s : State} {q : RerouteRequest} {tag : Tag} : tag ∈ pairTags s q ↔
    ∃ r, s.sheet tag = some r ∧ r.slot = q.slot ∧ r.generation = q.generation := by
  simp [pairTags, tags, Option.any_eq_true]

theorem nodup_pairTags (s : State) (q : RerouteRequest) : (pairTags s q).Nodup :=
  (List.nodup_finRange 48).filter _

theorem filter_pairTags (s : State) (q : RerouteRequest) (p : Sheet → Bool) :
    (pairTags s q).filter (fun tag => (s.sheet tag).any p) = tags.filter fun tag => (s.sheet tag).any fun r =>
      (decide (r.slot = q.slot ∧ r.generation = q.generation)) && p r := by
  rw [pairTags, List.filter_filter]
  refine List.filter_congr fun tag _ => ?_
  cases s.sheet tag with
  | none => rfl
  | some r => exact Bool.and_comm _ _

theorem filter_leaves (s : State) (q : RerouteRequest) (b : Bin) : (pairTags s q).filter (leaves s b) =
    tags.filter fun tag => (s.sheet tag).any fun r => r.slot = q.slot ∧ r.generation = q.generation ∧
      r.divert = false ∧ r.target = b := by
  refine (filter_pairTags s q _).trans (List.filter_congr fun tag _ => ?_)
  cases s.sheet tag with
  | none => rfl
  | some r => simp [Bool.and_assoc]

theorem filter_comes (s : State) (q : RerouteRequest) : (pairTags s q).filter (comes s) =
    tags.filter fun tag => (s.sheet tag).any fun r => r.slot = q.slot ∧ r.generation = q.generation ∧
      r.divert = false ∧ r.target ≠ .p := by
  refine (filter_pairTags s q _).trans (List.filter_congr fun tag _ => ?_)
  cases s.sheet tag with
  | none => rfl
  | some r => simp [Bool.and_assoc]

theorem sheet_rerouteAll_pair {s : State} (q : RerouteRequest) (tag : Tag) :
    ((pairTags s q).foldl rerouteOne s).sheet tag = (s.sheet tag).map fun r =>
      if r.slot = q.slot ∧ r.generation = q.generation ∧ r.divert = false then { r with target := .p } else r := by
  by_cases hmem : tag ∈ pairTags s q
  · obtain ⟨r, hr, hslot, hgeneration⟩ := mem_pairTags.1 hmem
    obtain ⟨v, hbefore, hafter⟩ := rerouteAll_split (nodup_pairTags s q) hmem s
    have hr' := hbefore.sheet.trans hr
    rw [hafter.sheet, hr, Option.map_some]
    by_cases hd : r.divert = true
    · rw [rerouteOne_kept hr' (.inr hd), hr', if_neg (by simp [hd])]
    · have hd : r.divert = false := by simpa using hd
      rw [if_pos ⟨hslot, hgeneration, hd⟩]
      by_cases hp : r.target = .p
      · rw [rerouteOne_kept hr' (.inl hp), hr', ← hp]
      · obtain ⟨g, hg⟩ := Option.ne_none_iff_exists'.1 fun h => hp ((gateOf_eq_none_iff _).1 h)
        exact sheet_rerouteOne_self hr' hg hd
  · rw [(apart_rerouteAll hmem s).sheet]
    cases hr : s.sheet tag with
    | none => rfl
    | some r =>
      rw [Option.map_some, if_neg]
      rintro ⟨hslot, hgeneration, -⟩
      exact hmem (mem_pairTags.2 ⟨r, hr, hslot, hgeneration⟩)

theorem hold_rerouteOne (s : State) (tag : Tag) (g : Gate) : ((rerouteOne s tag).gate g).hold = (s.gate g).hold := by
  have hother : ∃ u : Tag, u ≠ tag := by
    by_cases hzero : tag = 0
    · exact ⟨1, by rw [hzero]; decide⟩
    · exact ⟨0, Ne.symm hzero⟩
  obtain ⟨u, hu⟩ := hother
  exact (apart_rerouteOne (Ne.symm hu)).hold g

/-- Settles O36: the reroute of one record, the request for a tag, and the request for a pair. -/
theorem rerouteTurnsTheSheetToThePurgeBin : Obligations.RerouteTurnsTheSheetToThePurgeBin := by
  refine ⟨fun s t tag r ht hr => ?_, fun s u q others hrequests hu => ⟨fun tag htag => ?_, fun htag => ?_⟩⟩
  · obtain ⟨hkept, htaken⟩ := rerouteOne_spec s t tag r ht hr
    refine ⟨hkept, fun g hg hd => ?_⟩
    obtain ⟨h1, h2, h3, h4, h5, h6, h7, h8, h9, h10, h11⟩ := htaken g hg hd
    subst ht
    have hunfaulted := rerouteOne_unfaulted s tag
    refine ⟨h1, h2, h3, h4, h5, h6, h7, h8, h9, h10, h11, fun e b hb he honly => ?_,
      (congrArg Requests.reroutes hunfaulted :), (congrArg Requests.breaks hunfaulted :), by simp, by simp, by simp,
      by simp, by simp, by simp⟩
    obtain ⟨herased, hroom, hfull⟩ := rerouteOne_entry hr hg hd hb he honly
    refine ⟨herased, hfull, fun hlen => ⟨_, hroom hlen, (tag_of_entryOfTag he : e.tag = tag), rfl, rfl,
      fun d hlead => ?_⟩⟩
    simp only [purgeEntry, leadOf, hlead, Option.getD_some, Bool.or_eq_true, and_self]
  · have heffect : effect .reroute s = takeReroute u q := by
      rw [effect, rerouteOldest, hrequests, hu]
    have hsheet : u.sheet tag = s.sheet tag := by rw [hu]; rfl
    refine ⟨fun hnone => runs_of_effect (heffect.trans ?_), fun r hr => ⟨fun hother => runs_of_effect (heffect.trans ?_),
      fun hslot hgeneration => runs_of_effect (heffect.trans ?_)⟩⟩
    · simp only [takeReroute, htag, State.claimed, hsheet, hnone, Option.filter_none, Option.isSome_none,
        Bool.false_eq_true, if_false]
    · have hclaimed : (u.claimed tag { slot := q.slot, generation := q.generation }).isSome = false := by
        rcases hother with h | h <;> simp [State.claimed, hsheet, hr, Sheet.owner, h]
      simp only [takeReroute, htag, hclaimed, Bool.false_eq_true, if_false]
    · have hclaimed : (u.claimed tag { slot := q.slot, generation := q.generation }).isSome = true := by
        simp [State.claimed, hsheet, hr, Sheet.owner, hslot, hgeneration]
      simp only [takeReroute, htag, hclaimed, if_true]
  · have hnodup := nodup_pairTags u q
    have hfold : takeReroute u q = (pairTags u q).foldl rerouteOne u := by
      simp only [takeReroute, htag] <;> rfl
    have heffect : effect .reroute s = (pairTags u q).foldl rerouteOne u := by
      rw [effect, rerouteOldest, hrequests, ← hfold, hu]
    obtain ⟨hleave, hcome⟩ := rerouteAll_reserved hnodup u
    have hunfaulted := takeReroute_unfaulted u q
    have hframe := takeReroute_frame u q
    rw [hfold] at hunfaulted hframe
    have hin : ∀ {tag r}, s.sheet tag = some r → r.slot = q.slot → r.generation = q.generation → tag ∈ pairTags u q :=
      fun hr hslot hgeneration => mem_pairTags.2 ⟨_, by rw [hu]; exact hr, hslot, hgeneration⟩
    refine ⟨_, runs_of_effect heffect, ?_, fun tag => ?_, fun b hb => ?_, ?_, fun tag r g hr hslot hgeneration hd hg => ?_,
      fun g => ?_, fun tag hother => ?_, ?_, ?_, ?_, ?_, ?_⟩
    · rw [pairTags, hu]
      rfl
    · rw [sheet_rerouteAll_pair, hu]
      rfl
    · rw [hleave b hb, filter_leaves, hu]
      rfl
    · rw [hcome, filter_comes, hu]
      rfl
    · have hmem := hin hr hslot hgeneration
      have hr' : u.sheet tag = some r := by rw [hu]; exact hr
      obtain ⟨hpassages, hkept⟩ := rerouteAll_passages hnodup hmem hr' hg hd
      refine ⟨hpassages, fun k hk => hkept k (by rw [hu]; exact hk), fun h d hbeyond hlead hthrow => ?_,
        fun e b d wide tolerance hb hentries honly hlead hwide htol => ?_⟩
      · have hplaced := rerouteAll_beyond hnodup hmem hr' hg hd hbeyond hlead (by rw [hu]; exact hthrow)
        have hcount : requestCount u h d = minus (plus d (s.offset h)) (s.limit .throwLead) := by rw [hu]; rfl
        rwa [hcount] at hplaced
      · obtain ⟨hgone, hmoved⟩ := rerouteAll_entry hnodup hmem hr' hg hd hb (by rw [hu]; exact hentries)
          (by rw [hu]; exact honly)
        have hentry : purgeEntry u e d = { e with
            opens := minus (plus d (s.leg .outBp)) tolerance
            closes := plus (plus d (s.leg .outBp)) tolerance
            widened := wide } := by
          rw [htol, hwide, hu]
          rfl
        exact ⟨hgone, hmoved.imp_left fun h => hentry ▸ h d hlead⟩
    · have hhold : (((pairTags u q).foldl rerouteOne u).gate g).hold = (u.gate g).hold :=
        foldl_keeps (f := fun v : State => (v.gate g).hold) (fun v t => hold_rerouteOne v t g) _ u
      rw [hhold, hu]
      rfl
    · have hout : tag ∉ pairTags u q := fun hmem => by
        obtain ⟨r, hr, hslot, hgeneration⟩ := mem_pairTags.1 hmem
        rcases hother r (by rw [hu] at hr; exact hr) with h | h
        · exact h hslot
        · exact h hgeneration
      have hapart := apart_rerouteAll hout u
      refine ⟨fun g => (hapart.waiting g).trans (by rw [hu]; rfl), fun x => (hapart.entries x).trans (by rw [hu]; rfl)⟩
    · have hreroutes := (congrArg Requests.reroutes hunfaulted :)
      rw [hu] at hreroutes ⊢
      exact hreroutes
    all_goals
      rw [hu] at hframe ⊢
      simp only [hframe]

end Sys2Proof.Machine
end

section
/-! SUPPORT. The misfeed of a sheet whose pick window closes empty (O17, R63, R64). -/

namespace Sys2Proof.Machine

set_option Elab.async false

/-! ## Breaks taken ahead of a report -/

section breaks
variable {s : State} {slot : Slot} {generation : Nat} {cause : BreakCause}

theorem faults_takeBreak (s : State) (q : BreakRequest) : (takeBreak s q).requests.faults = s.requests.faults := by
  unfold takeBreak
  split
  case isFalse => rfl
  case isTrue =>
    by_cases hdrop : ∀ r, s.statement q.slot = some r → r.generation = q.generation → r.state.ended = true
    · rw [breakNow_dropped q.cause hdrop]
    · simp only [Classical.not_forall] at hdrop
      obtain ⟨r, hr, hg, hopen⟩ := hdrop
      rw [← hg, breakNow_taken hr (by simpa using hopen)]
      simp [endedRequests, breakAsks]

theorem faults_takeBreaksOf (s : State) (slot : Slot) (generation : Nat) (cause : BreakCause) :
    (takeBreaksOf s slot generation cause).requests.faults = s.requests.faults :=
  foldl_keeps (f := fun u : State => u.requests.faults) faults_takeBreak _ _

/-- The breaks of a statement that has ended change nothing but that they are taken (R12). -/
theorem takeBreaksOf_ended (h : ∀ st, s.statement slot = some st → st.generation = generation → st.state.ended = true) :
    takeBreaksOf s slot generation cause = { s with requests := { s.requests with
      breaks := s.requests.breaks.filter fun q => !q.names slot generation cause } } := by
  unfold takeBreaksOf
  refine foldl_induction (P := fun u : State => u = { s with requests := { s.requests with
    breaks := s.requests.breaks.filter fun q => !q.names slot generation cause } }) rfl fun u q hq hu => ?_
  have hnames := (List.mem_filter.1 hq).2
  simp only [BreakRequest.names, Bool.and_eq_true, decide_eq_true_eq] at hnames
  obtain ⟨⟨rfl, rfl⟩, -⟩ := hnames
  unfold takeBreak
  split
  · rw [breakNow_dropped, hu]
    intro st hst
    rw [hu] at hst
    exact h st hst
  · exact hu

end breaks

/-! ## The stages of a misfeed -/

/-- The state in which the pick has been undone but for its counts: the entry gone, the pick line withdrawn, the record
retired with its pitch, its reservation released (R63). -/
def unpicked (s : State) (tray : Tray) (e : Expectation) (b : Bin) : State :=
  release (withdrawPitch (retire ((dropEntry s (exitOf tray) e).setPickLine tray false) e.tag) e.tag) b

/-- The BLANK break of a side already MISSED is taken first (R85). -/
def blanked (s : State) (r : Sheet) : State :=
  if r.front = .missed then takeBreaksOf s r.slot r.generation .blank else s

/-- The statement after that break. -/
def blankedStatement (s : State) (r : Sheet) (st : Statement) : Statement :=
  if r.front = .missed ∧ breakWaits s r.slot r.generation .blank then st.broken r.generation .blank else st

/-- The withdrawal reported on a record of the STU (R8). -/
def Statement.withdrawn (st : Statement) : Statement :=
  { st with admitted := st.admitted - 1, inFlight := st.inFlight - 1 }

section stages
variable {s : State} {tray : Tray} {e : Expectation} {p : Pick} {r : Sheet} {st : Statement}

theorem expiredEntry_only (htracking : s.tracking = true) (hclear : s.debouncing (exitOf tray) = none)
    (hlist : s.list (exitOf tray) = [e]) (hdue : reaches s.now e.closes = true) :
    s.expiredEntry (exitOf tray) = some e := by
  rw [expiredEntry_of_clear hclear, watched_of_tracking htracking, hlist, List.find?_cons, hdue]

theorem statement_blanked {u : State} (hst : u.statement r.slot = some st) :
    (blanked u r).statement r.slot = some (blankedStatement u r st) := by
  unfold blanked blankedStatement
  by_cases hmissed : r.front = .missed
  · rw [if_pos hmissed, statement_takeBreaksOf]
    by_cases hw : breakWaits u r.slot r.generation .blank = true
    · rw [if_pos ⟨rfl, hw⟩, if_pos ⟨hmissed, hw⟩, hst, Option.map_some]
    · rw [if_neg fun h => hw h.2, if_neg fun h => hw h.2, hst]
  · rw [if_neg hmissed, if_neg fun h => hmissed h.1, hst]

theorem blankedStatement_fields (u : State) (r : Sheet) (st : Statement) :
    (blankedStatement u r st).generation = st.generation ∧ (blankedStatement u r st).ident = st.ident ∧
    (blankedStatement u r st).bin = st.bin ∧ (blankedStatement u r st).inFlight = st.inFlight := by
  unfold blankedStatement
  split
  · exact broken_keeps_fields st r.generation .blank
  · exact ⟨rfl, rfl, rfl, rfl⟩

theorem blanked_frame (u : State) (r : Sheet) : (blanked u r).sheets = u.sheets ∧ (blanked u r).adm = u.adm ∧
    (blanked u r).tsq = u.tsq ∧ (blanked u r).ptk = u.ptk ∧ (blanked u r).gsc = u.gsc ∧ (blanked u r).bnm = u.bnm ∧
    (blanked u r).jam = u.jam ∧ (blanked u r).tsv = u.tsv ∧ (blanked u r).profile = u.profile ∧
    (blanked u r).requests.faults = u.requests.faults := by
  unfold blanked
  split
  · simp [faults_takeBreaksOf]
  · exact ⟨rfl, rfl, rfl, rfl, rfl, rfl, rfl, rfl, rfl, rfl⟩

theorem reportWithdrawal_eq {u : State} (hst : u.statement r.slot = some st) (hg : st.generation = r.generation) :
    reportWithdrawal u r.slot r.generation =
      (closeIfClear (u.setStatement r.slot (some st.withdrawn)) r.slot, some st.state) := by
  simp only [reportWithdrawal, ofPair_eq_some hst hg]
  rfl

/-- The misfeed of the picked sheet, stage by stage. -/
theorem expireAt_misfeed (hexpired : s.expiredEntry (exitOf tray) = some e) (hpick : s.adm.pick = some p)
    (htag : p.tag = e.tag) (htray : p.entry.tray = tray) (howner : r.owner = p.entry.owner)
    (hr : s.sheet e.tag = some r) (hpicking : r.state = .picking) :
    expireAt s (exitOf tray) =
      requeue (reportWithdrawal (blanked (unpicked s tray e r.target) r) r.slot r.generation).1 p r
        (reportWithdrawal (blanked (unpicked s tray e r.target) r) r.slot r.generation).2 := by
  have hexit : trayOf (exitOf tray) = some tray := by cases tray <;> rfl
  have hclaimed : ((dropEntry s (exitOf tray) e).setPickLine tray false).claimed e.tag p.entry.owner = some r := by
    have hsheet : ((dropEntry s (exitOf tray) e).setPickLine tray false).sheet e.tag = some r := hr
    simp [State.claimed, hsheet, howner]
  have hpick' : (dropEntry s (exitOf tray) e).adm.pick = some p := hpick
  simp only [expireAt, hexpired, expireEntry, hexit, misfeed, hpick', htag, htray, hclaimed, hpicking, ne_eq,
    not_true_eq_false, if_false]
  rfl

theorem unpicked_frame (s : State) (tray : Tray) (e : Expectation) (b : Bin) :
    (unpicked s tray e b).stu = s.stu ∧ (unpicked s tray e b).gsc = s.gsc ∧ (unpicked s tray e b).jam = s.jam ∧
    (unpicked s tray e b).tsv = s.tsv ∧ (unpicked s tray e b).profile = s.profile ∧
    (unpicked s tray e b).adm = { s.adm with pickLines := s.adm.pickLines.set tray.idx false } ∧
    (unpicked s tray e b).requests =
      { s.requests with condemns := s.requests.condemns.filter fun c => c.tag != some e.tag } := by
  simp [unpicked, retire_eq, State.setPickLine]

theorem list_unpicked (s : State) (tray : Tray) (e : Expectation) (b : Bin) (x : Sensor) :
    (unpicked s tray e b).list x = (dropEntry s (exitOf tray) e).list x :=
  list_of_eq (by simp [unpicked]) x

theorem sheet_unpicked (s : State) (tray : Tray) (e : Expectation) (b : Bin) (u : Tag) :
    (unpicked s tray e b).sheet u = if e.tag = u then none else s.sheet u := by
  have hretired : (unpicked s tray e b).sheet u =
      (retire ((dropEntry s (exitOf tray) e).setPickLine tray false) e.tag).sheet u :=
    sheet_of_eq (by simp [unpicked]) u
  rw [hretired, sheet_retire]
  rfl

theorem reserved_unpicked (s : State) (tray : Tray) (e : Expectation) (b : Bin) :
    ((unpicked s tray e b).bin b).reserved = (s.bin b).reserved - 1 := by
  have hbin : (withdrawPitch (retire ((dropEntry s (exitOf tray) e).setPickLine tray false) e.tag) e.tag).bin b =
      s.bin b := bin_of_eq (by simp) b
  rw [unpicked, bin_release, if_pos rfl, hbin]

theorem pitches_withdrawPitch (s : State) (tag : Tag) :
    (withdrawPitch s tag).tsq.pitches = s.tsq.pitches.filter fun x => x.tag != tag := by
  unfold withdrawPitch
  split
  case h_1 hnone =>
    refine (List.filter_eq_self.2 fun p hp => ?_).symm
    simpa using List.find?_eq_none.1 hnone p hp
  case h_2 => simp [State.removePitch, State.setPitches]

theorem pitches_unpicked (s : State) (tray : Tray) (e : Expectation) (b : Bin) :
    (unpicked s tray e b).tsq.pitches = s.tsq.pitches.filter fun x => x.tag != e.tag := by
  have hrelease : ∀ u : State, (release u b).tsq = u.tsq := fun u => by simp
  rw [unpicked, hrelease, pitches_withdrawPitch]
  simp

end stages

/-! ## The page put back (R64) -/

/-- The tray of a third miss FAILED, the picking place ended. -/
def unplaced (s : State) (r : Sheet) : State :=
  if r.attempts + 1 = 3 then failTray { s with adm := { s.adm with pick := none } } r.tray
  else { s with adm := { s.adm with pick := none } }

/-- The entry of a missed pick as it goes back to its queue. -/
def missedEntry (p : Pick) (r : Sheet) : Entry :=
  { p.entry with attempts := if r.attempts + 1 = 3 then 0 else r.attempts + 1 }

theorem requeue_some (s : State) (p : Pick) (r : Sheet) (state : StatementState) :
    requeue s p r (some state) = if state.ended then unplaced s r
      else (unplaced s r).setQueue p.source (missedEntry p r :: (unplaced s r).queue p.source) := by
  simp only [requeue, unplaced, missedEntry]

/-- What a failed tray and an ended pick leave of the admission. -/
theorem unplaced_adm (s : State) (r : Sheet) : ∃ conditions, (unplaced s r).adm =
    { s.adm with pick := none, conditions := conditions } ∧
    conditions[r.tray.idx] = if r.attempts + 1 = 3 then .failed else s.condition r.tray := by
  unfold unplaced
  split
  · unfold failTray
    split
    case isTrue h => exact ⟨s.adm.conditions, rfl, h⟩
    case isFalse h =>
      refine ⟨s.adm.conditions.set r.tray.idx .failed, ?_, Vector.getElem_set_self ..⟩
      rw [State.notify_adm]
      rfl
  · exact ⟨s.adm.conditions, rfl, rfl⟩

theorem adm_setQueue (s : State) (q : Queue) (l : List Entry) :
    (s.setQueue q l).adm.pick = s.adm.pick ∧ (s.setQueue q l).adm.pickLines = s.adm.pickLines ∧
    (s.setQueue q l).adm.conditions = s.adm.conditions ∧ (s.setQueue q l).adm.previous = s.adm.previous ∧
    (s.setQueue q l).adm.starvation = s.adm.starvation := by
  cases q <;> exact ⟨rfl, rfl, rfl, rfl, rfl⟩

theorem queue_setQueue (s : State) (q k : Queue) (l : List Entry) :
    (s.setQueue q l).queue k = if k = q then l else s.queue k := by
  cases q <;> cases k <;> rfl

/-- What a requeue answered with the state of the statement does to the admission. -/
theorem requeue_reads (s : State) (p : Pick) (r : Sheet) (state : StatementState) :
    (requeue s p r (some state)).adm.pick = none ∧
    (requeue s p r (some state)).adm.pickLines = s.adm.pickLines ∧
    (requeue s p r (some state)).adm.previous = s.adm.previous ∧
    (requeue s p r (some state)).adm.starvation = s.adm.starvation ∧
    (requeue s p r (some state)).condition r.tray = (if r.attempts + 1 = 3 then .failed else s.condition r.tray) ∧
    (requeue s p r (some state)).queue p.source =
      (if state.ended then s.queue p.source else missedEntry p r :: s.queue p.source) ∧
    (∀ q, q ≠ p.source → (requeue s p r (some state)).queue q = s.queue q) := by
  obtain ⟨conditions, hadm, hcondition⟩ := unplaced_adm s r
  have hqueue : ∀ q, (unplaced s r).queue q = s.queue q := fun q => by
    cases q <;> simp [State.queue, hadm]
  have hunplaced : (unplaced s r).condition r.tray = if r.attempts + 1 = 3 then .failed else s.condition r.tray := by
    rw [State.condition, hadm]
    exact hcondition
  rw [requeue_some]
  cases state.ended with
  | true =>
    rw [if_pos rfl, if_pos rfl, hadm]
    exact ⟨rfl, rfl, rfl, rfl, hunplaced, hqueue _, fun q _ => hqueue q⟩
  | false =>
    obtain ⟨hpick, hlines, hconditions, hprevious, hstarvation⟩ := adm_setQueue (unplaced s r) p.source
      (missedEntry p r :: (unplaced s r).queue p.source)
    rw [if_neg Bool.false_ne_true, if_neg Bool.false_ne_true, hpick, hlines, hprevious, hstarvation, State.condition,
      hconditions, queue_setQueue, if_pos rfl, hqueue, hadm]
    refine ⟨rfl, rfl, rfl, rfl, hcondition, rfl, fun q hq => ?_⟩
    rw [queue_setQueue, if_neg hq, hqueue]

/-! ## The misfeed (O17) -/

/-- The admission with the pick line of a tray withdrawn. -/
def Admission.unlined (tray : Tray) (a : Admission) : Admission :=
  { a with pickLines := a.pickLines.set tray.idx false }

theorem faults_closeIfClear (s : State) (slot : Slot) :
    (closeIfClear s slot).requests.faults = s.requests.faults := by
  unfold closeIfClear
  split
  · rfl
  · split
    · rfl
    · split <;> rfl

section misfeed
variable {s : State} {r : Sheet} {st : Statement}

theorem blankedStatement_same (h : st.state.ended = true ∨ r.front ≠ .missed ∨
    breakWaits s r.slot r.generation .blank = false) : blankedStatement s r st = st := by
  unfold blankedStatement
  rcases h with h | h | h
  · have hsame : st.broken r.generation .blank = st := if_neg fun hand => by simp [h] at hand
    rw [hsame, ite_self]
  · exact if_neg fun hand => h hand.1
  · exact if_neg fun hand => by simp [h] at hand

theorem blankedStatement_broken (hmissed : r.front = .missed) (hwaits : breakWaits s r.slot r.generation .blank = true)
    (hg : st.generation = r.generation) (hopen : st.state.ended = false) : blankedStatement s r st =
      { st with state := if st.generation < 3 then .broken else .abandoned, cause := some .blank } := by
  rw [blankedStatement, if_pos ⟨hmissed, hwaits⟩, Statement.broken, if_pos ⟨hg, hopen⟩]

theorem bins_blanked (hst : s.statement r.slot = some st) (hended : st.state.ended = true) :
    (blanked s r).requests.bins = s.requests.bins := by
  unfold blanked
  split
  · rw [takeBreaksOf_ended]
    intro q hq _
    rwa [← Option.some.inj (hst.symm.trans hq)]
  · rfl

/-- The withdrawal of an ended statement sends the closing request when it was the last sheet in flight (R10). -/
theorem bins_withdrawal {v : State} (hended : st.state.ended = true) :
    (closeIfClear (v.setStatement r.slot (some st.withdrawn)) r.slot).requests.bins =
      v.requests.bins ++ closingRequest r.slot st.withdrawn := by
  have hset : (v.setStatement r.slot (some st.withdrawn)).statement r.slot = some st.withdrawn := by
    rw [State.statement_setStatement, if_pos rfl]
  rw [closeIfClear_eq hset hended]
  rfl

end misfeed

/-- Settles O17: the pick undone, the page put back by the state of its statement, and what stays. -/
theorem pickWindowExpiryPutsThePageBack : Obligations.PickWindowExpiryPutsThePageBack := by
  intro s tray e p r st htracking hclear hlist hdue hpick htag htray hslot hgeneration hr hpicking hrtray hst hg
  have howner : r.owner = p.entry.owner := by rw [Sheet.owner, Entry.owner, hslot, hgeneration]
  have hexpire := expireAt_misfeed (expiredEntry_only htracking hclear hlist hdue) hpick htag htray howner hr hpicking
  obtain ⟨ustu, ugsc, ujam, utsv, uprofile, uadm, urequests⟩ := unpicked_frame s tray e r.target
  have ulist := list_unpicked s tray e r.target
  have usheet := sheet_unpicked s tray e r.target
  have ureserved := reserved_unpicked s tray e r.target
  have upitches := pitches_unpicked s tray e r.target
  generalize unpicked s tray e r.target = u
    at hexpire ustu ugsc ujam utsv uprofile uadm urequests ulist usheet ureserved upitches
  have ust : u.statement r.slot = some st := (statement_of_eq ustu _).trans hst
  have hwaits : breakWaits u r.slot r.generation .blank = breakWaits s r.slot r.generation .blank := by
    rw [breakWaits, breakWaits, urequests, State.openingOf, State.openingOf, ustu]
  obtain ⟨vsheets, vadm, vtsq, vptk, vgsc, vbnm, vjam, vtsv, vprofile, vfaults⟩ := blanked_frame u r
  have vst := statement_blanked (r := r) ust
  have vbins := bins_blanked (r := r) ust
  obtain ⟨bgeneration, bident, bbin, bflight⟩ := blankedStatement_fields u r st
  rw [reportWithdrawal_eq vst (bgeneration.trans hg)] at hexpire
  generalize hb : blankedStatement u r st = st5 at hexpire vst bgeneration bident bbin bflight
  generalize blanked u r = v at hexpire vsheets vadm vtsq vptk vgsc vbnm vjam vtsv vprofile vfaults vst vbins
  have wst : (closeIfClear (v.setStatement r.slot (some st5.withdrawn)) r.slot).statement r.slot = some st5.withdrawn := by
    rw [statement_of_eq (closeIfClear_frame _ _).2.1, State.statement_setStatement, if_pos rfl]
  have wbins : st5.state.ended = true → _ := fun h => bins_withdrawal (r := r) (v := v) (st := st5) h
  have wfaults : (closeIfClear (v.setStatement r.slot (some st5.withdrawn)) r.slot).requests.faults =
      v.requests.faults := faults_closeIfClear _ _
  have wadm : (closeIfClear (v.setStatement r.slot (some st5.withdrawn)) r.slot).adm = s.adm.unlined tray := by
    simp only [closeIfClear_frame, State.setStatement_adm, vadm, uadm]
    rfl
  have wframe := closeIfClear_frame (v.setStatement r.slot (some st5.withdrawn)) r.slot
  generalize closeIfClear (v.setStatement r.slot (some st5.withdrawn)) r.slot = w at hexpire wst wbins wfaults wadm wframe
  obtain ⟨tpick, tlines, tprevious, tstarvation, tcondition, tqueue, tothers⟩ := requeue_reads w p r st5.state
  have tst : (requeue w p r (some st5.state)).statement r.slot = some st5.withdrawn :=
    (statement_of_eq (by simp) _).trans wst
  have wqueue : ∀ q, w.queue q = s.queue q := fun q => by cases q <;> simp [State.queue, wadm, Admission.unlined]
  have tbins : (requeue w p r (some st5.state)).requests.bins = w.requests.bins := by simp
  refine ⟨_, runs_of_effect (u := requeue w p r (some st5.state)) hexpire, ?_, fun x hx => ?_, ?_, fun x hx => ?_, tpick,
    ?_, fun hopen => ⟨fun hfree => ?_, fun hmissed hwait => ?_⟩, fun hended => ?_, fun q hq => (tothers q hq).trans
    (wqueue q), ?_, ?_, ?_, ?_, ?_, ?_, ?_, ?_, ?_, ?_⟩
  · rw [list_of_eq (s := u) (by simp [wframe, vptk]), ulist, list_dropEntry, if_pos rfl, hlist, List.erase_cons_head]
  · rw [list_of_eq (s := u) (by simp [wframe, vptk]), ulist, list_dropEntry, if_neg (Ne.symm hx)]
  · rw [sheet_of_eq (s := u) (by simp [wframe, vsheets]), usheet, if_pos rfl]
  · rw [sheet_of_eq (s := u) (by simp [wframe, vsheets]), usheet, if_neg (Ne.symm hx)]
  · rw [tlines, wadm]
    rfl
  · have hsame : st5 = st := hb.symm.trans (blankedStatement_same (.inr (by rwa [hwaits])))
    have hnot : st.state.ended = false := by rcases hopen with h | h <;> rw [h] <;> rfl
    rw [tqueue, tst, hsame, hnot, wqueue]
    exact ⟨rfl, rfl⟩
  · have hnot : st.state.ended = false := by rcases hopen with h | h <;> rw [h] <;> rfl
    have hbroken := hb.symm.trans (blankedStatement_broken hmissed (hwaits.trans hwait) hg hnot)
    have hstate : st5.state.ended = true := by
      rw [hbroken]
      dsimp only
      split <;> rfl
    rw [tqueue, tst, hstate, wqueue, hbroken]
    exact ⟨rfl, rfl⟩
  · have hstate : st.state.ended = true := by rcases hended with h | h <;> rw [h] <;> rfl
    have hsame : st5 = st := hb.symm.trans (blankedStatement_same (.inl hstate))
    have hclosing : w.requests.bins = s.requests.bins ++ closingRequest r.slot st.withdrawn := by
      rw [hsame] at wbins
      rw [wbins hstate, vbins hstate, urequests]
    rw [tqueue, tst, tbins, hsame, hstate, wqueue, hclosing]
    refine ⟨rfl, rfl, fun b hbin hlast => ?_, fun hmany => ?_⟩
    · have hzero : st.withdrawn.inFlight = 0 := by
        have : st.withdrawn.inFlight = st.inFlight - 1 := rfl
        omega
      have hbin' : st.withdrawn.bin = some b := hbin
      have hgen : st.withdrawn.generation = r.generation := hg
      simp only [closingRequest, hbin', if_pos hzero, hgen]
      rfl
    · have hnone : closingRequest r.slot st.withdrawn = [] := by
        have hbin : st.withdrawn.bin = st.bin := rfl
        rcases hmany with h | h
        · simp only [closingRequest, hbin, h]
        · have hflight : st.withdrawn.inFlight ≠ 0 := by
            have : st.withdrawn.inFlight = st.inFlight - 1 := rfl
            omega
          unfold closingRequest
          split
          · rfl
          · exact if_neg hflight
      rw [hnone, List.append_nil]
  · rw [← hrtray, tcondition, State.condition, State.condition, wadm]
    rfl
  · rw [bin_of_eq (s := u) (by simp [wframe, vbnm]), ureserved]
  · rw [← upitches]
    simp [wframe, vtsq]
  · have hfaults : (requeue w p r (some st5.state)).requests.faults = w.requests.faults := by simp
    rw [hfaults, wfaults, vfaults, urequests]
  · rw [tprevious, wadm]
    rfl
  · rw [tstarvation, wadm]
    rfl
  · simp [wframe, vtsv, utsv]
  · simp [wframe, vgsc, ugsc]
  · simp [wframe, vjam, ujam]
  · simp [wframe, vprofile, uprofile]

end Sys2Proof.Machine
end

section
/-! SUPPORT. Warm reset: the end of its step, and the requests of the BNM that it takes (O4, R191, R20). -/

namespace Sys2Proof.Machine

set_option Elab.async false

/-! ## A step that ends STOPPED -/

section stopped
variable {s : State}

theorem evaluate_stopped (h : s.tsv.state = .stopped) (q : Queue) : evaluate s q = .transport := by
  have hidle : s.tsv.state ≠ .running := by rw [h]; decide
  unfold evaluate
  split
  · exact if_pos hidle
  · exact if_pos hidle

/-- In STOPPED the evaluation finds the hold reason TRANSPORT, and asks for nothing. -/
theorem evaluateQueue_stopped (h : s.tsv.state = .stopped) (hnew : s.adm.newHold = .transport)
    (hrestart : s.adm.restartHold = .transport) (q : Queue) : evaluateQueue s q = s := by
  have hidle : s.tsv.state ≠ .running := by rw [h]; decide
  have hoverflow : ∀ e, overflows s e = false := fun e => by
    have hhead : evaluateHead s e = .transport := if_pos hidle
    simp [overflows, hhead]
  have hhold : s.setHold q .transport = s := by
    cases q
    · rw [← hnew]
      rfl
    · rw [← hrestart]
      rfl
  unfold evaluateQueue
  rw [evaluate_stopped h, hhold]
  split
  · rfl
  case h_2 e _ => rw [if_neg (by simp [hoverflow e])]

theorem evaluateAfter_stopped (h : s.tsv.state = .stopped) (hnew : s.adm.newHold = .transport)
    (hrestart : s.adm.restartHold = .transport) (before : State) : evaluateAfter before s = s := by
  have hone : ∀ q, evaluateChanged before s q = s := fun q => by
    rw [evaluateChanged, evaluateQueue_stopped h hnew hrestart, ite_self]
  rw [evaluateAfter, hone, hone]

/-- A step that ends in STOPPED with no claim waiting ends with its effect. -/
theorem finish_stopped (h : s.tsv.state = .stopped) (hnew : s.adm.newHold = .transport)
    (hrestart : s.adm.restartHold = .transport) (hretires : s.requests.retires = []) (hsuspects : s.adm.suspects = [])
    (before : State) : finish before s = .next s := by
  have hretirements : takeRetirements before s = s := by
    simp only [takeRetirements, hretires, List.take_nil, List.drop_nil, List.foldl_nil]
    rw [← hretires]
  have hclaims : takeSuspects before s = s := by
    simp only [takeSuspects, hsuspects, List.take_nil, List.drop_nil, List.foldl_nil]
    rw [← hsuspects]
  rw [finish, hretirements]
  simp only [evaluateAfter_stopped h hnew hrestart, hclaims, ite_self]

end stopped

/-! ## Requests of the BNM taken in order -/

/-- The bins in READY. -/
def readyBins (s : State) : Nat :=
  (if (s.bin .b1).state = .ready then 1 else 0) + (if (s.bin .b2).state = .ready then 1 else 0) +
  (if (s.bin .b3).state = .ready then 1 else 0) + (if (s.bin .b4).state = .ready then 1 else 0) +
  (if (s.bin .p).state = .ready then 1 else 0)

theorem readyBins_le (s : State) : readyBins s ≤ 5 := by
  unfold readyBins
  repeat' split
  all_goals omega

/-- What the notices and the fences use up together: a fence takes a bin out of READY, and sends one notice. -/
def noticeLoad (s : State) : Nat := s.cpt.notices.length + readyBins s

/-- What requests of the BNM keep: the counts of the bins and their ranges once CLOSED; a bin leaves its state for FENCED
alone, and the notices go on. -/
structure Rebinned (s t : State) : Prop where
  kept : ∀ d, (t.bin d).fill = (s.bin d).fill ∧ (t.bin d).reserved = (s.bin d).reserved ∧
    (t.bin d).jogRight = (s.bin d).jogRight ∧ (t.bin d).last = (s.bin d).last ∧ (t.bin d).role = (s.bin d).role
  pointer : t.bnm.pointer = s.bnm.pointer
  state : ∀ d, (t.bin d).state = (s.bin d).state ∨ ((s.bin d).state = .ready ∧ (t.bin d).state = .fenced)
  closed : ∀ d, ∀ g ∈ (s.bin d).spoil, g.isOpen = false → g ∈ (t.bin d).spoil
  notices : s.cpt.notices <+: t.cpt.notices
  port : t.cpt = { s.cpt with notices := t.cpt.notices, noticeLost := t.cpt.noticeLost }

/-- `t` is `s` after requests of the BNM, with room for their notices. -/
structure Restocked (s t : State) : Prop extends Rebinned s t where
  load : noticeLoad t ≤ noticeLoad s
  lost : noticeLoad s ≤ 32 → t.cpt.noticeLost = s.cpt.noticeLost
  blocks : t = { s with bnm := t.bnm, cpt := t.cpt }

namespace Rebinned
variable {s t u : State}

theorem refl (s : State) : Rebinned s s :=
  ⟨fun _ => ⟨rfl, rfl, rfl, rfl, rfl⟩, rfl, fun _ => .inl rfl, fun _ _ h _ => h, List.prefix_refl _, rfl⟩

theorem trans (h : Rebinned s t) (k : Rebinned t u) : Rebinned s u where
  kept d := by
    obtain ⟨h1, h2, h3, h4, h5⟩ := h.kept d
    obtain ⟨k1, k2, k3, k4, k5⟩ := k.kept d
    exact ⟨k1.trans h1, k2.trans h2, k3.trans h3, k4.trans h4, k5.trans h5⟩
  pointer := k.pointer.trans h.pointer
  state d := by
    rcases h.state d with hsame | ⟨hready, hfenced⟩
    · rw [← hsame]
      exact k.state d
    · rcases k.state d with hsame | ⟨hready', -⟩
      · exact .inr ⟨hready, hsame.trans hfenced⟩
      · exact absurd (hfenced.symm.trans hready') (by decide)
  closed d g hg hclosed := k.closed d g (h.closed d g hg hclosed) hclosed
  notices := h.notices.trans k.notices
  port := by
    rw [k.port, h.port]

end Rebinned

namespace Restocked
variable {s t u : State}

theorem refl (s : State) : Restocked s s := ⟨.refl s, Nat.le_refl _, fun _ => rfl, rfl⟩

theorem stu (h : Restocked s t) : t.stu = s.stu := by rw [h.blocks]

theorem adm (h : Restocked s t) : t.adm = s.adm := by rw [h.blocks]

theorem trans (h : Restocked s t) (k : Restocked t u) : Restocked s u where
  toRebinned := h.toRebinned.trans k.toRebinned
  load := Nat.le_trans k.load h.load
  lost hl := (k.lost (Nat.le_trans h.load hl)).trans (h.lost hl)
  blocks := by
    rw [k.blocks, h.blocks]

theorem foldl {α : Type} {g : State → α → State} (hg : ∀ u a, Restocked u (g u a)) (l : List α) (s : State) :
    Restocked s (l.foldl g s) :=
  foldl_induction (P := Restocked s) (.refl s) fun u a _ hu => hu.trans (hg u a)

end Restocked

theorem readyBins_congr {s t : State} (h : ∀ d, (t.bin d).state = (s.bin d).state) : readyBins t = readyBins s := by
  simp only [readyBins, h]

/-- A bin's ranges or its list rewritten. -/
theorem restocked_setBin {s : State} {b : Bin} {r : BinRecord} (hkept : r = { s.bin b with
      spoil := r.spoil, stacking := r.stacking }) (hclosed : ∀ g ∈ (s.bin b).spoil, g.isOpen = false → g ∈ r.spoil) :
    Restocked s (s.setBin b r) := by
  have hbin : ∀ d, (s.setBin b r).bin d = if b = d then r else s.bin d := fun d => State.bin_setBin ..
  have hstate : ∀ d, ((s.setBin b r).bin d).state = (s.bin d).state := fun d => by
    rw [hbin]
    split
    case isTrue h => rw [hkept, h]
    case isFalse => rfl
  refine ⟨⟨fun d => ?_, rfl, fun d => .inl (hstate d), fun d g hg hopen => ?_, List.prefix_refl _, rfl⟩, ?_,
    fun _ => rfl, rfl⟩
  · rw [hbin]
    split
    case isTrue h =>
      rw [hkept, h]
      exact ⟨rfl, rfl, rfl, rfl, rfl⟩
    case isFalse => exact ⟨rfl, rfl, rfl, rfl, rfl⟩
  · rw [hbin]
    split
    case isTrue h =>
      subst h
      exact hclosed g hg hopen
    case isFalse => exact hg
  · exact Nat.le_of_eq (congrArg (s.cpt.notices.length + ·) (readyBins_congr hstate))

/-- A fence takes one bin out of READY. -/
theorem readyBins_fenced {s : State} {b : Bin} (h : (s.bin b).state = .ready) :
    readyBins (s.setBin b { s.bin b with state := .fenced }) + 1 = readyBins s := by
  have hbin : ∀ d, ((s.setBin b { s.bin b with state := .fenced }).bin d).state =
      if b = d then .fenced else (s.bin d).state := fun d => by
    rw [State.bin_setBin]
    split <;> rfl
  have hfenced : ¬(BinState.fenced = BinState.ready) := by decide
  unfold readyBins
  simp only [hbin]
  cases b <;> simp only [h, reduceCtorEq, if_true, if_false] <;> omega

theorem notify_full {s : State} {n : Notice} (h : ¬s.cpt.notices.length < 32) :
    s.notify n = { s with cpt := { s.cpt with noticeLost := true } } := by
  rw [State.notify, if_neg h]

theorem restocked_evaluateFence (s : State) (b : Bin) : Restocked s (evaluateFence s b) := by
  unfold evaluateFence
  split
  case isFalse => exact .refl s
  case isTrue h =>
    obtain ⟨hready, -, -⟩ := h
    have hcount := readyBins_fenced hready
    have hbin : ∀ d, (s.setBin b { s.bin b with state := .fenced }).bin d =
        if b = d then { s.bin b with state := .fenced } else s.bin d := fun d => State.bin_setBin ..
    generalize hv : s.setBin b { s.bin b with state := .fenced } = v at hcount hbin
    have hcpt : v.cpt = s.cpt := by rw [← hv]; rfl
    have hblocks : v = { s with bnm := v.bnm } := by rw [← hv]; rfl
    have hpointer : v.bnm.pointer = s.bnm.pointer := by rw [← hv]; rfl
    have hkept : ∀ d, (v.bin d).fill = (s.bin d).fill ∧ (v.bin d).reserved = (s.bin d).reserved ∧
        (v.bin d).jogRight = (s.bin d).jogRight ∧ (v.bin d).last = (s.bin d).last ∧ (v.bin d).role = (s.bin d).role ∧
        (v.bin d).spoil = (s.bin d).spoil := fun d => by
      rw [hbin]
      split
      case isTrue heq =>
        rw [heq]
        exact ⟨rfl, rfl, rfl, rfl, rfl, rfl⟩
      case isFalse => exact ⟨rfl, rfl, rfl, rfl, rfl, rfl⟩
    have hstate : ∀ d, (v.bin d).state = (s.bin d).state ∨ ((s.bin d).state = .ready ∧ (v.bin d).state = .fenced) :=
      fun d => by
        rw [hbin]
        split
        case isTrue heq => exact .inr ⟨heq ▸ hready, rfl⟩
        case isFalse => exact .inl rfl
    have hopened : ∀ d, ∀ g ∈ (s.bin d).spoil, g.isOpen = false → g ∈ (v.bin d).spoil := fun d g hg _ => by
      rwa [(hkept d).2.2.2.2.2]
    have hbins : ∀ n, (v.notify n).bnm = v.bnm := fun n => State.notify_bnm v n
    have hfields : ∀ d, (v.bin d).fill = (s.bin d).fill ∧ (v.bin d).reserved = (s.bin d).reserved ∧
        (v.bin d).jogRight = (s.bin d).jogRight ∧ (v.bin d).last = (s.bin d).last ∧ (v.bin d).role = (s.bin d).role :=
      fun d => ⟨(hkept d).1, (hkept d).2.1, (hkept d).2.2.1, (hkept d).2.2.2.1, (hkept d).2.2.2.2.1⟩
    by_cases hroom : s.cpt.notices.length < 32
    · rw [State.notify_room v _ (by rwa [hcpt])]
      refine ⟨⟨hfields, hpointer, hstate, hopened, ⟨_, by rw [hcpt]⟩, by rw [hcpt]⟩, ?_, fun _ => ?_, ?_⟩
      · have hlength : (v.cpt.notices ++ [Notice.bin b .fenced (s.bin b).fill]).length = s.cpt.notices.length + 1 := by
          rw [hcpt, List.length_append, List.length_singleton]
        change (v.cpt.notices ++ [Notice.bin b .fenced (s.bin b).fill]).length + readyBins v ≤
          s.cpt.notices.length + readyBins s
        omega
      · exact (congrArg Port.noticeLost hcpt : v.cpt.noticeLost = s.cpt.noticeLost)
      · rw [hcpt, hblocks]
    · rw [notify_full (by rwa [hcpt])]
      refine ⟨⟨hfields, hpointer, hstate, hopened, ⟨[], by rw [hcpt, List.append_nil]⟩, by rw [hcpt]⟩, ?_, fun hload => ?_, ?_⟩
      · change v.cpt.notices.length + readyBins v ≤ s.cpt.notices.length + readyBins s
        rw [hcpt]
        omega
      · have : noticeLoad s = s.cpt.notices.length + readyBins s := rfl
        omega
      · rw [hcpt, hblocks]

theorem mem_insertRange {g h : SpoilRange} {l : List SpoilRange} : h ∈ insertRange g l ↔ h = g ∨ h ∈ l := by
  induction l with
  | nil => simp [insertRange]
  | cons k t ih =>
    unfold insertRange
    split
    · simp
    · rw [List.mem_cons, ih, List.mem_cons]
      exact or_left_comm

theorem mem_withoutOpenRange {r : BinRecord} {ident : Ident} {g : SpoilRange} :
    g ∈ withoutOpenRange r ident ↔ g ∈ r.spoil ∧ ¬(g.isOpen = true ∧ g.ident = ident) := by
  rw [withoutOpenRange_eq, List.mem_filter, decide_eq_true_eq]

theorem restocked_takeBin (s : State) (q : BinRequest) : Restocked s (takeBin s q) := by
  cases q with
  | opening b ident first last =>
    change Restocked s (openSpoil s b ident first last)
    cases hopen : openRange (s.bin b) ident with
    | some g =>
      rw [openSpoil_some first last hopen]
      refine restocked_setBin rfl fun h hh hclosed => ?_
      exact mem_insertRange.2 (.inr (mem_withoutOpenRange.2 ⟨hh, fun hand => by simp [hclosed] at hand⟩))
    | none =>
      rw [openSpoil_none first last hopen]
      refine Restocked.trans (restocked_setBin rfl fun h hh _ => ?_) (restocked_evaluateFence _ b)
      exact mem_insertRange.2 (.inr hh)
  | closing b slot generation ident =>
    change Restocked s (closeSpoil s b slot generation ident)
    rw [closeSpoil_eq]
    refine restocked_setBin rfl fun h hh hclosed => ?_
    exact List.mem_map.2 ⟨h, hh, if_neg fun hand => by simp [hclosed] at hand⟩

/-! ## What the requests do to a bin -/

/-- The bin of a request. -/
def BinRequest.bin : BinRequest → Bin
  | .opening b _ _ _ => b
  | .closing b _ _ _ => b

theorem bin_takeBin_ne {s : State} {q : BinRequest} {d : Bin} (h : q.bin ≠ d) : (takeBin s q).bin d = s.bin d := by
  cases q with
  | opening b ident first last =>
    have hne : b ≠ d := h
    change (openSpoil s b ident first last).bin d = s.bin d
    cases hopen : openRange (s.bin b) ident with
    | some g => rw [openSpoil_some first last hopen, State.bin_setBin, if_neg hne]
    | none =>
      rw [openSpoil_none first last hopen, bin_evaluateFence, if_neg fun hand => hne hand.1, rangeOpened, State.bin_setBin,
        if_neg hne]
  | closing b slot generation ident =>
    have hne : b ≠ d := h
    change (closeSpoil s b slot generation ident).bin d = s.bin d
    rw [closeSpoil_eq, State.bin_setBin, if_neg hne]

/-- The entries of a stacking list that a request of the BNM leaves. -/
def BinRequest.leaves (d : Bin) (o : Owner) : BinRequest → Bool
  | .opening _ _ _ _ => true
  | .closing b slot generation _ => !(decide (b = d ∧ o.slot = slot ∧ o.generation = generation))

theorem stacking_openSpoil (s : State) (b : Bin) (ident : Ident) (first last : Nat) (d : Bin) :
    ((openSpoil s b ident first last).bin d).stacking = (s.bin d).stacking := by
  have hset : ∀ l, ((s.setBin b { s.bin b with spoil := l }).bin d).stacking = (s.bin d).stacking := fun l => by
    rw [State.bin_setBin]
    split
    case isTrue h => rw [h]
    case isFalse => rfl
  cases hopen : openRange (s.bin b) ident with
  | some g => rw [openSpoil_some first last hopen, hset]
  | none =>
    rw [openSpoil_none first last hopen, bin_evaluateFence]
    split
    case isTrue h =>
      obtain ⟨rfl, -⟩ := h
      exact hset _
    case isFalse => exact hset _

theorem stacking_takeBin_eq (s : State) (q : BinRequest) (d : Bin) :
    ((takeBin s q).bin d).stacking = (s.bin d).stacking.filter fun o => q.leaves d o := by
  cases q with
  | opening b ident first last =>
    refine (stacking_openSpoil s b ident first last d).trans (List.filter_eq_self.2 fun _ _ => rfl).symm
  | closing b slot generation ident =>
    change ((closeSpoil s b slot generation ident).bin d).stacking = _
    rw [closeSpoil_eq, State.bin_setBin]
    split
    case isTrue h =>
      subst h
      refine List.filter_congr fun o _ => ?_
      simp [BinRequest.leaves]
    case isFalse h =>
      refine (List.filter_eq_self.2 fun o _ => ?_).symm
      simp [BinRequest.leaves, h]

theorem stacking_takeBins (l : List BinRequest) (s : State) (d : Bin) :
    ((l.foldl takeBin s).bin d).stacking = (s.bin d).stacking.filter fun o => l.all (BinRequest.leaves d o) := by
  induction l generalizing s with
  | nil => exact (List.filter_eq_self.2 fun _ _ => rfl).symm
  | cons q l ih =>
    rw [List.foldl_cons, ih, stacking_takeBin_eq, List.filter_filter]
    exact List.filter_congr fun o _ => by rw [List.all_cons, Bool.and_comm]

end Sys2Proof.Machine
end

section
/-! SUPPORT. Warm reset: the RESET breaks in slot order (O4, R20). -/

namespace Sys2Proof.Machine

set_option Elab.async false

/-! ## One RESET break -/

/-- A statement after its RESET break (R20). -/
def Statement.reset (r : Statement) : Statement :=
  if r.inFlight = 0 then r
  else if r.state.ended then { r with inFlight := 0 }
  else { r with
    state := if r.generation < 3 then .broken else .abandoned, cause := some .reset, inFlight := 0 }

/-- What a RESET break asks of the BNM: the range of a record it breaks, and the entry of the statement. -/
def resetRequests (slot : Slot) (r : Statement) : List BinRequest :=
  (if r.state.ended then [] else openingRequest r) ++ closingRequest slot { r with inFlight := 0 }

/-- The state of a RESET break before its requests of the BNM are taken. -/
def resetBroken (s : State) (slot : Slot) (r : Statement) : State :=
  if r.state.ended then s.setStatement slot (some r.reset)
  else takeFlush ((s.setStatement slot (some r.reset)).notify (brokenNotice slot r .reset))
    { slot := slot, generation := r.generation }

theorem resetBreak_idle {s : State} {slot : Slot} (h : ∀ r, s.statement slot = some r → r.inFlight = 0) :
    resetBreak s slot = s := by
  unfold resetBreak
  split
  · rfl
  case h_2 r hr => exact if_pos (h r hr)

/-- The requests of a state that only break requests wait in. -/
def onlyBreaks (w : Requests) : Requests := { Requests.empty with breaks := w.breaks }

theorem requests_takeBins (l : List BinRequest) (s : State) : (l.foldl takeBin s).requests = s.requests :=
  foldl_keeps (f := fun u : State => u.requests) (fun u q => by simp) l s

theorem notify_requests_set (s : State) (n : Notice) (w : Requests) :
    ({ s with requests := w }).notify n = { s.notify n with requests := w } := by
  by_cases hroom : s.cpt.notices.length < 32
  · rw [State.notify_room s n hroom, State.notify_room { s with requests := w } n hroom]
  · rw [notify_full (s := s) hroom, notify_full (s := { s with requests := w }) hroom]

theorem evaluateFence_requests (s : State) (b : Bin) (w : Requests) :
    evaluateFence { s with requests := w } b = { evaluateFence s b with requests := w } := by
  by_cases hfence : (s.bin b).state = .ready ∧ (s.bin b).spoil ≠ [] ∧ 4 ≤ fenceCount s b
  · have hsame : evaluateFence { s with requests := w } b =
        ({ s.setBin b { s.bin b with state := .fenced } with requests := w }).notify (.bin b .fenced (s.bin b).fill) :=
      if_pos hfence
    rw [hsame, notify_requests_set, evaluateFence, if_pos hfence]
  · have hsame : evaluateFence { s with requests := w } b = { s with requests := w } := if_neg hfence
    rw [hsame, evaluateFence, if_neg hfence]

/-- Requests of the BNM do not read the waiting requests. -/
theorem takeBin_requests (s : State) (q : BinRequest) (w : Requests) :
    takeBin { s with requests := w } q = { takeBin s q with requests := w } := by
  cases q with
  | opening b ident first last =>
    change openSpoil { s with requests := w } b ident first last = { openSpoil s b ident first last with requests := w }
    cases hopen : openRange (s.bin b) ident with
    | some g =>
      rw [openSpoil_some (s := s) first last hopen, openSpoil_some (s := { s with requests := w }) first last hopen]
      rfl
    | none =>
      rw [openSpoil_none (s := s) first last hopen, openSpoil_none (s := { s with requests := w }) first last hopen]
      have hopened : rangeOpened { s with requests := w } b { first, last, ident, isOpen := true } =
          { rangeOpened s b { first, last, ident, isOpen := true } with requests := w } := rfl
      rw [hopened]
      exact evaluateFence_requests _ b w
  | closing b slot generation ident => rfl

theorem takeBins_requests (l : List BinRequest) (s : State) (w : Requests) :
    l.foldl takeBin { s with requests := w } = { l.foldl takeBin s with requests := w } := by
  induction l generalizing s with
  | nil => rfl
  | cons q l ih => rw [List.foldl_cons, List.foldl_cons, takeBin_requests, ih]

theorem setStatement_notify (s : State) (slot : Slot) (r : Option Statement) (n : Notice) :
    (s.notify n).setStatement slot r = (s.setStatement slot r).notify n := by
  by_cases hroom : s.cpt.notices.length < 32
  · rw [State.notify_room s n hroom, State.notify_room (s.setStatement slot r) n hroom]
    rfl
  · rw [notify_full (s := s) hroom, notify_full (s := s.setStatement slot r) hroom]
    rfl

theorem setStatement_setStatement (s : State) (slot : Slot) (p q : Option Statement) :
    (s.setStatement slot p).setStatement slot q = s.setStatement slot q := by
  simp [State.setStatement, Vector.set_set]

/-- The requests drained: one flush at most and the requests of the BNM, in order. -/
theorem drainRequests_eq (s : State) : drainRequests s =
    { s.requests.bins.foldl takeBin (s.requests.flushes.foldl takeFlush s) with
      requests := { s.requests with flushes := [], bins := [] } } := by
  have hflush : ∀ (l : List Owner) (u : State) (w : Requests),
      l.foldl takeFlush { u with requests := w } = { l.foldl takeFlush u with requests := w } := fun l => by
    induction l with
    | nil => exact fun _ _ => rfl
    | cons o l ih => exact fun u w => ih (takeFlush u o) w
  rw [drainRequests]
  dsimp only
  rw [hflush, takeBins_requests, takeBins_requests]

/-- The RESET break of a slot with sheets in flight. -/
theorem resetBreak_some {s : State} {slot : Slot} {r : Statement} (hr : s.statement slot = some r)
    (hflight : r.inFlight ≠ 0) (hflushes : s.requests.flushes = []) (hbins : s.requests.bins = []) :
    resetBreak s slot = { (resetRequests slot r).foldl takeBin (resetBroken s slot r) with
      requests := onlyBreaks s.requests } := by
  have hclosed : closingRequest slot r = [] := by
    unfold closingRequest
    split
    · rfl
    · exact if_neg hflight
  cases hended : r.state.ended with
  | true =>
    have hbreak : breakNow s slot r.generation .reset = s := breakNow_dropped .reset fun q hq _ => by
      rwa [← Option.some.inj (hr.symm.trans hq)]
    have hreset : r.reset = { r with inFlight := 0 } := by rw [Statement.reset, if_neg hflight, if_pos hended]
    have hset : (s.setStatement slot (some { r with inFlight := 0 })).statement slot = some { r with inFlight := 0 } := by
      rw [State.statement_setStatement, if_pos rfl]
    simp only [resetBreak, hr, if_neg hflight, hbreak]
    rw [closeIfClear_eq hset hended, resetBroken, if_pos hended, resetRequests, if_pos hended, hreset, List.nil_append]
    generalize closingRequest slot { r with inFlight := 0 } = l
    rw [drainRequests_eq]
    simp only [hflushes, hbins, List.nil_append, List.foldl_nil, takeBins_requests, discardClaims, onlyBreaks,
      State.setStatement_requests]
    rfl
  | false =>
    have hbreak := breakNow_taken hr hended .reset
    have hreset : r.reset = { r.broken r.generation .reset with inFlight := 0 } := by
      have hbroken : r.broken r.generation .reset =
          { r with state := if r.generation < 3 then .broken else .abandoned, cause := some .reset } :=
        if_pos ⟨rfl, hended⟩
      rw [Statement.reset, if_neg hflight, if_neg (by simp [hended]), hbroken]
    have hresetEnded : r.reset.state.ended = true := by
      rw [Statement.reset, if_neg hflight, if_neg (by simp [hended])]
      dsimp only
      split <;> rfl
    have hclosing : closingRequest slot r.reset = closingRequest slot { r with inFlight := 0 } := by
      rw [Statement.reset, if_neg hflight, if_neg (by simp [hended])]
      rfl
    generalize hu : (s.setStatement slot (some r.reset)).notify (brokenNotice slot r .reset) = u
    have hbroken : (breakNow s slot r.generation .reset).setStatement slot (some r.reset) =
        { u with requests := endedRequests s.requests slot r } := by
      rw [hbreak, setStatement_notify, ← hu, ← notify_requests_set]
      exact congrArg (fun v : State => ({ v with requests := endedRequests s.requests slot r }).notify
        (brokenNotice slot r .reset)) (setStatement_setStatement s slot _ _)
    have hfound : (breakNow s slot r.generation .reset).statement slot = some (r.broken r.generation .reset) := by
      rw [hbreak, statement_of_eq (State.notify_stu ..)]
      exact (State.statement_setStatement ..).trans (if_pos rfl)
    have hset : ({ u with requests := endedRequests s.requests slot r } : State).statement slot = some r.reset := by
      rw [← hu]
      exact (statement_of_eq (State.notify_stu ..) slot).trans ((State.statement_setStatement ..).trans (if_pos rfl))
    simp only [resetBreak, hr, if_neg hflight, hfound]
    rw [← hreset, hbroken, closeIfClear_eq hset hresetEnded, hclosing, resetBroken, if_neg (by simp [hended]), hu,
      resetRequests, if_neg (by simp [hended]), drainRequests_eq]
    simp only [endedRequests, breakAsks, hflushes, hbins, hclosed, List.nil_append, List.append_nil, List.foldl_cons,
      List.foldl_nil]
    have hflush : ∀ w, takeFlush { u with requests := w } { slot := slot, generation := r.generation } =
        { takeFlush u { slot := slot, generation := r.generation } with requests := w } := fun _ => rfl
    rw [hflush, takeBins_requests]
    rfl

end Sys2Proof.Machine
end

section
/-! SUPPORT. Warm reset: what the RESET breaks together do (O4, R20). -/

namespace Sys2Proof.Machine

set_option Elab.async false

/-! ## The ranges of a broken record -/

/-- The ranges of a bin after the opening request: none of them goes but the OPEN one of the id. -/
theorem spoil_openSpoil {s : State} {b : Bin} {ident : Ident} {first last : Nat} {g : SpoilRange}
    (h : g ∈ ((openSpoil s b ident first last).bin b).spoil) : (g.isOpen = true ∧ g.ident = ident) ∨ g ∈ (s.bin b).spoil := by
  cases hopen : openRange (s.bin b) ident with
  | some k =>
    rw [openSpoil_some first last hopen, setBin_self_bin] at h
    have hfound : k.isOpen = true ∧ k.ident = ident := by simpa using List.find?_some hopen
    rcases mem_insertRange.1 h with rfl | h
    · exact .inl hfound
    · exact .inr (mem_withoutOpenRange.1 h).1
  | none =>
    rw [openSpoil_none first last hopen, spoil_evaluateFence, rangeOpened, setBin_self_bin] at h
    rcases mem_insertRange.1 h with rfl | h
    · exact .inl ⟨rfl, rfl⟩
    · exact .inr h

theorem mem_openSpoil_none {s : State} {b : Bin} {ident : Ident} {first last : Nat}
    (h : openRange (s.bin b) ident = none) :
    { first, last, ident, isOpen := true } ∈ ((openSpoil s b ident first last).bin b).spoil := by
  rw [openSpoil_none first last h, spoil_evaluateFence, rangeOpened, setBin_self_bin]
  exact mem_insertRange.2 (.inl rfl)

theorem spoil_closeSpoil (s : State) (b : Bin) (slot : Slot) (generation : Nat) (ident : Ident) :
    ((closeSpoil s b slot generation ident).bin b).spoil = (s.bin b).spoil.map fun (g : SpoilRange) =>
      if g.isOpen = true ∧ g.ident = ident then { g with isOpen := false } else g := by
  rw [closeSpoil_eq, setBin_self_bin]

/-- No range of the id is OPEN after the closing request, and the other OPEN ranges stood before it. -/
theorem open_closeSpoil {s : State} {b : Bin} {slot : Slot} {generation : Nat} {ident : Ident} {g : SpoilRange}
    (h : g ∈ ((closeSpoil s b slot generation ident).bin b).spoil) (hopen : g.isOpen = true) :
    g.ident ≠ ident ∧ g ∈ (s.bin b).spoil := by
  rw [spoil_closeSpoil] at h
  obtain ⟨k, hk, rfl⟩ := List.mem_map.1 h
  split at hopen
  case isTrue => exact absurd hopen (by simp)
  case isFalse hnot =>
    rw [if_neg hnot]
    exact ⟨fun heq => hnot ⟨hopen, heq⟩, hk⟩

section
variable {s : State} {slot : Slot} {r : Statement} {b : Bin}

theorem closingRequest_reset (h : r.bin = some b) :
    closingRequest slot { r with inFlight := 0 } = [.closing b slot r.generation r.ident] := by
  simp only [closingRequest, h, if_true]

theorem openingRequest_bin {q : BinRequest} (h : q ∈ openingRequest r) :
    ∃ b first last, r.bin = some b ∧ q = .opening b r.ident first last := by
  unfold openingRequest at h
  split at h
  case h_1 b first last hbin hfirst hlast =>
    split at h
    · exact ⟨b, first, last, hbin, List.mem_singleton.1 h⟩
    · simp at h
  case h_2 => simp at h

theorem closingRequest_bin {q : BinRequest} (h : q ∈ closingRequest slot r) :
    ∃ b, r.bin = some b ∧ q = .closing b slot r.generation r.ident := by
  unfold closingRequest at h
  split at h
  case h_1 => simp at h
  case h_2 b hbin =>
    split at h
    · exact ⟨b, hbin, List.mem_singleton.1 h⟩
    · simp at h

theorem resetRequests_bin {q : BinRequest} (h : q ∈ resetRequests slot r) : r.bin = some q.bin := by
  rcases List.mem_append.1 h with h | h
  · split at h
    · simp at h
    · obtain ⟨b, first, last, hbin, rfl⟩ := openingRequest_bin h
      exact hbin
  · obtain ⟨b, hbin, rfl⟩ := closingRequest_bin h
    exact hbin

/-- The requests of a RESET break leave the other bins. -/
theorem bin_takeBins_ne {l : List BinRequest} {d : Bin} (h : ∀ q ∈ l, q.bin ≠ d) (s : State) :
    (l.foldl takeBin s).bin d = s.bin d :=
  foldl_induction (P := fun u : State => u.bin d = s.bin d) rfl fun _ q hq hu => (bin_takeBin_ne (h q hq)).trans hu

/-- The requests of a RESET break in the bin of the record: the opening one where the break asks for it, then the closing
one. -/
theorem resetRequests_eq (h : r.bin = some b) : (resetRequests slot r).foldl takeBin s =
    closeSpoil ((if r.state.ended then [] else openingRequest r).foldl takeBin s) b slot r.generation r.ident := by
  rw [resetRequests, closingRequest_reset h, List.foldl_append]
  rfl

/-- The OPEN ranges after a RESET break stood before it. -/
theorem open_resetRequests {d : Bin} {g : SpoilRange} (h : g ∈ (((resetRequests slot r).foldl takeBin s).bin d).spoil)
    (hopen : g.isOpen = true) : g ∈ (s.bin d).spoil := by
  by_cases hd : r.bin = some d
  · rw [resetRequests_eq hd] at h
    obtain ⟨hident, h⟩ := open_closeSpoil h hopen
    have hopened : (openingRequest r).foldl takeBin s = s ∨
        ∃ first last, (openingRequest r).foldl takeBin s = openSpoil s d r.ident first last := by
      unfold openingRequest
      rw [hd]
      split
      case h_1 b first last hb _ _ =>
        cases hb
        split
        · exact .inr ⟨first, last, rfl⟩
        · exact .inl rfl
      case h_2 => exact .inl rfl
    split at h
    · exact h
    · rcases hopened with heq | ⟨first, last, heq⟩
      · rwa [heq] at h
      · rw [heq] at h
        exact (spoil_openSpoil h).resolve_left fun hand => hident hand.2
  · rwa [bin_takeBins_ne fun q hq heq => hd ((resetRequests_bin hq).trans (congrArg some heq))] at h

/-- The range of a record that a RESET break finds without an OPEN one. -/
theorem range_resetRequests {first last : Nat} (hopen : r.state.ended = false) (hbin : r.bin = some b)
    (hdelivered : 0 < r.delivered) (hfirst : r.firstPos = some first) (hlast : r.lastPos = some last)
    (hnone : openRange (s.bin b) r.ident = none) :
    { first, last, ident := r.ident, isOpen := false } ∈ (((resetRequests slot r).foldl takeBin s).bin b).spoil := by
  have hopened : openingRequest r = [.opening b r.ident first last] := by
    simp only [openingRequest, hbin, hfirst, hlast, if_pos hdelivered]
  rw [resetRequests_eq hbin, if_neg (by simp [hopen]), hopened, spoil_closeSpoil]
  exact List.mem_map.2 ⟨_, mem_openSpoil_none hnone, if_pos ⟨rfl, rfl⟩⟩

end

end Sys2Proof.Machine
end

section
/-! SUPPORT. Warm reset: the RESET breaks in slot order (O4, R20). -/

namespace Sys2Proof.Machine

set_option Elab.async false

/-! ## The effect of the RESET breaks -/

/-- A feed queue keeps the entries of the slots without a break, and those that the break of their slot does not flush. -/
def entryKept (s : State) (l : List Slot) (e : Entry) : Bool :=
  decide (e.slot ∉ l) ||
    (s.statement e.slot).all fun r => r.generation != e.generation || r.state.ended || r.inFlight == 0

/-- A stacking list keeps the statements without a break, and those that the break of their slot does not close. -/
def ownerKept (s : State) (l : List Slot) (d : Bin) (o : Owner) : Bool :=
  decide (o.slot ∉ l) ||
    (s.statement o.slot).all fun r => decide (r.generation = o.generation → r.bin = some d → r.inFlight = 0)

/-- `t` is `s` after the RESET breaks of the slots of `l`. -/
structure Broke (l : List Slot) (s t : State) : Prop extends Rebinned s t where
  statement : ∀ j, t.statement j = if j ∈ l then (s.statement j).map Statement.reset else s.statement j
  openings : t.stu.openings = s.stu.openings
  queue : ∀ q, t.queue q = (s.queue q).filter (entryKept s l)
  stacking : ∀ d, (t.bin d).stacking = (s.bin d).stacking.filter (ownerKept s l d)
  spoil : ∀ d, (∀ j ∈ l, ∀ r, s.statement j = some r → r.bin = some d → r.inFlight = 0) →
    (t.bin d).spoil = (s.bin d).spoil
  opened : ∀ d, ∀ g ∈ (t.bin d).spoil, g.isOpen = true → g ∈ (s.bin d).spoil
  range : ∀ j ∈ l, ∀ r b first last, s.statement j = some r → r.inFlight ≠ 0 → r.state.ended = false → r.bin = some b →
    0 < r.delivered → r.firstPos = some first → r.lastPos = some last → openRange (s.bin b) r.ident = none →
    { first, last, ident := r.ident, isOpen := false } ∈ (t.bin b).spoil
  told : noticeLoad s + l.length ≤ 32 → ∀ j ∈ l, ∀ r, s.statement j = some r → r.inFlight ≠ 0 → r.state.ended = false →
    brokenNotice j r .reset ∈ t.cpt.notices
  load : noticeLoad t ≤ noticeLoad s + l.length
  lost : noticeLoad s + l.length ≤ 32 → t.cpt.noticeLost = s.cpt.noticeLost
  blocks : t = { s with stu := t.stu, bnm := t.bnm, cpt := t.cpt
                        adm := { s.adm with newQueue := t.adm.newQueue, restartQueue := t.adm.restartQueue } }

/-! ## One break -/

section one
variable {s : State} {slot : Slot} {r : Statement}

theorem resetBreak_clean (hclean : s.requests = onlyBreaks s.requests) (hr : s.statement slot = some r)
    (hflight : r.inFlight ≠ 0) :
    resetBreak s slot = (resetRequests slot r).foldl takeBin (resetBroken s slot r) := by
  have hflushes : s.requests.flushes = [] := congrArg Requests.flushes hclean
  have hbins : s.requests.bins = [] := congrArg Requests.bins hclean
  have hbroken : (resetBroken s slot r).requests = s.requests := by
    unfold resetBroken
    split <;> simp
  have hwhole : ((resetRequests slot r).foldl takeBin (resetBroken s slot r)).requests = onlyBreaks s.requests :=
    (requests_takeBins _ _).trans (hbroken.trans hclean)
  rw [resetBreak_some hr hflight hflushes hbins, ← hwhole]

theorem statement_resetBroken (s : State) (slot j : Slot) (r : Statement) :
    (resetBroken s slot r).statement j = if slot = j then some r.reset else s.statement j := by
  unfold resetBroken
  split
  · exact State.statement_setStatement ..
  · refine (statement_of_eq (s := s.setStatement slot (some r.reset)) ?_ j).trans (State.statement_setStatement ..)
    simp

theorem queue_resetBroken (hr : s.statement slot = some r) (hflight : r.inFlight ≠ 0) (q : Queue) :
    (resetBroken s slot r).queue q = (s.queue q).filter (entryKept s [slot]) := by
  unfold resetBroken
  split
  case isTrue hended =>
    have hqueue : (s.setStatement slot (some r.reset)).queue q = s.queue q := by cases q <;> rfl
    rw [hqueue]
    refine (List.filter_eq_self.2 fun e _ => ?_).symm
    by_cases hslot : e.slot = slot
    · simp [entryKept, hslot, hr, hended]
    · simp [entryKept, hslot]
  case isFalse hopen =>
    have hqueue : ∀ u : State, u.adm = s.adm → (takeFlush u { slot, generation := r.generation }).queue q =
        (s.queue q).filter fun e => decide ¬(e.slot = slot ∧ e.generation = r.generation) := fun u hu => by
      rw [takeFlush_eq]
      cases q
      · exact congrArg (fun a : Admission => a.newQueue.filter _) hu
      · exact congrArg (fun a : Admission => a.restartQueue.filter _) hu
    rw [hqueue _ (by simp)]
    refine List.filter_congr fun e _ => ?_
    by_cases hslot : e.slot = slot
    · rw [Bool.eq_iff_iff]
      simp [entryKept, hslot, hr, hopen, hflight, eq_comm (a := r.generation)]
    · simp [entryKept, hslot]

/-- What a RESET break writes before its requests: the record, the queues and its notice. -/
theorem resetBroken_blocks (s : State) (slot : Slot) (r : Statement) :
    resetBroken s slot r = { s with
      stu := (s.setStatement slot (some r.reset)).stu
      cpt := (resetBroken s slot r).cpt
      adm := { s.adm with
        newQueue := (resetBroken s slot r).adm.newQueue
        restartQueue := (resetBroken s slot r).adm.restartQueue } } := by
  unfold resetBroken
  split
  · rfl
  · by_cases hroom : s.cpt.notices.length < 32
    · rw [State.notify_room (s.setStatement slot (some r.reset)) _ hroom]
      rfl
    · rw [notify_full (s := s.setStatement slot (some r.reset)) hroom]
      rfl

/-- The notice of a RESET break, which needs room for one. -/
theorem cpt_resetBroken (s : State) (slot : Slot) (r : Statement) : (resetBroken s slot r).cpt =
    if r.state.ended then s.cpt
    else if s.cpt.notices.length < 32 then
      { s.cpt with notices := s.cpt.notices ++ [brokenNotice slot r .reset] }
    else { s.cpt with noticeLost := true } := by
  unfold resetBroken
  split
  · rfl
  · split
    case isTrue hroom =>
      rw [State.notify_room (s.setStatement slot (some r.reset)) _ hroom]
      rfl
    case isFalse hroom =>
      rw [notify_full (s := s.setStatement slot (some r.reset)) hroom]
      rfl

theorem rebinned_resetBroken (s : State) (slot : Slot) (r : Statement) : Rebinned s (resetBroken s slot r) := by
  have hbnm : (resetBroken s slot r).bnm = s.bnm := by rw [resetBroken_blocks]
  have hbin : ∀ d, (resetBroken s slot r).bin d = s.bin d := fun d => bin_of_eq hbnm d
  refine ⟨fun d => ?_, congrArg Bins.pointer hbnm, fun d => .inl (congrArg BinRecord.state (hbin d)), fun d g hg _ => ?_,
    ?_, ?_⟩
  · rw [hbin]
    exact ⟨rfl, rfl, rfl, rfl, rfl⟩
  · rwa [hbin]
  · rw [cpt_resetBroken]
    split
    · exact List.prefix_refl _
    · split
      · exact List.prefix_append _ _
      · exact List.prefix_refl _
  · rw [cpt_resetBroken]
    split
    · rfl
    · split <;> rfl

theorem noticeLoad_resetBroken (s : State) (slot : Slot) (r : Statement) :
    noticeLoad (resetBroken s slot r) ≤ noticeLoad s + 1 := by
  have hready : readyBins (resetBroken s slot r) = readyBins s :=
    readyBins_congr fun d => congrArg BinRecord.state (bin_of_eq (by rw [resetBroken_blocks]) d)
  have hlength : (resetBroken s slot r).cpt.notices.length ≤ s.cpt.notices.length + 1 := by
    rw [cpt_resetBroken]
    split
    · omega
    · split
      · simp
      · dsimp only
        omega
  unfold noticeLoad
  omega

/-- A stacking list loses the pair of the record, in the bin of the record. -/
theorem leaves_resetRequests (slot : Slot) (r : Statement) (d : Bin) (o : Owner) :
    (resetRequests slot r).all (BinRequest.leaves d o) =
      decide ¬(r.bin = some d ∧ o.slot = slot ∧ o.generation = r.generation) := by
  rw [Bool.eq_iff_iff, List.all_eq_true, decide_eq_true_eq]
  constructor
  · rintro h ⟨hbin, hslot, hgeneration⟩
    have hclosing := h (.closing d slot r.generation r.ident)
      (List.mem_append.2 (.inr (by rw [closingRequest_reset hbin]; exact List.mem_singleton.2 rfl)))
    simp [BinRequest.leaves, hslot, hgeneration] at hclosing
  · intro h q hq
    cases q with
    | opening => rfl
    | closing b j generation ident =>
      have hbin := resetRequests_bin hq
      rcases List.mem_append.1 hq with hq | hq
      · split at hq
        · simp at hq
        · obtain ⟨b, first, last, -, heq⟩ := openingRequest_bin hq
          exact absurd heq (by simp)
      · obtain ⟨b, -, heq⟩ := closingRequest_bin hq
        cases heq
        simp only [BinRequest.leaves, Bool.not_eq_true', decide_eq_false_iff_not]
        rintro ⟨rfl, hpair⟩
        exact h ⟨hbin, hpair⟩

theorem broke_resetBreak_some (hclean : s.requests = onlyBreaks s.requests) (hr : s.statement slot = some r)
    (hflight : r.inFlight ≠ 0) : Broke [slot] s (resetBreak s slot) := by
  rw [resetBreak_clean hclean hr hflight]
  have hrestocked : Restocked (resetBroken s slot r) ((resetRequests slot r).foldl takeBin (resetBroken s slot r)) :=
    .foldl restocked_takeBin _ _
  have hbins : ∀ d, (resetBroken s slot r).bin d = s.bin d := bin_of_eq (by rw [resetBroken_blocks])
  have hload := noticeLoad_resetBroken s slot r
  have hblocks := resetBroken_blocks s slot r
  have hstu : ((resetRequests slot r).foldl takeBin (resetBroken s slot r)).stu = (resetBroken s slot r).stu :=
    hrestocked.stu
  have hadm : ((resetRequests slot r).foldl takeBin (resetBroken s slot r)).adm = (resetBroken s slot r).adm :=
    hrestocked.adm
  have hroom : noticeLoad s + 1 ≤ 32 → s.cpt.notices.length < 32 := fun h => by
    have : noticeLoad s = s.cpt.notices.length + readyBins s := rfl
    omega
  have hall : ∀ d o, ((resetRequests slot r).all (BinRequest.leaves d o)) = ownerKept s [slot] d o := fun d o => by
    rw [leaves_resetRequests]
    by_cases hslot : o.slot = slot
    · rw [Bool.eq_iff_iff]
      simp [ownerKept, hslot, hr, hflight, eq_comm (a := r.generation), imp_not_comm]
    · simp [ownerKept, hslot]
  refine
    { toRebinned := (rebinned_resetBroken s slot r).trans hrestocked.toRebinned
      statement := fun j => ?_
      openings := ?_
      queue := fun q => ?_
      stacking := fun d => ?_
      spoil := fun d hidle => ?_
      opened := fun d g hg hopen => ?_
      range := fun j hj p b first last hp hp0 hopen hbin hdelivered hfirst hlast hnone => ?_
      told := fun hl j hj p hp hp0 hopen => ?_
      load := Nat.le_trans hrestocked.load hload
      lost := fun hl => ?_
      blocks := ?_ }
  · rw [statement_of_eq hstu, statement_resetBroken]
    by_cases hj : slot = j
    · subst hj
      rw [if_pos rfl, if_pos (List.mem_singleton.2 rfl), hr]
      rfl
    · rw [if_neg hj, if_neg (by simp [Ne.symm hj])]
  · rw [hstu, hblocks]
    rfl
  · rw [← queue_resetBroken hr hflight]
    cases q
    · exact congrArg Admission.newQueue hadm
    · exact congrArg Admission.restartQueue hadm
  · rw [stacking_takeBins, hbins]
    exact List.filter_congr fun o _ => hall d o
  · rw [bin_takeBins_ne fun q hq heq => hflight (hidle slot (List.mem_singleton.2 rfl) r hr
      ((resetRequests_bin hq).trans (congrArg some heq))), hbins]
  · rw [← hbins]
    exact open_resetRequests hg hopen
  · obtain rfl := List.mem_singleton.1 hj
    obtain rfl := Option.some.inj (hr.symm.trans hp)
    exact range_resetRequests hopen hbin hdelivered hfirst hlast (by rwa [hbins])
  · obtain rfl := List.mem_singleton.1 hj
    obtain rfl := Option.some.inj (hr.symm.trans hp)
    refine hrestocked.notices.subset ?_
    rw [cpt_resetBroken, if_neg (by simp [hopen]), if_pos (hroom hl)]
    simp
  · rw [hrestocked.lost (Nat.le_trans hload hl), cpt_resetBroken]
    split
    · rfl
    · rw [if_pos (hroom hl)]
  · rw [hstu, hadm]
    have hwhole := hrestocked.blocks
    generalize (resetRequests slot r).foldl takeBin (resetBroken s slot r) = t at hwhole ⊢
    refine hwhole.trans ?_
    rw [hblocks]

/-- A slot without sheets in flight is left as it is. -/
theorem broke_idle (h : ∀ r, s.statement slot = some r → r.inFlight = 0) : Broke [slot] s s := by
  refine
    { toRebinned := .refl s
      statement := fun j => ?_
      openings := rfl
      queue := fun q => (List.filter_eq_self.2 fun e _ => ?_).symm
      stacking := fun d => (List.filter_eq_self.2 fun o _ => ?_).symm
      spoil := fun _ _ => rfl
      opened := fun _ _ hg _ => hg
      range := fun j hj r _ _ _ hr hflight => ?_
      told := fun _ j hj r hr hflight => ?_
      load := Nat.le_succ _
      lost := fun _ => rfl
      blocks := rfl }
  · split
    case isTrue hj =>
      obtain rfl := List.mem_singleton.1 hj
      cases hr : s.statement j with
      | none => rfl
      | some r => rw [Option.map_some, Statement.reset, if_pos (h r hr)]
    case isFalse => rfl
  · by_cases hslot : e.slot = slot
    · cases hr : s.statement slot with
      | none => simp [entryKept, hslot, hr]
      | some r => simp [entryKept, hslot, hr, h r hr]
    · simp [entryKept, hslot]
  · by_cases hslot : o.slot = slot
    · cases hr : s.statement slot with
      | none => simp [ownerKept, hslot, hr]
      | some r => simp [ownerKept, hslot, hr, h r hr]
    · simp [ownerKept, hslot]
  · obtain rfl := List.mem_singleton.1 hj
    exact absurd (h r hr) hflight
  · obtain rfl := List.mem_singleton.1 hj
    exact absurd (h r hr) hflight

theorem broke_resetBreak (hclean : s.requests = onlyBreaks s.requests) (slot : Slot) :
    Broke [slot] s (resetBreak s slot) := by
  by_cases hidle : ∀ r, s.statement slot = some r → r.inFlight = 0
  · rw [resetBreak_idle hidle]
    exact broke_idle hidle
  · simp only [Classical.not_forall] at hidle
    obtain ⟨r, hr, hflight⟩ := hidle
    exact broke_resetBreak_some hclean hr hflight

end one

/-! ## The breaks of a list of slots -/

section many
variable {s t u : State} {slot : Slot} {l : List Slot}

theorem Broke.requests (h : Broke l s t) : t.requests = s.requests := by rw [h.blocks]

theorem Broke.nil (s : State) : Broke [] s s where
  toRebinned := .refl s
  statement _ := rfl
  openings := rfl
  queue _ := (List.filter_eq_self.2 fun _ _ => by simp [entryKept]).symm
  stacking _ := (List.filter_eq_self.2 fun _ _ => by simp [ownerKept]).symm
  spoil _ _ := rfl
  opened _ _ hg _ := hg
  range _ hj := absurd hj List.not_mem_nil
  told _ _ hj := absurd hj List.not_mem_nil
  load := Nat.le_refl _
  lost _ := rfl
  blocks := rfl

theorem openRange_none {r : BinRecord} {ident : Ident} :
    openRange r ident = none ↔ ∀ g ∈ r.spoil, g.isOpen = true → g.ident ≠ ident := by
  simp [openRange]

theorem Broke.cons (h : Broke [slot] s u) (k : Broke l u t) (hslot : slot ∉ l) : Broke (slot :: l) s t := by
  have hother : ∀ j, j ≠ slot → u.statement j = s.statement j := fun j hj => by
    rw [h.statement, if_neg (by simp [hj])]
  have hlater : ∀ j ∈ l, u.statement j = s.statement j := fun j hj => hother j fun heq => hslot (heq ▸ hj)
  have hlength : (slot :: l).length = l.length + 1 := rfl
  have hload : noticeLoad u ≤ noticeLoad s + 1 := h.load
  refine
    { toRebinned := h.toRebinned.trans k.toRebinned
      statement := fun j => ?_
      openings := k.openings.trans h.openings
      queue := fun q => ?_
      stacking := fun d => ?_
      spoil := fun d hidle => ?_
      opened := fun d g hg hopen => h.opened d g (k.opened d g hg hopen) hopen
      range := fun j hj r b first last hr hflight hopen hbin hdelivered hfirst hlast hnone => ?_
      told := fun hl j hj r hr hflight hopen => ?_
      load := ?_
      lost := fun hl => ?_
      blocks := ?_ }
  · rw [k.statement, h.statement]
    by_cases hj : j ∈ l
    · rw [if_pos hj, if_neg (by simp; rintro rfl; exact hslot hj), if_pos (List.mem_cons_of_mem _ hj)]
    · rw [if_neg hj]
      simp [hj]
  · rw [k.queue, h.queue, List.filter_filter]
    refine List.filter_congr fun e _ => ?_
    by_cases he : e.slot ∈ l
    · have hne : e.slot ≠ slot := fun heq => hslot (heq ▸ he)
      simp [entryKept, he, hne, hother _ hne]
    · simp [entryKept, he]
  · rw [k.stacking, h.stacking, List.filter_filter]
    refine List.filter_congr fun o _ => ?_
    by_cases ho : o.slot ∈ l
    · have hne : o.slot ≠ slot := fun heq => hslot (heq ▸ ho)
      simp [ownerKept, ho, hne, hother _ hne]
    · simp [ownerKept, ho]
  · rw [k.spoil d fun j hj r hr => hidle j (List.mem_cons_of_mem _ hj) r ((hlater j hj).symm.trans hr),
      h.spoil d fun j hj r hr => hidle j (List.mem_cons.2 (.inl (List.mem_singleton.1 hj))) r hr]
  · rcases List.mem_cons.1 hj with rfl | hj
    · refine k.closed b _ ?_ rfl
      exact h.range j (List.mem_singleton.2 rfl) r b first last hr hflight hopen hbin hdelivered hfirst hlast hnone
    · refine k.range j hj r b first last ((hlater j hj).trans hr) hflight hopen hbin hdelivered hfirst hlast ?_
      exact openRange_none.2 fun g hg hg' => openRange_none.1 hnone g (h.opened b g hg hg') hg'
  · rcases List.mem_cons.1 hj with rfl | hj
    · have hone : noticeLoad s + 1 ≤ 32 := by omega
      exact k.notices.subset (h.told hone j (List.mem_singleton.2 rfl) r hr hflight hopen)
    · exact k.told (by omega) j hj r ((hlater j hj).trans hr) hflight hopen
  · have := k.load
    omega
  · have hone : noticeLoad s + 1 ≤ 32 := by omega
    exact (k.lost (by omega)).trans (h.lost hone)
  · rw [k.blocks, h.blocks]

theorem broke_resetBreaks (hclean : s.requests = onlyBreaks s.requests) (hl : l.Nodup) :
    Broke l s (l.foldl resetBreak s) := by
  induction l generalizing s with
  | nil => exact .nil s
  | cons slot l ih =>
    obtain ⟨hslot, hl⟩ := List.nodup_cons.1 hl
    have hone := broke_resetBreak hclean slot
    refine hone.cons (ih ?_ hl) hslot
    rwa [hone.requests]

end many

end Sys2Proof.Machine
end

section
/-! Warm reset (O4, R191, R20, R145, R180). -/

namespace Sys2Proof.Machine

set_option Elab.async false

/-! ## Paper in motion cleared -/

/-- The pages that no flush of the list names. -/
def unflushed (l : List Owner) (queue : List Entry) : List Entry :=
  queue.filter fun e => decide (({ slot := e.slot, generation := e.generation } : Owner) ∉ l)

theorem takeFlushes_eq (l : List Owner) (u : State) : l.foldl takeFlush u = { u with
    adm := { u.adm with
      newQueue := unflushed l u.adm.newQueue
      restartQueue := unflushed l u.adm.restartQueue } } := by
  have hcons : ∀ (o : Owner) (l : List Owner) (queue : List Entry),
      unflushed l (queue.filter fun e => decide ¬(e.slot = o.slot ∧ e.generation = o.generation)) =
        unflushed (o :: l) queue := fun o l queue => by
    unfold unflushed
    rw [List.filter_filter]
    refine List.filter_congr fun e _ => ?_
    cases o
    simp [Bool.and_comm]
  induction l generalizing u with
  | nil =>
    have hnone : ∀ queue : List Entry, unflushed [] queue = queue := fun queue =>
      List.filter_eq_self.2 fun _ _ => by simp
    simp only [hnone, List.foldl_nil]
  | cons o l ih => rw [List.foldl_cons, ih, takeFlush_eq, ← hcons, ← hcons]

/-- The state that the waiting requests of the BNM are taken in: no sheet, and the waiting flushes taken (R191). -/
def beforeBins (u : State) : State :=
  { u with
    sheets := Vector.replicate 48 none
    tsq := Sequencer.atReset
    jam := JamRecord.atReset
    adm := { u.adm with
      newQueue := unflushed u.requests.flushes u.adm.newQueue
      restartQueue := unflushed u.requests.flushes u.adm.restartQueue } }

/-- The state after the waiting requests of the BNM. -/
def afterBins (u : State) : State := u.requests.bins.foldl takeBin (beforeBins u)

theorem restocked_afterBins (u : State) : Restocked (beforeBins u) (afterBins u) := .foldl restocked_takeBin _ _

theorem clearMotion_eq (u : State) : clearMotion u = { u with
    sheets := Vector.replicate 48 none
    adm := { Admission.atReset with
      newQueue := unflushed u.requests.flushes u.adm.newQueue
      restartQueue := unflushed u.requests.flushes u.adm.restartQueue
      conditions := u.adm.conditions }
    tsq := Sequencer.atReset
    ptk := (warmTracker u).ptk
    gsc := Gates.atReset
    bnm := (clearReserved (afterBins u)).bnm
    jam := JamRecord.atReset
    tsv := { Transport.atReset with pathCount := u.tsv.pathCount }
    cpt := (afterBins u).cpt
    requests := onlyBreaks u.requests } := by
  have hdrain : drainRequests { u with
      sheets := Vector.replicate 48 none
      tsq := Sequencer.atReset
      jam := JamRecord.atReset } = { afterBins u with requests := { u.requests with flushes := [], bins := [] } } := by
    rw [drainRequests_eq, takeFlushes_eq]
    rfl
  rw [clearMotion, hdrain]
  have hblocks := (restocked_afterBins u).blocks
  generalize afterBins u = w at hblocks ⊢
  rw [hblocks]
  rfl

/-! ## The units (R180) -/

/-- The units write the roles and states of the bins, and the profile. -/
theorem writeUnits_blocks (s : State) (u : Units) :
    writeUnits s u = { s with profile := { s.profile with enabled := u }, bnm := (writeUnits s u).bnm } := by
  unfold writeUnits
  dsimp only
  split
  · rfl
  · unfold setFourBins
    split <;> rfl

theorem bin_writeUnits_same {s : State} {u : Units} (h : u.fourBins = s.profile.enabled.fourBins) (b : Bin) :
    (writeUnits s u).bin b = s.bin b := by
  rw [writeUnits_same h]
  rfl

theorem bin_writeUnits_other {s : State} {u : Units} {b : Bin} (h : b ≠ .b3 ∧ b ≠ .b4) :
    (writeUnits s u).bin b = s.bin b := by
  by_cases hsame : u.fourBins = s.profile.enabled.fourBins
  · exact bin_writeUnits_same hsame b
  · rw [writeUnits_changed hsame, bin_setFourBins, if_neg (by simp [h])]
    rfl

theorem bin_writeUnits_changed {s : State} {u : Units} {b : Bin} (h : b = .b3 ∨ b = .b4)
    (hchanged : u.fourBins ≠ s.profile.enabled.fourBins) : (writeUnits s u).bin b = { s.bin b with
      role := if u.fourBins then (if b = .b3 then .standard else .oversize) else .off
      state := if u.fourBins = false then .off
        else if (s.bin b).role = .off then (if s.lines.doors[b.idx] then .doorOpen else .check)
        else (s.bin b).state } := by
  rw [writeUnits_changed hchanged, bin_setFourBins, if_pos h, bin_setRole, if_pos rfl]
  cases u.fourBins
  · rfl
  · rcases h with rfl | rfl <;> rfl

/-- What the units leave of a bin. -/
theorem writeUnits_keeps_bin (s : State) (u : Units) (b : Bin) :
    ∃ role state, (writeUnits s u).bin b = { s.bin b with role := role, state := state } := by
  by_cases hsame : u.fourBins = s.profile.enabled.fourBins
  · exact ⟨_, _, bin_writeUnits_same hsame b⟩
  · by_cases hb : b = .b3 ∨ b = .b4
    · exact ⟨_, _, bin_writeUnits_changed hb hsame⟩
    · exact ⟨_, _, bin_writeUnits_other (by simpa using hb)⟩

/-! ## The warm reset as a whole -/

theorem warmPort_eq (s : State) : warmPort s = { s with cpt := { s.cpt with
    notices := [.reset .warm]
    noticeBuffer := []
    callBuffer := []
    noticeLost := false
    select := 0 } } :=
  State.notify_room { s with cpt := { s.cpt with
    notices := []
    noticeBuffer := []
    callBuffer := []
    noticeLost := false
    select := 0 } } (.reset .warm) (Nat.zero_lt_succ 31)

/-- The state before the RESET breaks. -/
@[irreducible] def beforeResetBreaks (s : State) : State := clearMotion (warmPort s)

/-- The state after the RESET breaks. -/
@[irreducible] def afterResetBreaks (s : State) : State := slots.foldl resetBreak (beforeResetBreaks s)

section warm
variable (s : State)

theorem bin_beforeResetBreaks (d : Bin) :
    (beforeResetBreaks s).bin d = { (afterBins (warmPort s)).bin d with reserved := 0 } := by
  rw [beforeResetBreaks, clearMotion_eq]
  simp [State.bin, clearReserved]

/-- The waiting requests of the BNM, from the bins of `s`. -/
theorem restocked_warm : Restocked (beforeBins (warmPort s)) (afterBins (warmPort s)) := restocked_afterBins _

theorem bin_beforeBins (d : Bin) : (beforeBins (warmPort s)).bin d = s.bin d := by
  rw [warmPort_eq]
  rfl

theorem requests_beforeResetBreaks : (beforeResetBreaks s).requests = onlyBreaks s.requests := by
  rw [beforeResetBreaks, clearMotion_eq, warmPort_eq]

theorem broke_warm : Broke slots (beforeResetBreaks s) (afterResetBreaks s) := by
  have hclean : (beforeResetBreaks s).requests = onlyBreaks (beforeResetBreaks s).requests := by
    rw [requests_beforeResetBreaks, onlyBreaks, onlyBreaks]
  have hnodup : slots.Nodup := List.nodup_finRange 16
  unfold afterResetBreaks
  exact broke_resetBreaks hclean hnodup

theorem cpt_beforeResetBreaks : (beforeResetBreaks s).cpt = (afterBins (warmPort s)).cpt := by rw [beforeResetBreaks, clearMotion_eq]

/-- The RESET notice, five fences and the sixteen breaks find room in the queue. -/
theorem noticeLoad_beforeResetBreaks : noticeLoad (beforeResetBreaks s) ≤ 6 := by
  have hready : readyBins (beforeResetBreaks s) = readyBins (afterBins (warmPort s)) :=
    readyBins_congr fun d => by rw [bin_beforeResetBreaks]
  have hload : noticeLoad (beforeResetBreaks s) = noticeLoad (afterBins (warmPort s)) := by
    rw [noticeLoad, hready, cpt_beforeResetBreaks, noticeLoad]
  have hstart : noticeLoad (beforeBins (warmPort s)) = 1 + readyBins (beforeBins (warmPort s)) := by
    rw [warmPort_eq]
    rfl
  have hbound := (restocked_warm s).load
  have hbins := readyBins_le (beforeBins (warmPort s))
  omega

theorem room_warm : noticeLoad (beforeResetBreaks s) + slots.length ≤ 32 := by
  have hload := noticeLoad_beforeResetBreaks s
  have hslots : slots.length = 16 := List.length_finRange
  omega

theorem warmReset_eq : warmReset s = writeUnits (closeRanges (afterResetBreaks s)) s.profile.fitted := by
  have hprofile : (closeRanges (afterResetBreaks s)).profile = s.profile := by
    rw [(closeRanges_frame _).2.2.2.2.2.2.2.2.2.1, (broke_warm s).blocks, beforeResetBreaks, clearMotion_eq, warmPort_eq]
  rw [← hprofile]
  unfold warmReset afterResetBreaks beforeResetBreaks
  dsimp only

theorem warmReset_blocks : warmReset s = { s with
    stu := (afterResetBreaks s).stu
    sheets := Vector.replicate 48 none
    adm := { Admission.atReset with
      newQueue := (afterResetBreaks s).adm.newQueue
      restartQueue := (afterResetBreaks s).adm.restartQueue
      conditions := s.adm.conditions }
    tsq := Sequencer.atReset
    ptk := (warmTracker s).ptk
    gsc := Gates.atReset
    bnm := (warmReset s).bnm
    jam := JamRecord.atReset
    tsv := { Transport.atReset with pathCount := s.tsv.pathCount }
    profile := { s.profile with enabled := s.profile.fitted }
    cpt := (afterResetBreaks s).cpt
    requests := onlyBreaks s.requests } := by
  have hblocks := (broke_warm s).blocks
  rw [beforeResetBreaks, clearMotion_eq, warmPort_eq] at hblocks
  rw [warmReset_eq, writeUnits_blocks]
  generalize (writeUnits (closeRanges (afterResetBreaks s)) s.profile.fitted).bnm = bins
  generalize afterResetBreaks s = u at hblocks ⊢
  rw [hblocks]
  rfl

theorem statement_warmReset (slot : Slot) : (warmReset s).statement slot = (s.statement slot).map Statement.reset := by
  have hstu : (beforeResetBreaks s).stu = s.stu := by rw [beforeResetBreaks, clearMotion_eq, warmPort_eq]
  rw [statement_of_eq (s := afterResetBreaks s) (by rw [warmReset_blocks]), (broke_warm s).statement,
    if_pos (show slot ∈ slots from List.mem_finRange slot), statement_of_eq hstu]

theorem statement_beforeResetBreaks (slot : Slot) : (beforeResetBreaks s).statement slot = s.statement slot :=
  statement_of_eq (by rw [beforeResetBreaks, clearMotion_eq, warmPort_eq]) slot

theorem openings_warmReset : (warmReset s).stu.openings = s.stu.openings := by
  have hstu : (beforeResetBreaks s).stu = s.stu := by rw [beforeResetBreaks, clearMotion_eq, warmPort_eq]
  rw [warmReset_blocks]
  exact (broke_warm s).openings.trans (congrArg StatementUnit.openings hstu)

theorem queue_warmReset (q : Queue) : (warmReset s).queue q = (s.queue q).filter fun e =>
    decide (({ slot := e.slot, generation := e.generation } : Owner) ∉ s.requests.flushes) &&
      (s.statement e.slot).all fun r => r.generation != e.generation || r.state.ended || r.inFlight == 0 := by
  have hafter : (warmReset s).queue q = (afterResetBreaks s).queue q := by
    rw [warmReset_blocks]
    cases q <;> rfl
  have hbefore : (beforeResetBreaks s).queue q = unflushed s.requests.flushes (s.queue q) := by
    rw [beforeResetBreaks, clearMotion_eq, warmPort_eq]
    cases q <;> rfl
  rw [hafter, (broke_warm s).queue, hbefore, unflushed, List.filter_filter]
  refine List.filter_congr fun e _ => ?_
  rw [Bool.and_comm, entryKept, statement_beforeResetBreaks]
  simp [slots]

/-! ### The bins -/

/-- What the warm reset leaves of a bin: the ranges CLOSED, and what the units write. -/
theorem bin_warmReset (d : Bin) : ∃ role state, (warmReset s).bin d = { (afterResetBreaks s).bin d with
    role := role, state := state, spoil := ((afterResetBreaks s).bin d).spoil.map SpoilRange.closed } := by
  obtain ⟨role, state, h⟩ := writeUnits_keeps_bin (closeRanges (afterResetBreaks s)) s.profile.fitted d
  exact ⟨role, state, by rw [warmReset_eq, h, closeRanges_bin]⟩

theorem kept_warmReset (d : Bin) : ((warmReset s).bin d).reserved = 0 ∧ ((warmReset s).bin d).fill = (s.bin d).fill ∧
    ((warmReset s).bin d).jogRight = (s.bin d).jogRight ∧ ((warmReset s).bin d).last = (s.bin d).last := by
  obtain ⟨role, state, h⟩ := bin_warmReset s d
  obtain ⟨hfill, hreserved, hjog, hlast, -⟩ := (broke_warm s).kept d
  obtain ⟨hfill', -, hjog', hlast', -⟩ := (restocked_warm s).kept d
  rw [bin_beforeResetBreaks] at hfill hreserved hjog hlast
  rw [bin_beforeBins] at hfill' hjog' hlast'
  rw [h]
  exact ⟨hreserved, hfill.trans hfill', hjog.trans hjog', hlast.trans hlast'⟩

theorem pointer_warmReset : (warmReset s).bnm.pointer = s.bnm.pointer := by
  have hunits : ∀ (u : State) (v : Units), (writeUnits u v).bnm.pointer = u.bnm.pointer := fun u v => by
    unfold writeUnits
    dsimp only
    split
    · rfl
    · unfold setFourBins
      split <;> rfl
  have hbefore : (beforeResetBreaks s).bnm.pointer = (afterBins (warmPort s)).bnm.pointer := by
    rw [beforeResetBreaks, clearMotion_eq]
    rfl
  rw [warmReset_eq, hunits]
  refine (broke_warm s).pointer.trans (hbefore.trans ((restocked_warm s).pointer.trans ?_))
  rw [warmPort_eq]
  rfl

theorem role_afterResetBreaks (d : Bin) : ((afterResetBreaks s).bin d).role = (s.bin d).role := by
  obtain ⟨-, -, -, -, hrole⟩ := (broke_warm s).kept d
  obtain ⟨-, -, -, -, hrole'⟩ := (restocked_warm s).kept d
  rw [bin_beforeResetBreaks] at hrole
  rw [bin_beforeBins] at hrole'
  exact hrole.trans hrole'

/-- The requests and the breaks take a bin from READY to FENCED, and out of no other state. -/
theorem state_afterResetBreaks (d : Bin) : ((afterResetBreaks s).bin d).state = (s.bin d).state ∨
    ((s.bin d).state = .ready ∧ ((afterResetBreaks s).bin d).state = .fenced) := by
  have hbreaks := (broke_warm s).state d
  have hbins := (restocked_warm s).state d
  rw [bin_beforeResetBreaks] at hbreaks
  rw [bin_beforeBins] at hbins
  rcases hbreaks with hsame | ⟨hready, hfenced⟩
  · rwa [← hsame] at hbins
  · rcases hbins with hsame | ⟨-, hfenced'⟩
    · exact .inr ⟨hsame.symm.trans hready, hfenced⟩
    · exact absurd (hfenced'.symm.trans hready) (by decide)

theorem stacking_warmReset (d : Bin) : ((warmReset s).bin d).stacking =
    ((s.bin d).stacking.filter fun o => s.requests.bins.all (BinRequest.leaves d o)).filter fun o =>
      (s.statement o.slot).all fun r => decide (r.generation = o.generation → r.bin = some d → r.inFlight = 0) := by
  obtain ⟨role, state, h⟩ := bin_warmReset s d
  have hbins : ((afterBins (warmPort s)).bin d).stacking =
      (s.bin d).stacking.filter fun o => s.requests.bins.all (BinRequest.leaves d o) := by
    rw [afterBins, stacking_takeBins, bin_beforeBins, warmPort_eq]
  rw [h]
  dsimp only
  rw [(broke_warm s).stacking, bin_beforeResetBreaks, hbins]
  refine List.filter_congr fun o _ => ?_
  rw [ownerKept, statement_beforeResetBreaks]
  simp [slots]

theorem spoil_warmReset (d : Bin) :
    ((warmReset s).bin d).spoil = ((afterResetBreaks s).bin d).spoil.map SpoilRange.closed := by
  obtain ⟨role, state, h⟩ := bin_warmReset s d
  rw [h]

end warm

end Sys2Proof.Machine
end

section
/-! Warm reset: the notices, the ranges, and the whole (O4). -/

namespace Sys2Proof.Machine

set_option Elab.async false

section warm
variable (s : State)

theorem cpt_beforeBins : (beforeBins (warmPort s)).cpt = { s.cpt with
    notices := [.reset .warm]
    noticeBuffer := []
    callBuffer := []
    noticeLost := false
    select := 0 } := by
  rw [warmPort_eq]
  rfl

theorem notices_warmReset : [Notice.reset .warm] <+: (warmReset s).cpt.notices := by
  have hcpt : (warmReset s).cpt = (afterResetBreaks s).cpt := by rw [warmReset_blocks]
  have hstart : (beforeBins (warmPort s)).cpt.notices = [Notice.reset .warm] := by rw [cpt_beforeBins]
  have hbins := (restocked_warm s).notices
  have hbreaks := (broke_warm s).notices
  rw [cpt_beforeResetBreaks] at hbreaks
  rw [hcpt, ← hstart]
  exact hbins.trans hbreaks

/-- Six notices and fences, and sixteen breaks: the queue of 32 loses none of them. -/
theorem noticeLost_warmReset : (warmReset s).cpt.noticeLost = false := by
  have hcpt : (warmReset s).cpt = (afterResetBreaks s).cpt := by rw [warmReset_blocks]
  have hstart : (beforeBins (warmPort s)).cpt.noticeLost = false := by rw [cpt_beforeBins]
  have hlength : (beforeBins (warmPort s)).cpt.notices.length = 1 := by rw [cpt_beforeBins]; rfl
  have hready := readyBins_le (beforeBins (warmPort s))
  have hload : noticeLoad (beforeBins (warmPort s)) ≤ 32 := by
    unfold noticeLoad
    omega
  have hbins := (restocked_warm s).lost hload
  have hbreaks := (broke_warm s).lost (room_warm s)
  rw [cpt_beforeResetBreaks] at hbreaks
  rw [hcpt]
  exact hbreaks.trans (hbins.trans hstart)

/-- The port is as the warm reset sets it, but for the notices that follow. -/
theorem cpt_warmReset : (warmReset s).cpt = { s.cpt with
    notices := (warmReset s).cpt.notices
    noticeBuffer := []
    callBuffer := []
    noticeLost := false
    select := 0 } := by
  have hcpt : (warmReset s).cpt = (afterResetBreaks s).cpt := by rw [warmReset_blocks]
  have hlost := noticeLost_warmReset s
  have hbins := (restocked_warm s).port
  have hbreaks := (broke_warm s).port
  rw [cpt_beforeResetBreaks, hbins, cpt_beforeBins] at hbreaks
  rw [hcpt] at hlost ⊢
  rw [hbreaks]
  simp only [hlost]

theorem told_warmReset {slot : Slot} {r : Statement} (hr : s.statement slot = some r) (hflight : r.inFlight ≠ 0)
    (hopen : r.state.ended = false) : brokenNotice slot r .reset ∈ (warmReset s).cpt.notices := by
  have hcpt : (warmReset s).cpt = (afterResetBreaks s).cpt := by rw [warmReset_blocks]
  rw [hcpt]
  exact (broke_warm s).told (room_warm s) slot (List.mem_finRange slot) r ((statement_beforeResetBreaks s slot).trans hr)
    hflight hopen

/-- With no request of the BNM waiting, the RESET breaks find the ranges of `s`. -/
theorem spoil_beforeResetBreaks (h : s.requests.bins = []) (d : Bin) :
    ((beforeResetBreaks s).bin d).spoil = (s.bin d).spoil := by
  have hbins : (warmPort s).requests.bins = [] := by rw [warmPort_eq]; exact h
  rw [bin_beforeResetBreaks, afterBins, hbins, List.foldl_nil, bin_beforeBins]

theorem spoil_warmReset_same (h : s.requests.bins = []) {d : Bin}
    (hidle : ∀ slot r, s.statement slot = some r → r.bin = some d → r.inFlight = 0) :
    ((warmReset s).bin d).spoil = (s.bin d).spoil.map SpoilRange.closed := by
  rw [spoil_warmReset, (broke_warm s).spoil d, spoil_beforeResetBreaks s h]
  intro j _ r hr
  exact hidle j r ((statement_beforeResetBreaks s j).symm.trans hr)

theorem range_warmReset (h : s.requests.bins = []) {slot : Slot} {r : Statement} {b : Bin} {first last : Nat}
    (hr : s.statement slot = some r) (hflight : r.inFlight ≠ 0) (hopen : r.state.ended = false) (hbin : r.bin = some b)
    (hdelivered : 0 < r.delivered) (hfirst : r.firstPos = some first) (hlast : r.lastPos = some last)
    (hnone : openRange (s.bin b) r.ident = none) :
    { first, last, ident := r.ident, isOpen := false } ∈ ((warmReset s).bin b).spoil := by
  have hnone' : openRange ((beforeResetBreaks s).bin b) r.ident = none := by
    rwa [openRange, spoil_beforeResetBreaks s h]
  rw [spoil_warmReset]
  refine List.mem_map.2 ⟨_, (broke_warm s).range slot (List.mem_finRange slot) r b first last
    ((statement_beforeResetBreaks s slot).trans hr) hflight hopen hbin hdelivered hfirst hlast hnone', rfl⟩

theorem closed_warmReset {d : Bin} {g : SpoilRange} (h : g ∈ ((warmReset s).bin d).spoil) : g.isOpen = false := by
  rw [spoil_warmReset] at h
  obtain ⟨k, -, rfl⟩ := List.mem_map.1 h
  rfl

theorem mem_stacking_warmReset (d : Bin) (o : Owner) : o ∈ ((warmReset s).bin d).stacking ↔ o ∈ (s.bin d).stacking ∧
    (∀ ident, BinRequest.closing d o.slot o.generation ident ∉ s.requests.bins) ∧
    (∀ r, s.statement o.slot = some r → r.generation = o.generation → r.bin = some d → r.inFlight = 0) := by
  have hleaves : s.requests.bins.all (BinRequest.leaves d o) = true ↔
      ∀ ident, BinRequest.closing d o.slot o.generation ident ∉ s.requests.bins := by
    rw [List.all_eq_true]
    constructor
    · intro h ident hmem
      have := h _ hmem
      simp [BinRequest.leaves] at this
    · intro h q hq
      cases q with
      | opening => rfl
      | closing b slot generation ident =>
        simp only [BinRequest.leaves, Bool.not_eq_true', decide_eq_false_iff_not]
        rintro ⟨rfl, rfl, rfl⟩
        exact h ident hq
  rw [stacking_warmReset, List.mem_filter, List.mem_filter, hleaves, and_assoc]
  simp only [Option.all_eq_true, decide_eq_true_eq]

theorem sublist_warmReset (d : Bin) : ((warmReset s).bin d).stacking.Sublist (s.bin d).stacking := by
  rw [stacking_warmReset]
  exact List.filter_sublist.trans List.filter_sublist

/-! ### Roles and states -/

/-- The units' own comparison: the profile stands as it was before they are written. -/
theorem profile_afterResetBreaks : (closeRanges (afterResetBreaks s)).profile = s.profile := by
  rw [(closeRanges_frame _).2.2.2.2.2.2.2.2.2.1, (broke_warm s).blocks, beforeResetBreaks, clearMotion_eq, warmPort_eq]

theorem lines_afterResetBreaks : (closeRanges (afterResetBreaks s)).lines = s.lines := by
  rw [(closeRanges_frame _).2.2.2.2.2.2.2.2.2.2.2.1, (broke_warm s).blocks, beforeResetBreaks, clearMotion_eq,
    warmPort_eq]

theorem bin_warmReset_same {d : Bin}
    (h : (d ≠ .b3 ∧ d ≠ .b4) ∨ s.profile.fitted.fourBins = s.profile.enabled.fourBins) :
    ((warmReset s).bin d).role = (s.bin d).role ∧ ((warmReset s).bin d).state = ((afterResetBreaks s).bin d).state := by
  have hbin : (warmReset s).bin d = (closeRanges (afterResetBreaks s)).bin d := by
    rw [warmReset_eq]
    rcases h with hother | hsame
    · exact bin_writeUnits_other hother
    · exact bin_writeUnits_same (by rw [profile_afterResetBreaks, hsame]) d
  rw [hbin, closeRanges_bin]
  exact ⟨role_afterResetBreaks s d, rfl⟩

theorem bin_warmReset_changed {d : Bin} (h : d = .b3 ∨ d = .b4)
    (hchanged : s.profile.fitted.fourBins ≠ s.profile.enabled.fourBins) :
    ((warmReset s).bin d).role =
      (if s.profile.fitted.fourBins then (if d = .b3 then .standard else .oversize) else .off) ∧
    ((warmReset s).bin d).state = if s.profile.fitted.fourBins = false then .off
      else if (s.bin d).role = .off then (if s.lines.doors[d.idx] then .doorOpen else .check)
      else ((afterResetBreaks s).bin d).state := by
  have hprofile := profile_afterResetBreaks s
  have hlines := lines_afterResetBreaks s
  have hrole : ((closeRanges (afterResetBreaks s)).bin d).role = (s.bin d).role := by
    rw [closeRanges_bin]
    exact role_afterResetBreaks s d
  have hstate : ((closeRanges (afterResetBreaks s)).bin d).state = ((afterResetBreaks s).bin d).state := by
    rw [closeRanges_bin]
  rw [warmReset_eq]
  generalize closeRanges (afterResetBreaks s) = u at hprofile hlines hrole hstate ⊢
  rw [bin_writeUnits_changed h (by rwa [hprofile]), ← hrole, ← hstate, ← hlines]
  exact ⟨rfl, rfl⟩

end warm

/-- A WARM RESET ends STOPPED, with no claim left: the step is its effect. -/
theorem exec_warmReset {s : State} (hport : PortHolds s []) :
    exec .warmReset s = .next ((warmReset s).answer (.ok, [])) := by
  have hstate : (warmReset s).tsv.state = .stopped := by rw [warmReset_blocks, Transport.atReset]
  have hnew : (warmReset s).adm.newHold = .transport := by rw [warmReset_blocks, Admission.atReset]
  have hrestart : (warmReset s).adm.restartHold = .transport := by rw [warmReset_blocks, Admission.atReset]
  have hsuspects : (warmReset s).adm.suspects = [] := by rw [warmReset_blocks, Admission.atReset]
  have hretires : (warmReset s).requests.retires = [] := by rw [warmReset_blocks, onlyBreaks, Requests.empty]
  have htaken : s.command 0 takeWarmReset = (warmReset s).answer (.ok, []) := by
    rw [command_taken (n := 0) takeWarmReset hport rfl, takeWarmReset]
  have hexec : exec .warmReset s = finish s (s.command 0 takeWarmReset) := rfl
  rw [hexec, htaken]
  generalize warmReset s = t at hstate hnew hrestart hsuspects hretires ⊢
  exact finish_stopped (s := t.answer (.ok, [])) hstate hnew hrestart hretires hsuspects s

/-- The roles and states of the bins after the units (R180). -/
theorem roles_warmReset (s : State) (b : Bin) : ((warmReset s).bin b).role =
    if (b = .b3 ∨ b = .b4) ∧ s.profile.fitted.fourBins ≠ s.profile.enabled.fourBins then
      (if s.profile.fitted.fourBins then (if b = .b3 then .standard else .oversize) else .off)
    else (s.bin b).role := by
  split
  case isTrue h => exact (bin_warmReset_changed s h.1 h.2).1
  case isFalse h => 
    refine (bin_warmReset_same s ?_).1
    by_cases hb : b = .b3 ∨ b = .b4
    · exact .inr (Classical.byContradiction fun hne => h ⟨hb, hne⟩)
    · exact .inl (not_or.1 hb)

theorem states_warmReset (s : State) {b : Bin}
    (h : (b ≠ .b3 ∧ b ≠ .b4) ∨ s.profile.fitted.fourBins = s.profile.enabled.fourBins) :
    ((s.bin b).state ≠ .ready → ((warmReset s).bin b).state = (s.bin b).state) ∧
      ((s.bin b).state = .ready → ((warmReset s).bin b).state = .ready ∨ ((warmReset s).bin b).state = .fenced) := by
  obtain ⟨-, hstate⟩ := bin_warmReset_same s h
  rw [hstate]
  rcases state_afterResetBreaks s b with hsame | ⟨hready, hfenced⟩
  · rw [hsame]
    exact ⟨fun _ => rfl, .inl⟩
  · exact ⟨fun hnot => absurd hready hnot, fun _ => .inr hfenced⟩

theorem fourBinStates_warmReset (s : State) {b : Bin} (h : b = .b3 ∨ b = .b4)
    (hchanged : s.profile.fitted.fourBins ≠ s.profile.enabled.fourBins) :
    (s.profile.fitted.fourBins = false → ((warmReset s).bin b).state = .off) ∧
      (s.profile.fitted.fourBins = true → (s.bin b).role = .off →
        ((warmReset s).bin b).state = if s.lines.doors[b.idx] then .doorOpen else .check) := by
  obtain ⟨-, hstate⟩ := bin_warmReset_changed s h hchanged
  rw [hstate]
  exact ⟨fun hoff => if_pos hoff, fun hon hrole => (if_neg (by simp [hon])).trans (if_pos hrole)⟩

theorem sensor_all_getD (x : Sensor) : Sensor.all[x.idx.val]?.getD .f1 = x := by
  cases x <;> rfl

/-- Settles O4: the blocks as the reset writes them, the requests that waited, the RESET breaks and the units. -/
theorem warmResetClearsPaperInMotion : Obligations.WarmResetClearsPaperInMotion := by
  intro s hport
  refine ⟨_, exec_warmReset hport, ?_⟩
  have hblocks := warmReset_blocks s
  have hstatement := statement_warmReset s
  have htold := fun slot r => told_warmReset s (slot := slot) (r := r)
  have hopenings := openings_warmReset s
  have hqueue := queue_warmReset s
  have hstacking := fun b => And.intro (sublist_warmReset s b) (mem_stacking_warmReset s b)
  have hclosed := fun b g => closed_warmReset s (d := b) (g := g)
  have hspoil := fun h b => spoil_warmReset_same s h (d := b)
  have hrange := fun h b slot r first last => range_warmReset s h (slot := slot) (r := r) (b := b) (first := first)
    (last := last)
  have hkept := kept_warmReset s
  have hpointer := pointer_warmReset s
  have hroles := roles_warmReset s
  have hfour := fun b => fourBinStates_warmReset s (b := b)
  have hstates := fun b => states_warmReset s (b := b)
  have hcpt := cpt_warmReset s
  obtain ⟨later, hnotices⟩ := notices_warmReset s
  generalize warmReset s = t at hblocks hstatement htold hopenings hqueue hstacking hclosed hspoil hrange hkept hpointer hroles hfour hstates hcpt hnotices ⊢
  refine ⟨fun tag => ?_, hstatement, htold, fun slot => congrArg (fun v : Vector Word 16 => v[slot]) hopenings, hqueue,
    hstacking, hclosed, fun h b => ⟨hspoil h b, fun slot r first last => hrange h b slot r first last⟩, ?_, hkept, hpointer,
    hroles, hfour, hstates, ?_⟩
  · change t.sheets[tag] = none
    rw [hblocks]
    exact Vector.getElem_replicate _
  · change t.requests = onlyBreaks s.requests
    rw [hblocks]
  · clear hstatement htold hopenings hqueue hstacking hclosed hspoil hrange hkept hpointer hroles hfour hstates
    generalize t.bnm = bins at hblocks
    generalize afterResetBreaks s = u at hblocks
    subst hblocks
    have hcpt' : u.cpt = { s.cpt with
      notices := u.cpt.notices, noticeBuffer := [], callBuffer := [], noticeLost := false, select := 0 } := hcpt
    have hnotices' : u.cpt.notices = .reset .warm :: later := hnotices.symm
    refine ⟨fun tray => rfl, rfl, rfl, rfl, rfl, rfl, rfl, rfl, rfl, rfl, rfl, rfl, rfl,
      fun x => ⟨Vector.getElem_replicate _, ?_, Vector.getElem_replicate _⟩, rfl, rfl, rfl, rfl, rfl, rfl, rfl, rfl,
      fun g => Vector.getElem_replicate _, rfl, rfl, rfl, rfl, rfl, rfl, rfl, rfl, rfl, rfl, rfl, rfl, rfl, rfl, rfl,
      congrArg List.head? hnotices', congrArg Port.noticeLost hcpt', congrArg Port.select hcpt',
      congrArg Port.noticeBuffer hcpt', congrArg Port.callBuffer hcpt', rfl, rfl⟩
    exact (Vector.getElem_ofFn _).trans (congrArg s.lineCovered (sensor_all_getD x))

end Sys2Proof.Machine
end

section
/-! SUPPORT. Backup base takeover: what an expiry keeps (O49, R170). -/

namespace Sys2Proof.Machine

set_option Elab.async false

/-- No record is PICKING. -/
def State.pickless (s : State) : Prop := ∀ tag r, s.sheet tag = some r → r.state ≠ .picking

/-- What the expiries of a takeover keep: a record in PICKING may be withdrawn, every other keeps its state; the faults
stay; and where no record is PICKING, only the path and the pitches change. -/
structure Expired (s t : State) : Prop where
  sheets : ∀ tag, (t.sheet tag = none ∧ ∀ r, s.sheet tag = some r → r.state = .picking) ∨
    ∃ r q, s.sheet tag = some r ∧ t.sheet tag = some q ∧ q.state = r.state ∧ q.runOut = r.runOut
  halted : t.tsq.halted = s.tsq.halted
  debounce : t.ptk.debounce = s.ptk.debounce
  frozen : t.ptk.frozen = s.ptk.frozen
  tsv : t.tsv = s.tsv
  faults : s.requests.faults ⊆ t.requests.faults
  idle : s.pickless → t.stu = s.stu ∧ t.bnm = s.bnm ∧ t.adm.newQueue = s.adm.newQueue ∧
    t.adm.restartQueue = s.adm.restartQueue ∧ s.requests.breaks ⊆ t.requests.breaks

namespace Expired
variable {s t u : State}

theorem refl (s : State) : Expired s s where
  sheets tag := by
    cases h : s.sheet tag with
    | none => exact .inl ⟨rfl, by simp⟩
    | some r => exact .inr ⟨r, r, rfl, rfl, rfl, rfl⟩
  halted := rfl
  debounce := rfl
  frozen := rfl
  tsv := rfl
  faults _ h := h
  idle _ := ⟨rfl, rfl, rfl, rfl, fun _ h => h⟩

/-- No record comes to PICKING. -/
theorem pickless (h : Expired s t) (hs : s.pickless) : t.pickless := by
  intro tag q hq hpicking
  rcases h.sheets tag with ⟨hnone, -⟩ | ⟨r, q', hr, hq', hstate, -⟩
  · simp [hnone] at hq
  · obtain rfl := Option.some.inj (hq'.symm.trans hq)
    exact hs tag r hr (hstate.symm.trans hpicking)

theorem trans (h : Expired s t) (k : Expired t u) : Expired s u where
  sheets tag := by
    rcases h.sheets tag with ⟨hnone, hpicking⟩ | ⟨r, q, hr, hq, hstate, hrun⟩
    · refine .inl ⟨?_, hpicking⟩
      rcases k.sheets tag with ⟨hnone', -⟩ | ⟨r', -, hr', -⟩
      · exact hnone'
      · exact absurd (hnone.symm.trans hr') (by simp)
    · rcases k.sheets tag with ⟨hnone, hpicking⟩ | ⟨r', q', hr', hq', hstate', hrun'⟩
      · refine .inl ⟨hnone, fun p hp => ?_⟩
        obtain rfl := Option.some.inj (hr.symm.trans hp)
        exact hstate.symm.trans (hpicking q hq)
      · obtain rfl := Option.some.inj (hq.symm.trans hr')
        exact .inr ⟨r, q', hr, hq', hstate'.trans hstate, hrun'.trans hrun⟩
  halted := k.halted.trans h.halted
  debounce := k.debounce.trans h.debounce
  frozen := k.frozen.trans h.frozen
  tsv := k.tsv.trans h.tsv
  faults := fun _ hf => k.faults (h.faults hf)
  idle hs := by
    obtain ⟨h1, h2, h3, h4, h5⟩ := h.idle hs
    obtain ⟨k1, k2, k3, k4, k5⟩ := k.idle (h.pickless hs)
    exact ⟨k1.trans h1, k2.trans h2, k3.trans h3, k4.trans h4, fun _ hq => k5 (h5 hq)⟩

theorem foldl {α : Type} {g : State → α → State} (hg : ∀ u a, Expired u (g u a)) (l : List α) (s : State) :
    Expired s (l.foldl g s) :=
  foldl_induction (P := Expired s) (.refl s) fun u a _ hu => hu.trans (hg u a)

/-- A step that writes neither the sheets nor what an expiry reads. -/
theorem of_same (hsheets : t.sheets = s.sheets) (hhalted : t.tsq.halted = s.tsq.halted)
    (hdebounce : t.ptk.debounce = s.ptk.debounce) (hfrozen : t.ptk.frozen = s.ptk.frozen) (htsv : t.tsv = s.tsv)
    (hfaults : s.requests.faults ⊆ t.requests.faults) (hstu : t.stu = s.stu) (hbnm : t.bnm = s.bnm)
    (hnew : t.adm.newQueue = s.adm.newQueue) (hrestart : t.adm.restartQueue = s.adm.restartQueue)
    (hbreaks : s.requests.breaks ⊆ t.requests.breaks) : Expired s t where
  sheets tag := by
    rw [sheet_of_eq hsheets]
    exact (refl s).sheets tag
  halted := hhalted
  debounce := hdebounce
  frozen := hfrozen
  tsv := htsv
  faults := hfaults
  idle _ := ⟨hstu, hbnm, hnew, hrestart, hbreaks⟩

theorem now (h : Expired s t) : t.now = s.now := by
  unfold State.now
  rw [h.tsv]

theorem tracking (h : Expired s t) : t.tracking = s.tracking := by
  unfold State.tracking State.drivesRun
  rw [h.tsv, h.frozen]

theorem debouncing (h : Expired s t) (x : Sensor) : t.debouncing x = s.debouncing x := by
  unfold State.debouncing
  rw [h.debounce]

/-- A record that is not PICKING is tracked as it was. -/
theorem tracks (h : Expired s t) {tag : Tag} {r : Sheet} (hr : s.sheet tag = some r) (hstate : r.state ≠ .picking) :
    t.tracks tag = s.tracks tag := by
  have hrun : t.isRunOut tag = s.isRunOut tag := by
    rcases h.sheets tag with ⟨-, hpicking⟩ | ⟨r', q, hr', hq, -, hrun⟩
    · exact absurd (hpicking r hr) hstate
    · simp [State.isRunOut, hr', hq, hrun]
  unfold State.tracks
  rw [h.tracking, h.tsv, hrun]

end Expired

/-! ## The steps of an expiry -/

theorem expired_handFault (s : State) (cause : JamCause) (x : Sensor) (tag : Option Tag) :
    Expired s (s.handFault cause x tag) :=
  .of_same rfl rfl rfl rfl rfl (List.subset_append_left _ _) rfl rfl rfl rfl fun _ h => h

theorem expired_dropEntry (s : State) (x : Sensor) (e : Expectation) : Expired s (dropEntry s x e) :=
  .of_same rfl rfl rfl rfl rfl (fun _ h => h) rfl rfl rfl rfl fun _ h => h

theorem expired_setPickLine (s : State) (y : Tray) (asserted : Bool) : Expired s (s.setPickLine y asserted) :=
  .of_same rfl rfl rfl rfl rfl (fun _ h => h) rfl rfl rfl rfl fun _ h => h

/-- A record written with its state and run-out mark kept. -/
theorem expired_setSheet {s : State} {tag : Tag} {r q : Sheet} (hr : s.sheet tag = some r) (hstate : q.state = r.state)
    (hrun : q.runOut = r.runOut) : Expired s (s.setSheet tag (some q)) where
  sheets tag' := by
    rw [State.sheet_setSheet]
    split
    case isTrue h =>
      subst h
      exact .inr ⟨r, q, hr, rfl, hstate, hrun⟩
    case isFalse => exact (Expired.refl s).sheets tag'
  halted := rfl
  debounce := rfl
  frozen := rfl
  tsv := rfl
  faults _ h := h
  idle _ := ⟨rfl, rfl, rfl, rfl, fun _ h => h⟩

theorem expired_expireTrailOf (s : State) (tag : Tag) : Expired s (expireTrailOf s tag) := by
  unfold expireTrailOf
  split
  · exact .refl s
  case h_2 r hr =>
    split
    · exact .refl s
    case h_2 w _ =>
      split
      · exact (expired_setSheet (q := { r with trail := some { w with expired := true } }) hr rfl rfl).trans
          (expired_handFault _ _ _ _)
      · exact .refl s

theorem expired_expireReleaseWindow (s : State) : Expired s (expireReleaseWindow s) := by
  unfold expireReleaseWindow
  split
  · exact .refl s
  · split
    · exact .of_same rfl rfl rfl rfl rfl (List.subset_append_left _ _) rfl rfl rfl rfl fun _ h => h
    · exact .refl s

/-- A missed pitch keeps the state, the trail and the run-out mark of its record. -/
theorem missPitch_keeps_path (s : State) (p : Pitch) (reason : MissReason) (tag : Tag) :
    (s.sheet tag = none ∧ (missPitch s p reason).sheet tag = none) ∨ ∃ r q, s.sheet tag = some r ∧
      (missPitch s p reason).sheet tag = some q ∧ q.state = r.state ∧ q.runOut = r.runOut ∧ q.trail = r.trail := by
  rw [sheet_missPitch]
  cases hr : s.sheet tag with
  | none => exact .inl ⟨rfl, rfl⟩
  | some r =>
    refine .inr ⟨r, _, rfl, rfl, ?_⟩
    dsimp only
    by_cases ho : tag = p.tag ∧ r.slot = p.slot ∧ r.generation = p.generation
    · rw [if_pos ho]
      cases p.side <;> exact ⟨rfl, rfl, rfl⟩
    · rw [if_neg ho]
      exact ⟨rfl, rfl, rfl⟩

theorem expired_missPitch (s : State) (p : Pitch) (reason : MissReason) : Expired s (missPitch s p reason) where
  sheets tag := by
    rcases missPitch_keeps_path s p reason tag with ⟨hr, hq⟩ | ⟨r, q, hr, hq, hstate, hrun, -⟩
    · exact .inl ⟨hq, by simp [hr]⟩
    · exact .inr ⟨r, q, hr, hq, hstate, hrun⟩
  halted := by
    rw [missPitch_tsq]
  debounce := by simp
  frozen := by simp
  tsv := by simp
  faults := by rw [requests_missPitch]; exact fun _ h => h
  idle _ := by
    refine ⟨by simp, by simp, by simp, by simp, ?_⟩
    rw [requests_missPitch]
    exact List.subset_append_left _ _

theorem expired_expireDeadline (s : State) (tag : Tag) : Expired s (expireDeadline s tag) := by
  unfold expireDeadline
  split
  · exact .refl s
  · split
    · exact expired_missPitch s _ _
    · exact .refl s

/-! ## The misfeed -/

/-- The withdrawal of a pitch reads the sequence alone. -/
theorem withdrawPitch_tsq {s u : State} (h : u.tsq = s.tsq) (tag : Tag) :
    (withdrawPitch u tag).tsq = (withdrawPitch s tag).tsq := by
  have hpitch : u.pitchOf tag = s.pitchOf tag := by rw [State.pitchOf, State.pitchOf, h]
  have htsq : ∀ v : State, (withdrawPitch v tag).tsq =
      if (v.pitchOf tag).isSome then (v.removePitch tag).tsq else v.tsq := fun v => by
    unfold withdrawPitch
    cases v.pitchOf tag <;> simp
  have hleft : (u.removePitch tag).tsq = (s.removePitch tag).tsq := by
    simp only [State.removePitch, State.setPitches, h]
  rw [htsq, htsq, hpitch, h, hleft]

theorem faults_reportWithdrawal (s : State) (slot : Slot) (generation : Nat) :
    (reportWithdrawal s slot generation).1.requests.faults = s.requests.faults := by
  unfold reportWithdrawal
  split
  · rfl
  · rw [faults_closeIfClear]
    simp

/-- A misfeed withdraws a record in PICKING with its pitch, or leaves the sheets and the pitches. -/
theorem misfeed_cases (s : State) (tag : Tag) :
    ((misfeed s tag).tsq = s.tsq ∧ Expired s (misfeed s tag) ∧ (misfeed s tag).sheets = s.sheets) ∨
    ∃ r, s.sheet tag = some r ∧ r.state = .picking ∧ (misfeed s tag).tsq = (withdrawPitch s tag).tsq ∧
      (misfeed s tag).sheets = s.sheets.set tag none ∧ (misfeed s tag).requests.faults = s.requests.faults := by
  unfold misfeed
  split
  · exact .inl ⟨rfl, .refl s, rfl⟩
  case h_2 p hp =>
    split
    · exact .inl ⟨rfl, .refl s, rfl⟩
    · dsimp only
      split
      · exact .inl ⟨rfl, expired_setPickLine s _ _, rfl⟩
      case h_2 r hr =>
        split
        · exact .inl ⟨rfl, expired_setPickLine s _ _, rfl⟩
        case isFalse hpicking =>
          obtain ⟨hr, -⟩ := Option.filter_eq_some_iff.1 hr
          refine .inr ⟨r, hr, Classical.not_not.1 hpicking, ?_⟩
          have hblanked : ∀ u : State, (if r.front = .missed then takeBreaksOf u r.slot r.generation .blank else u) =
              blanked u r := fun _ => rfl
          rw [hblanked]
          generalize hv : release (withdrawPitch (retire (s.setPickLine p.entry.tray false) tag) tag) r.target = v
          obtain ⟨hsheets, -, htsq, -, -, -, -, -, -, hfaults⟩ := blanked_frame v r
          have hlast : ∀ (u : State) answer, (requeue u p r answer).tsq = u.tsq ∧ (requeue u p r answer).sheets = u.sheets ∧
              (requeue u p r answer).requests = u.requests := fun u answer => by simp
          obtain ⟨hlast1, hlast2, hlast3⟩ := hlast (reportWithdrawal (blanked v r) r.slot r.generation).1
            (reportWithdrawal (blanked v r) r.slot r.generation).2
          refine ⟨hlast1.trans ?_, hlast2.trans ?_, (congrArg Requests.faults hlast3).trans ?_⟩
          · have hreport : (reportWithdrawal (blanked v r) r.slot r.generation).1.tsq = (blanked v r).tsq := by simp
            rw [hreport, htsq, ← hv]
            exact withdrawPitch_tsq (s := s) (u := retire (s.setPickLine p.entry.tray false) tag) rfl tag
          · have hreport : (reportWithdrawal (blanked v r) r.slot r.generation).1.sheets = (blanked v r).sheets := by simp
            rw [hreport, hsheets, ← hv]
            simp [retire_eq]
          · rw [faults_reportWithdrawal, hfaults, ← hv]
            simp [retire_eq]

/-- What a misfeed keeps. -/
theorem expired_misfeed (s : State) (tag : Tag) : Expired s (misfeed s tag) := by
  rcases misfeed_cases s tag with ⟨-, h, -⟩ | ⟨r, hr, hpicking, htsq, hsheets, hfaults⟩
  · exact h
  · refine
      { sheets := fun tag' => ?_
        halted := ?_
        debounce := by simp
        frozen := by simp
        tsv := by simp
        faults := by rw [hfaults]; exact fun _ h => h
        idle := fun hs => absurd hpicking (hs tag r hr) }
    · rw [sheet_of_eq (s := s.setSheet tag none) hsheets, State.sheet_setSheet]
      split
      case isTrue h =>
        subst h
        refine .inl ⟨rfl, fun r' hr' => ?_⟩
        rwa [← Option.some.inj (hr.symm.trans hr')]
      case isFalse => exact (Expired.refl s).sheets tag'
    · rw [htsq, withdrawPitch]
      split
      · rfl
      · rw [State.notify_tsq]
        rfl

theorem expired_expireEntry (s : State) (x : Sensor) (e : Expectation) : Expired s (expireEntry s x e) := by
  unfold expireEntry
  dsimp only
  split
  · exact (expired_dropEntry s x e).trans (expired_misfeed _ _)
  · exact (expired_dropEntry s x e).trans (expired_handFault _ _ _ _)

theorem expired_takeExpiry (s : State) (k : Expiry) : Expired s (takeExpiry s k) := by
  cases k with
  | lead x e =>
    change Expired s (if _ then _ else _)
    split
    · exact expired_expireEntry s x e
    · exact .refl s
  | trail tag => exact expired_expireTrailOf s tag
  | release => exact expired_expireReleaseWindow s
  | deadline tag => exact expired_expireDeadline s tag

end Sys2Proof.Machine
end

section
/-! SUPPORT. Backup base takeover: what the expiries of a list do to a window and to a pitch (O49, R170). -/

namespace Sys2Proof.Machine

set_option Elab.async false

/-- Expiries taken in order. -/
def takeAll (l : List Expiry) (s : State) : State := l.foldl takeExpiry s

theorem expired_takeAll (l : List Expiry) (s : State) : Expired s (takeAll l s) := .foldl expired_takeExpiry l s

/-- A value that each expiry of a kind changes in one way, once for all, is changed by a list that holds one. -/
theorem takeAll_settles {α : Type} {f : State → α} {E : α → α} {hit : Expiry → Bool} {P : State → Prop}
    (hidem : ∀ a, E (E a) = E a) (hkept : ∀ u k, P u → P (takeExpiry u k))
    (hstep : ∀ u k, P u → f (takeExpiry u k) = if hit k then E (f u) else f u) :
    ∀ (l : List Expiry) {s : State}, P s → f (takeAll l s) = if l.any hit then E (f s) else f s
  | [], s, _ => by simp [takeAll]
  | k :: l, s, hs => by
    have hrest := takeAll_settles hidem hkept hstep l (hkept s k hs)
    change f (takeAll l (takeExpiry s k)) = _
    rw [hrest, hstep s k hs]
    cases hk : hit k
    · simp [hk]
    · simp [hk, hidem]

/-! ## Lists -/

section lists
variable {s : State} {x y : Sensor} {e : Expectation}

/-- The entry of a list expires now. -/
def leadDue (s : State) (x : Sensor) (e : Expectation) : Prop :=
  e ∈ s.watched x ∧ (s.debouncing x).isNone = true ∧ reaches s.now e.closes = true

theorem takeExpiry_lead_due (h : leadDue s x e) : takeExpiry s (.lead x e) = expireEntry s x e := if_pos h

theorem takeExpiry_lead_idle (h : ¬leadDue s x e) : takeExpiry s (.lead x e) = s := if_neg h

theorem list_expireEntry (s : State) (x y : Sensor) (e : Expectation) :
    (expireEntry s x e).list y = if x = y then (s.list x).erase e else s.list y := by
  unfold expireEntry
  dsimp only
  split
  · rw [list_of_eq (s := dropEntry s x e) (by simp), list_dropEntry]
  · exact list_dropEntry s x y e

/-- An expiry takes one entry out of the list of its sensor. -/
theorem list_takeExpiry (s : State) (k : Expiry) (y : Sensor) : (takeExpiry s k).list y = s.list y ∨
    ∃ e, k = .lead y e ∧ leadDue s y e ∧ (takeExpiry s k).list y = (s.list y).erase e := by
  cases k with
  | lead x e =>
    by_cases hdue : leadDue s x e
    · rw [takeExpiry_lead_due hdue, list_expireEntry]
      split
      case isTrue h =>
        subst h
        exact .inr ⟨e, rfl, hdue, rfl⟩
      case isFalse => exact .inl rfl
    · rw [takeExpiry_lead_idle hdue]
      exact .inl rfl
  | trail tag => exact .inl (list_of_eq (by simp [takeExpiry]) y)
  | release =>
    refine .inl (list_of_eq ?_ y)
    change (expireReleaseWindow s).ptk.lists = s.ptk.lists
    unfold expireReleaseWindow
    split
    · rfl
    · split <;> rfl
  | deadline tag => exact .inl (list_of_eq (by simp [takeExpiry]) y)

theorem sublist_takeExpiry (s : State) (k : Expiry) (y : Sensor) : ((takeExpiry s k).list y).Sublist (s.list y) := by
  rcases list_takeExpiry s k y with h | ⟨e, -, -, h⟩
  · exact Eq.symm h ▸ List.Sublist.refl (s.list y)
  · rw [h]
    exact List.erase_sublist

theorem sublist_takeAll (l : List Expiry) (s : State) (y : Sensor) : ((takeAll l s).list y).Sublist (s.list y) :=
  foldl_induction (P := fun u : State => (u.list y).Sublist (s.list y)) (List.Sublist.refl _) fun u k _ hu =>
    (sublist_takeExpiry u k y).trans hu

/-- A list none of whose windows closes stays. -/
theorem list_takeAll_same (h : (∀ e ∈ s.list y, reaches s.now e.closes = false) ∨ s.debouncing y ≠ none)
    (l : List Expiry) : (takeAll l s).list y = s.list y := by
  refine (foldl_induction (P := fun u : State => Expired s u ∧ u.list y = s.list y) ⟨.refl s, rfl⟩ fun u k _ hu => ?_).2
  obtain ⟨hexpired, hlist⟩ := hu
  refine ⟨hexpired.trans (expired_takeExpiry u k), ?_⟩
  rcases list_takeExpiry u k y with hsame | ⟨e, -, ⟨hwatched, hclear, hreach⟩, -⟩
  · exact hsame.trans hlist
  · have hmem : e ∈ s.list y := hlist ▸ (List.mem_filter.1 hwatched).1
    rcases h with hopen | hdebounce
    · rw [hexpired.now, hopen e hmem] at hreach
      exact absurd hreach (by simp)
    · rw [hexpired.debouncing] at hclear
      exact absurd (Option.isNone_iff_eq_none.1 hclear) hdebounce

/-- An entry whose window closes leaves its list as often as it stands in the list of the expiries. -/
theorem not_mem_takeAll (htracking : s.tracking = true) (hclear : s.debouncing y = none)
    (hreach : reaches s.now e.closes = true) (l : List Expiry) (hcount : (s.list y).count e ≤ l.count (.lead y e)) :
    e ∉ (takeAll l s).list y := by
  induction l generalizing s with
  | nil =>
    have : (s.list y).count e = 0 := by simpa using hcount
    exact List.count_eq_zero.1 this
  | cons k l ih =>
    have hexpired := expired_takeExpiry s k
    refine ih (s := takeExpiry s k) (hexpired.tracking.trans htracking) ((hexpired.debouncing y).trans hclear)
      (by rwa [hexpired.now]) ?_
    have hle := (sublist_takeExpiry s k y).count_le e
    rw [List.count_cons] at hcount
    by_cases hk : k = .lead y e
    · subst hk
      rw [if_pos (by simp)] at hcount
      by_cases hmem : e ∈ s.list y
      · have hdue : leadDue s y e := ⟨by rwa [watched_of_tracking htracking], by simp [hclear], hreach⟩
        rw [takeExpiry_lead_due hdue, list_expireEntry, if_pos rfl, List.count_erase_self]
        omega
      · have hzero := List.count_eq_zero.2 hmem
        omega
    · rw [if_neg (by simpa using hk)] at hcount
      omega

theorem mem_faults_expireEntry (s : State) {x : Sensor} (h : trayOf x = none) (e : Expectation) :
    { cause := .late, sensor := x, tag := some e.tag } ∈ (expireEntry s x e).requests.faults := by
  simp [expireEntry, h, State.handFault]

/-- An entry of a route sensor leaves with its fault. -/
theorem fault_takeAll (hx : trayOf y = none) (he : e ∈ s.list y) (l : List Expiry) (hgone : e ∉ (takeAll l s).list y) :
    { cause := .late, sensor := y, tag := some e.tag } ∈ (takeAll l s).requests.faults := by
  have hinv : e ∈ (takeAll l s).list y ∨
      { cause := .late, sensor := y, tag := some e.tag } ∈ (takeAll l s).requests.faults := by
    refine foldl_induction (P := fun u : State => e ∈ u.list y ∨
      { cause := .late, sensor := y, tag := some e.tag } ∈ u.requests.faults) (.inl he) fun u k _ hu => ?_
    rcases hu with hmem | hfault
    · rcases list_takeExpiry u k y with hsame | ⟨e', rfl, hdue, herase⟩
      · exact .inl (by rwa [hsame])
      · by_cases heq : e = e'
        · subst heq
          rw [takeExpiry_lead_due hdue]
          exact .inr (mem_faults_expireEntry u hx e)
        · rw [herase]
          exact .inl ((List.mem_erase_of_ne heq).2 hmem)
    · exact .inr ((expired_takeExpiry u k).faults hfault)
  exact hinv.resolve_left hgone

end lists

/-! ## Trail windows -/

section trails
variable {s : State} {tag : Tag} {r : Sheet} {w : TrailPending}

/-- The trail window of a tag. -/
def State.trailOf (s : State) (tag : Tag) : Option TrailPending := (s.sheet tag).bind fun r => r.trail

/-- A trail window once it has closed. -/
def TrailPending.expire (w : TrailPending) : TrailPending := { w with expired := true }

/-- The trail window of a tag is watched, and its close is reached. -/
def trailDue (s : State) (tag : Tag) (w : TrailPending) : Bool :=
  s.tracks tag && (s.debouncing w.sensor).isNone && reaches s.now w.closes

theorem trailOf_of_sheets {s u : State} (h : u.sheets = s.sheets) (tag : Tag) : u.trailOf tag = s.trailOf tag := by
  rw [State.trailOf, sheet_of_eq h, State.trailOf]

theorem trailOf_expireTrailOf_self (s : State) (tag : Tag) : (expireTrailOf s tag).trailOf tag =
    (s.trailOf tag).map fun w => if trailDue s tag w then w.expire else w := by
  unfold expireTrailOf
  cases hr : s.sheet tag with
  | none => simp [State.trailOf, hr]
  | some r =>
    dsimp only
    cases hw : r.trail with
    | none => simp [State.trailOf, hr, hw]
    | some w =>
      dsimp only
      split
      case isTrue hdue =>
        obtain ⟨htracks, -, hclear, hreach⟩ := hdue
        have hafter : (expireTrail s tag r w).sheet tag = some { r with trail := some w.expire } :=
          (State.sheet_setSheet s tag tag _).trans (if_pos rfl)
        simp [State.trailOf, hr, hw, hafter, trailDue, htracks, Option.isNone_iff_eq_none.1 hclear, hreach]
      case isFalse hidle =>
        have hsame : (if trailDue s tag w = true then w.expire else w) = w := by
          split
          case isTrue hdue =>
            simp only [trailDue, Bool.and_eq_true] at hdue
            obtain ⟨⟨htracks, hclear⟩, hreach⟩ := hdue
            have hexpired : w.expired = true := by
              refine Classical.byContradiction fun hnot => ?_
              exact hidle ⟨htracks, by simp [hnot], hclear, hreach⟩
            cases w
            cases hexpired
            rfl
          case isFalse => rfl
        simp [State.trailOf, hr, hw, hsame]

theorem sheet_expireTrailOf_other {t : Tag} (h : t ≠ tag) : (expireTrailOf s t).sheet tag = s.sheet tag := by
  unfold expireTrailOf
  split
  · rfl
  · split
    · rfl
    · split
      · exact (State.sheet_setSheet s t tag _).trans (if_neg h)
      · rfl

/-- A misfeed leaves the record of a tag that is not PICKING. -/
theorem sheet_misfeed (h : ∀ r, s.sheet tag = some r → r.state ≠ .picking) (t : Tag) :
    (misfeed s t).sheet tag = s.sheet tag := by
  rcases misfeed_cases s t with ⟨-, -, hsheets⟩ | ⟨r, hr, hpicking, -, hsheets, -⟩
  · exact sheet_of_eq hsheets tag
  · rw [sheet_of_eq (s := s.setSheet t none) hsheets, State.sheet_setSheet, if_neg]
    rintro rfl
    exact h r hr hpicking

theorem sheet_expireEntry (h : ∀ r, s.sheet tag = some r → r.state ≠ .picking) (x : Sensor) (e : Expectation) :
    (expireEntry s x e).sheet tag = s.sheet tag := by
  unfold expireEntry
  dsimp only
  split
  · exact sheet_misfeed (s := dropEntry s x e) h e.tag
  · rfl

/-- The other expiries leave the trail window of a record that is not PICKING. -/
theorem trailOf_takeExpiry_other (h : ∀ r, s.sheet tag = some r → r.state ≠ .picking) {k : Expiry} (hk : k ≠ .trail tag) :
    (takeExpiry s k).trailOf tag = s.trailOf tag := by
  cases k with
  | lead x e =>
    by_cases hdue : leadDue s x e
    · rw [takeExpiry_lead_due hdue, State.trailOf, sheet_expireEntry h, State.trailOf]
    · rw [takeExpiry_lead_idle hdue]
  | trail t =>
    change (expireTrailOf s t).trailOf tag = _
    rw [State.trailOf, sheet_expireTrailOf_other fun heq => hk (congrArg Expiry.trail heq), State.trailOf]
  | release => exact trailOf_of_sheets (by simp [takeExpiry]) tag
  | deadline t =>
    change (expireDeadline s t).trailOf tag = _
    unfold expireDeadline
    split
    · rfl
    case h_2 p _ =>
      split
      · rcases missPitch_keeps_path s p .deadline tag with ⟨hr, hq⟩ | ⟨r, q, hr, hq, -, -, htrail⟩
        · rw [State.trailOf, State.trailOf, hr, hq]
        · rw [State.trailOf, State.trailOf, hr, hq, Option.bind_some, Option.bind_some, htrail]
      · rfl

theorem Expired.not_picking {u : State} (hexpired : Expired s u) (h : ∀ r, s.sheet tag = some r → r.state ≠ .picking) :
    ∀ r, u.sheet tag = some r → r.state ≠ .picking := by
  intro q hq
  rcases hexpired.sheets tag with ⟨hnone, -⟩ | ⟨r, q', hr, hq', hstate, -⟩
  · simp [hnone] at hq
  · obtain rfl := Option.some.inj (hq'.symm.trans hq)
    rw [hstate]
    exact h r hr

/-- What the expiries make of the trail window of a moving record. -/
theorem trailOf_takeAll (hr : s.sheet tag = some r) (hstate : r.state ≠ .picking) (hw : r.trail = some w)
    (l : List Expiry) : (takeAll l s).trailOf tag =
      some (if (l.contains (.trail tag) && trailDue s tag w) = true then w.expire else w) := by
  have hpicking : ∀ q, s.sheet tag = some q → q.state ≠ .picking := fun q hq => by
    rwa [← Option.some.inj (hr.symm.trans hq)]
  have htrail : s.trailOf tag = some w := by rw [State.trailOf, hr, Option.bind_some, hw]
  have hdue : ∀ u v, Expired s u → v.sensor = w.sensor → v.closes = w.closes → trailDue u tag v = trailDue s tag w :=
    fun u v hu hsensor hcloses => by
      rw [trailDue, trailDue, hu.tracks hr hstate, hu.debouncing, hu.now, hsensor, hcloses]
  have hself : ∀ (u : State) v, u.trailOf tag = some v → Expired s u → v.sensor = w.sensor → v.closes = w.closes →
      (takeExpiry u (.trail tag)).trailOf tag = some (if trailDue s tag w then v.expire else v) :=
    fun u v hv hu hsensor hcloses => by
      change (expireTrailOf u tag).trailOf tag = _
      rw [trailOf_expireTrailOf_self, hv, Option.map_some, hdue u v hu hsensor hcloses]
  have hsettles := takeAll_settles (f := fun u => u.trailOf tag) (E := Option.map TrailPending.expire)
    (hit := fun k => decide (k = .trail tag) && trailDue s tag w)
    (P := fun u => Expired s u ∧ ∃ v, u.trailOf tag = some v ∧ v.sensor = w.sensor ∧ v.closes = w.closes)
    (fun a => by cases a <;> rfl)
    (fun u k ⟨hu, v, hv, hsensor, hcloses⟩ => by
      refine ⟨hu.trans (expired_takeExpiry u k), ?_⟩
      by_cases hk : k = .trail tag
      · subst hk
        refine ⟨_, hself u v hv hu hsensor hcloses, ?_⟩
        split <;> exact ⟨hsensor, hcloses⟩
      · exact ⟨v, (trailOf_takeExpiry_other (hu.not_picking hpicking) hk).trans hv, hsensor, hcloses⟩)
    (fun u k ⟨hu, v, hv, hsensor, hcloses⟩ => by
      by_cases hk : k = .trail tag
      · subst hk
        rw [hself u v hv hu hsensor hcloses, hv]
        cases trailDue s tag w <;> simp
      · rw [trailOf_takeExpiry_other (hu.not_picking hpicking) hk]
        simp [hk])
    l ⟨.refl s, w, htrail, rfl, rfl⟩
  have hany : (l.any fun k => decide (k = .trail tag) && trailDue s tag w) =
      (l.contains (.trail tag) && trailDue s tag w) := by
    cases trailDue s tag w
    · simp
    · rw [Bool.eq_iff_iff]
      simp
  rw [hsettles, hany, htrail]
  split <;> rfl

/-- A trail window that expires hands its fault. -/
theorem fault_trail_takeAll (hr : s.sheet tag = some r) (hstate : r.state ≠ .picking) (hw : r.trail = some w)
    (hopen : w.expired = false) (l : List Expiry) (hexpired : ∃ v, (takeAll l s).trailOf tag = some v ∧ v.expired = true) :
    { cause := stallCause w.sensor, sensor := w.sensor, tag := some tag } ∈ (takeAll l s).requests.faults := by
  have hpicking : ∀ q, s.sheet tag = some q → q.state ≠ .picking := fun q hq => by
    rwa [← Option.some.inj (hr.symm.trans hq)]
  have hinv : Expired s (takeAll l s) ∧ ((takeAll l s).trailOf tag = some w ∨
      { cause := stallCause w.sensor, sensor := w.sensor, tag := some tag } ∈ (takeAll l s).requests.faults) := by
    refine foldl_induction (P := fun u : State => Expired s u ∧ (u.trailOf tag = some w ∨
      { cause := stallCause w.sensor, sensor := w.sensor, tag := some tag } ∈ u.requests.faults))
      ⟨.refl s, .inl (by rw [State.trailOf, hr, Option.bind_some, hw])⟩ fun u k _ ⟨hu, hor⟩ => ?_
    refine ⟨hu.trans (expired_takeExpiry u k), ?_⟩
    rcases hor with htrail | hfault
    · by_cases hk : k = .trail tag
      · subst hk
        obtain ⟨q, hq, hqw⟩ := Option.bind_eq_some_iff.1 htrail
        change (expireTrailOf u tag).trailOf tag = _ ∨ _ ∈ (expireTrailOf u tag).requests.faults
        unfold expireTrailOf
        rw [hq]
        dsimp only
        rw [hqw]
        dsimp only
        split
        · exact .inr (List.mem_append_right _ (List.mem_singleton.2 rfl))
        · exact .inl htrail
      · exact .inl ((trailOf_takeExpiry_other (hu.not_picking hpicking) hk).trans htrail)
    · exact .inr ((expired_takeExpiry u k).faults hfault)
  obtain ⟨v, hv, hv'⟩ := hexpired
  refine hinv.2.resolve_left fun hsame => ?_
  rw [hsame] at hv
  cases hv
  rw [hopen] at hv'
  exact absurd hv' (by simp)

end trails

/-! ## The release window -/

section release
variable {s : State} {w : ReleaseWindow}

/-- The release window once it has closed. -/
def ReleaseWindow.expire (w : ReleaseWindow) : ReleaseWindow := { w with expired := true }

/-- The release window is watched, and its close is reached. -/
def releaseExpires (s : State) (w : ReleaseWindow) : Bool :=
  s.tracking && (s.debouncing .dup2).isNone && reaches s.now w.closes

theorem release_takeExpiry_self (s : State) : (takeExpiry s .release).ptk.release =
    s.ptk.release.map fun w => if releaseExpires s w then w.expire else w := by
  change (expireReleaseWindow s).ptk.release = _
  unfold expireReleaseWindow
  cases hw : s.ptk.release with
  | none => simpa using hw
  | some w =>
    dsimp only
    split
    case isTrue hdue =>
      obtain ⟨htracking, -, hclear, hreach⟩ := hdue
      have hexpires : releaseExpires s w = true := by simp [releaseExpires, htracking, hclear, hreach]
      simp only [Option.map_some, hexpires, if_true]
      rfl
    case isFalse hidle =>
      have hsame : (if releaseExpires s w = true then w.expire else w) = w := by
        split
        case isTrue hdue =>
          simp only [releaseExpires, Bool.and_eq_true] at hdue
          obtain ⟨⟨htracking, hclear⟩, hreach⟩ := hdue
          have hexpired : w.expired = true := by
            refine Classical.byContradiction fun hnot => ?_
            exact hidle ⟨htracking, by simp [hnot], hclear, hreach⟩
          cases w
          cases hexpired
          rfl
        case isFalse => rfl
      rw [hw, Option.map_some, hsame]

theorem release_takeExpiry_other (s : State) {k : Expiry} (hk : k ≠ .release) :
    (takeExpiry s k).ptk.release = s.ptk.release := by
  cases k with
  | lead x e =>
    by_cases hdue : leadDue s x e
    · rw [takeExpiry_lead_due hdue, expireEntry]
      split
      · exact (misfeed_frame _ _).2.2.2.2.1
      · rfl
    · rw [takeExpiry_lead_idle hdue]
  | trail tag => simp [takeExpiry]
  | release => exact absurd rfl hk
  | deadline tag => simp [takeExpiry]

/-- What the expiries make of the release window. -/
theorem release_takeAll (l : List Expiry) (s : State) : (takeAll l s).ptk.release =
    s.ptk.release.map fun w => if (l.contains .release && releaseExpires s w) = true then w.expire else w := by
  cases hw : s.ptk.release with
  | none =>
    refine foldl_induction (P := fun u : State => u.ptk.release = none) hw fun u k _ hu => ?_
    by_cases hk : k = .release
    · subst hk
      rw [release_takeExpiry_self, hu, Option.map_none]
    · rw [release_takeExpiry_other u hk, hu]
  | some w =>
    have hself : ∀ (u : State) v, u.ptk.release = some v → Expired s u → v.closes = w.closes →
        (takeExpiry u .release).ptk.release = some (if releaseExpires s w then v.expire else v) :=
      fun u v hv hu hcloses => by
        have hdue : releaseExpires u v = releaseExpires s w := by
          rw [releaseExpires, releaseExpires, hu.tracking, hu.debouncing, hu.now, hcloses]
        rw [release_takeExpiry_self, hv, Option.map_some, hdue]
    have hsettles := takeAll_settles (f := fun u => u.ptk.release) (E := Option.map ReleaseWindow.expire)
      (hit := fun k => decide (k = .release) && releaseExpires s w)
      (P := fun u => Expired s u ∧ ∃ v, u.ptk.release = some v ∧ v.closes = w.closes)
      (fun a => by cases a <;> rfl)
      (fun u k ⟨hu, v, hv, hcloses⟩ => by
        refine ⟨hu.trans (expired_takeExpiry u k), ?_⟩
        by_cases hk : k = .release
        · subst hk
          refine ⟨_, hself u v hv hu hcloses, ?_⟩
          split <;> exact hcloses
        · exact ⟨v, (release_takeExpiry_other u hk).trans hv, hcloses⟩)
      (fun u k ⟨hu, v, hv, hcloses⟩ => by
        by_cases hk : k = .release
        · subst hk
          rw [hself u v hv hu hcloses, hv]
          cases releaseExpires s w <;> simp
        · rw [release_takeExpiry_other u hk]
          simp [hk])
      l ⟨.refl s, w, hw, rfl⟩
    have hany : (l.any fun k => decide (k = .release) && releaseExpires s w) =
        (l.contains .release && releaseExpires s w) := by
      cases releaseExpires s w
      · simp
      · rw [Bool.eq_iff_iff]
        simp
    rw [hsettles, hany, hw]
    simp only [Option.map_some]
    split <;> rfl

end release

end Sys2Proof.Machine
end

section
/-! SUPPORT. Backup base takeover: the pitches, and the expiries in the order of their counts (O49, R72, R170). -/

namespace Sys2Proof.Machine

set_option Elab.async false

/-! ## Pitches -/

section pitches
variable {s : State} {tag : Tag} {p : Pitch}

/-- A CALLED pitch once its deadline has been taken. -/
def Pitch.expire (p : Pitch) : Pitch :=
  if p.state = .called then { p with state := .missed, reason := some .deadline } else p

/-- The deadline of a pitch is watched and reached. -/
def pitchDue (s : State) (p : Pitch) : Bool := !s.tsq.halted && reaches s.now p.deadline

theorem Pitch.expire_expire (p : Pitch) : p.expire.expire = p.expire := by
  unfold Pitch.expire
  by_cases h : p.state = .called
  · rw [if_pos h, if_neg (by simp)]
  · rw [if_neg h, if_neg h]

theorem Pitch.expire_deadline (p : Pitch) : p.expire.deadline = p.deadline := by
  unfold Pitch.expire
  split <;> rfl

/-- A change that keeps the tags finds the same pitch. -/
theorem find_tag_map (l : List Pitch) (tag : Tag) {f : Pitch → Pitch} (hf : ∀ p, (f p).tag = p.tag) :
    (l.map f).find? (fun p => decide (p.tag = tag)) = (l.find? fun p => decide (p.tag = tag)).map f := by
  rw [List.find?_map]
  simp only [Function.comp_def, hf]

theorem pitchOf_missPitch (s : State) (p : Pitch) (tag : Tag) : (missPitch s p .deadline).pitchOf tag =
    (s.pitchOf tag).map fun q => if q.tag = p.tag then { q with state := .missed, reason := some .deadline } else q := by
  rw [State.pitchOf, missPitch_tsq]
  exact find_tag_map s.tsq.pitches tag fun q => by split <;> rfl

theorem pitchOf_expireDeadline_self (s : State) (tag : Tag) : (expireDeadline s tag).pitchOf tag =
    (s.pitchOf tag).map fun p => if pitchDue s p then p.expire else p := by
  cases hp : s.pitchOf tag with
  | none =>
    have hsame : expireDeadline s tag = s := by simp only [expireDeadline, hp]
    rw [hsame, hp, Option.map_none]
  | some p =>
    rw [expireDeadline_named hp]
    by_cases hdue : pitchDue s p = true
    · simp only [pitchDue, Bool.and_eq_true, Bool.not_eq_true'] at hdue
      by_cases hcalled : p.state = .called
      · rw [if_pos ⟨hcalled, hdue⟩, pitchOf_missPitch, hp]
        simp [pitchDue, hdue, Pitch.expire, hcalled]
      · rw [if_neg fun h => hcalled h.1, hp]
        simp [Pitch.expire, hcalled]
    · rw [if_neg fun h => hdue (by simp [pitchDue, h]), hp]
      simp [hdue]

theorem pitchOf_expireDeadline_other {t : Tag} (h : t ≠ tag) : (expireDeadline s t).pitchOf tag = s.pitchOf tag := by
  cases hp : s.pitchOf t with
  | none => simp only [expireDeadline, hp]
  | some p =>
    rw [expireDeadline_named hp]
    split
    · rw [pitchOf_missPitch]
      cases hq : s.pitchOf tag with
      | none => rfl
      | some q =>
        have hne : q.tag ≠ p.tag := by
          rw [tag_of_pitchOf hq, tag_of_pitchOf hp]
          exact Ne.symm h
        rw [Option.map_some, if_neg hne]
    · rfl

theorem pitchOf_removePitch_other {t : Tag} (h : t ≠ tag) : (s.removePitch t).pitchOf tag = s.pitchOf tag := by
  change (s.tsq.pitches.filter fun p => p.tag != t).find? _ = s.tsq.pitches.find? _
  rw [List.find?_filter]
  congr 1
  funext p
  by_cases hp : p.tag = tag
  · simp [hp, Ne.symm h]
  · simp [hp]

theorem pitchOf_of_tsq {u : State} (h : u.tsq = s.tsq) (tag : Tag) : u.pitchOf tag = s.pitchOf tag := by
  rw [State.pitchOf, State.pitchOf, h]

theorem pitchOf_misfeed (h : ∀ r, s.sheet tag = some r → r.state ≠ .picking) (t : Tag) :
    (misfeed s t).pitchOf tag = s.pitchOf tag := by
  rcases misfeed_cases s t with ⟨htsq, -, -⟩ | ⟨r, hr, hpicking, htsq, -, -⟩
  · exact pitchOf_of_tsq htsq tag
  · have hne : t ≠ tag := by
      rintro rfl
      exact h r hr hpicking
    rw [pitchOf_of_tsq htsq, withdrawPitch]
    split
    · rfl
    · rw [pitchOf_of_tsq (s := s.removePitch t) (by simp), pitchOf_removePitch_other hne]

/-- The other expiries leave the pitch of a tag whose record is not PICKING. -/
theorem pitchOf_takeExpiry_other (h : ∀ r, s.sheet tag = some r → r.state ≠ .picking) {k : Expiry}
    (hk : k ≠ .deadline tag) : (takeExpiry s k).pitchOf tag = s.pitchOf tag := by
  cases k with
  | lead x e =>
    by_cases hdue : leadDue s x e
    · rw [takeExpiry_lead_due hdue, expireEntry]
      split
      · exact (pitchOf_misfeed (s := dropEntry s x e) h e.tag).trans rfl
      · rfl
    · rw [takeExpiry_lead_idle hdue]
  | trail t => exact pitchOf_of_tsq (by simp [takeExpiry]) tag
  | release => exact pitchOf_of_tsq (by simp [takeExpiry]) tag
  | deadline t => exact pitchOf_expireDeadline_other fun heq => hk (congrArg Expiry.deadline heq)

/-- What the expiries make of a pitch. -/
theorem pitchOf_takeAll (h : ∀ r, s.sheet tag = some r → r.state ≠ .picking) (l : List Expiry) :
    (takeAll l s).pitchOf tag = (s.pitchOf tag).map fun p =>
      if (l.contains (.deadline tag) && pitchDue s p) = true then p.expire else p := by
  cases hp : s.pitchOf tag with
  | none =>
    refine (foldl_induction (P := fun u : State => Expired s u ∧ u.pitchOf tag = none) ⟨.refl s, hp⟩
      fun u k _ ⟨hu, hnone⟩ => ⟨hu.trans (expired_takeExpiry u k), ?_⟩).2
    by_cases hk : k = .deadline tag
    · subst hk
      change (expireDeadline u tag).pitchOf tag = none
      rw [pitchOf_expireDeadline_self, hnone, Option.map_none]
    · rw [pitchOf_takeExpiry_other (hu.not_picking h) hk, hnone]
  | some p =>
    have hself : ∀ (u : State) q, u.pitchOf tag = some q → Expired s u → q.deadline = p.deadline →
        (takeExpiry u (.deadline tag)).pitchOf tag = some (if pitchDue s p then q.expire else q) :=
      fun u q hq hu hdeadline => by
        have hdue : pitchDue u q = pitchDue s p := by rw [pitchDue, pitchDue, hu.halted, hu.now, hdeadline]
        change (expireDeadline u tag).pitchOf tag = _
        rw [pitchOf_expireDeadline_self, hq, Option.map_some, hdue]
    have hsettles := takeAll_settles (f := fun u => u.pitchOf tag) (E := Option.map Pitch.expire)
      (hit := fun k => decide (k = .deadline tag) && pitchDue s p)
      (P := fun u => Expired s u ∧ ∃ q, u.pitchOf tag = some q ∧ q.deadline = p.deadline)
      (fun a => by
        cases a with
        | none => rfl
        | some q => exact congrArg some q.expire_expire)
      (fun u k ⟨hu, q, hq, hdeadline⟩ => by
        refine ⟨hu.trans (expired_takeExpiry u k), ?_⟩
        by_cases hk : k = .deadline tag
        · subst hk
          refine ⟨_, hself u q hq hu hdeadline, ?_⟩
          split
          · exact q.expire_deadline.trans hdeadline
          · exact hdeadline
        · exact ⟨q, (pitchOf_takeExpiry_other (hu.not_picking h) hk).trans hq, hdeadline⟩)
      (fun u k ⟨hu, q, hq, hdeadline⟩ => by
        by_cases hk : k = .deadline tag
        · subst hk
          rw [hself u q hq hu hdeadline, hq]
          cases pitchDue s p <;> simp
        · rw [pitchOf_takeExpiry_other (hu.not_picking h) hk]
          simp [hk])
      l ⟨.refl s, p, hp, rfl⟩
    have hany : (l.any fun k => decide (k = .deadline tag) && pitchDue s p) =
        (l.contains (.deadline tag) && pitchDue s p) := by
      cases pitchDue s p
      · simp
      · rw [Bool.eq_iff_iff]
        simp
    rw [hsettles, hany, hp]
    simp only [Option.map_some]
    split <;> rfl

/-- A CALLED pitch that expires asks for the break of its statement, where no record is PICKING. -/
theorem break_takeAll (hs : s.pickless) (hp : s.pitchOf tag = some p) {l : List Expiry} {q : Pitch}
    (hq : (takeAll l s).pitchOf tag = some q) (hne : q ≠ p) :
    { slot := p.slot, generation := p.generation, cause := .blank, opening := none } ∈ (takeAll l s).requests.breaks := by
  have hinv : Expired s (takeAll l s) ∧ ((takeAll l s).pitchOf tag = some p ∨
      { slot := p.slot, generation := p.generation, cause := .blank, opening := none } ∈
        (takeAll l s).requests.breaks) := by
    refine foldl_induction (P := fun u : State => Expired s u ∧ (u.pitchOf tag = some p ∨
      { slot := p.slot, generation := p.generation, cause := .blank, opening := none } ∈ u.requests.breaks))
      ⟨.refl s, .inl hp⟩ fun u k _ ⟨hu, hor⟩ => ?_
    refine ⟨hu.trans (expired_takeExpiry u k), ?_⟩
    have hidle : u.pickless := hu.pickless hs
    rcases hor with hpitch | hbreak
    · by_cases hk : k = .deadline tag
      · subst hk
        change (expireDeadline u tag).pitchOf tag = _ ∨ _ ∈ (expireDeadline u tag).requests.breaks
        rw [expireDeadline_named hpitch]
        split
        · rw [requests_missPitch]
          exact .inr (List.mem_append_right _ (List.mem_singleton.2 rfl))
        · exact .inl hpitch
      · exact .inl ((pitchOf_takeExpiry_other (hidle tag) hk).trans hpitch)
    · obtain ⟨-, -, -, -, hbreaks⟩ := (expired_takeExpiry u k).idle hidle
      exact .inr (hbreaks hbreak)
  exact hinv.2.resolve_left fun hsame => hne (Option.some.inj (hq.symm.trans hsame))

end pitches

/-! ## The expiries in the order of their counts -/

theorem insertExpiry_perm (k : Count × Expiry) (l : List (Count × Expiry)) : (insertExpiry k l).Perm (k :: l) := by
  induction l with
  | nil => exact List.Perm.refl _
  | cons h l ih =>
    unfold insertExpiry
    split
    · exact List.Perm.refl _
    · exact ((ih.cons h).trans (List.Perm.swap k h l))

/-- The expiries that a takeover takes, in its order. -/
def dueExpiries (s : State) : List Expiry :=
  ((openExpiries s).foldl (fun l k => insertExpiry k l) []).map Prod.snd

theorem takeExpiries_eq (s : State) : takeExpiries s = takeAll (dueExpiries s) s := by
  unfold takeExpiries takeAll dueExpiries
  rw [List.foldl_map]

theorem insertExpiries_perm (l done : List (Count × Expiry)) :
    (l.foldl (fun l k => insertExpiry k l) done).Perm (l ++ done) := by
  induction l generalizing done with
  | nil => exact List.Perm.refl _
  | cons k l ih =>
    refine (ih _).trans (((insertExpiry_perm k done).append_left l).trans ?_)
    exact List.perm_middle

theorem dueExpiries_perm (s : State) : (dueExpiries s).Perm ((openExpiries s).map Prod.snd) := by
  have h := insertExpiries_perm (openExpiries s) []
  rw [List.append_nil] at h
  exact h.map Prod.snd

section due
variable {s : State}

/-- Every entry of a list is among the expiries, as often as it stands there. -/
theorem count_dueExpiries (s : State) (x : Sensor) (e : Expectation) :
    (s.list x).count e ≤ (dueExpiries s).count (.lead x e) := by
  rw [(dueExpiries_perm s).count_eq]
  have hsensor : x ∈ Sensor.all := by cases x <;> decide
  have hleads : ((s.list x).map fun e => (e.closes, Expiry.lead x e)).Sublist
      (Sensor.all.flatMap fun x => (s.list x).map fun e => (e.closes, Expiry.lead x e)) :=
    List.sublist_flatten_of_mem (List.mem_map.2 ⟨x, hsensor, rfl⟩)
  have hsub : ((s.list x).map fun e => Expiry.lead x e).Sublist ((openExpiries s).map Prod.snd) := by
    have hopen : (Sensor.all.flatMap fun x => (s.list x).map fun e => (e.closes, Expiry.lead x e)).Sublist
        (openExpiries s) :=
      ((List.sublist_append_left _ _).trans (List.sublist_append_left _ _)).trans (List.sublist_append_left _ _)
    have h := (hleads.trans hopen).map Prod.snd
    rwa [List.map_map] at h
  exact Nat.le_trans (List.count_le_count_map (f := Expiry.lead x)) (hsub.count_le _)

theorem trail_mem_dueExpiries {tag : Tag} {w : TrailPending} (h : s.trailOf tag = some w) :
    .trail tag ∈ dueExpiries s := by
  have htag : tag ∈ tags := List.mem_finRange tag
  have hopen : (w.closes, Expiry.trail tag) ∈
      tags.flatMap fun t => ((s.sheet t).bind fun r => r.trail).toList.map fun w => (w.closes, Expiry.trail t) :=
    List.mem_flatMap.2 ⟨tag, htag, List.mem_map.2 ⟨w, Option.mem_toList.2 h, rfl⟩⟩
  rw [(dueExpiries_perm s).mem_iff]
  exact List.mem_map.2 ⟨_, List.mem_append_left _ (List.mem_append_left _ (List.mem_append_right _ hopen)), rfl⟩

theorem release_mem_dueExpiries {w : ReleaseWindow} (h : s.ptk.release = some w) : .release ∈ dueExpiries s := by
  rw [(dueExpiries_perm s).mem_iff]
  simp [openExpiries, h]

theorem deadline_mem_dueExpiries {tag : Tag} {p : Pitch} (h : s.pitchOf tag = some p) :
    .deadline tag ∈ dueExpiries s := by
  have hmem : p ∈ s.tsq.pitches := List.mem_of_find?_eq_some h
  rw [(dueExpiries_perm s).mem_iff]
  simp only [openExpiries, List.map_append, List.mem_append, List.mem_map]
  exact .inr ⟨_, ⟨p, hmem, rfl⟩, congrArg Expiry.deadline (tag_of_pitchOf h)⟩

end due

end Sys2Proof.Machine
end

section
/-! Encoder silence and the backup base takeover (O49, R169, R170). -/

namespace Sys2Proof.Machine

set_option Elab.async false

/-! ## The takeover, step by step -/

/-- The transport on the backup base (R170, step 1). -/
def onBackup (s : State) : State :=
  { loseEncoder s with tsv := { (loseEncoder s).tsv with backup := true, span := none, silenceWatch := false } }

/-- The distance by which a deadline is moved (R72). -/
def pullDistance (s : State) : Nat := s.limit .sideReadyMargin * (s.limit .backupMultiplier - 1)

/-- The windows wider and the deadlines earlier, before a deadline expires (R170, step 2). -/
def pulledIn (s : State) : State :=
  (widenAll (onBackup s)).setPitches (s.tsq.pitches.map (Pitch.pullIn (pullDistance s)))

/-- The takeover before its expiries: the catch-up counts added (R170, step 3). -/
def caughtUp (s : State) : State := advance (beginBackup s) s.catchUp

section takeover
variable {s : State} {tag : Tag}

theorem limit_of_profile {u : State} (h : u.profile = s.profile) (l : Limit) : u.limit l = s.limit l := by
  rw [State.limit, State.limit, h]

/-- The deadlines then reached are taken in list order. -/
theorem beginBackup_eq (s : State) : beginBackup s =
    takeAll ((pulledIn s).tsq.pitches.map fun p => .deadline p.tag) (pulledIn s) := by
  have hwide : (widenAll (onBackup s)).tsq = s.tsq := by
    simp [onBackup, loseEncoder]
  have hlimit : ∀ l, (widenAll (onBackup s)).limit l = s.limit l := limit_of_profile (by simp [onBackup, loseEncoder])
  have hpulled : (widenAll (onBackup s)).setPitches ((widenAll (onBackup s)).tsq.pitches.map (Pitch.pullIn
      ((widenAll (onBackup s)).limit .sideReadyMargin * ((widenAll (onBackup s)).limit .backupMultiplier - 1)))) =
      pulledIn s := by
    rw [pulledIn, pullDistance, hlimit, hlimit, hwide]
  have hbegin : beginBackup s = pullInDeadlines (widenAll (onBackup s)) := rfl
  rw [hbegin, pullInDeadlines]
  rw [hpulled, takeAll, List.foldl_map, List.foldl_map]
  rfl

theorem expired_beginBackup (s : State) : Expired (pulledIn s) (beginBackup s) := by
  rw [beginBackup_eq]
  exact expired_takeAll _ _

theorem tsv_beginBackup (s : State) : (beginBackup s).tsv = { s.tsv with
    encoderLost := true, pulseSince := false, backup := true, span := none, silenceWatch := false } := by
  simp [beginBackup, loseEncoder]

theorem catchUp_beginBackup (s : State) : (beginBackup s).catchUp = s.catchUp := by
  simp only [State.catchUp, State.takeoverRate, State.now, tsv_beginBackup]

theorem takeOver_eq (s : State) : takeOver s = takeAll (dueExpiries (caughtUp s)) (caughtUp s) := by
  have hover : takeOver s = takeExpiries (advance (beginBackup s) (beginBackup s).catchUp) := rfl
  rw [hover, catchUp_beginBackup, takeExpiries_eq, caughtUp]

theorem expired_takeOver (s : State) : Expired (caughtUp s) (takeOver s) := by
  rw [takeOver_eq]
  exact expired_takeAll _ _

/-! ### The state that the expiries are taken in -/

theorem tsv_caughtUp (s : State) : (caughtUp s).tsv = { s.tsv with
    encoderLost := true, pulseSince := false, backup := true, span := none, silenceWatch := false
    pathCount := plus s.tsv.pathCount s.catchUp } := by
  rw [caughtUp, advance, tsv_beginBackup]

theorem now_caughtUp (s : State) : (caughtUp s).now = plus s.tsv.pathCount s.catchUp := by
  rw [State.now, tsv_caughtUp]

theorem sheet_pulledIn (s : State) (tag : Tag) : (pulledIn s).sheet tag = (s.sheet tag).map fun r =>
    if r.moving then
      { r with trail := r.trail.map (TrailPending.widen (s.limit .trailTolerance * (s.limit .backupMultiplier - 1))) }
    else r :=
  State.sheet_mapSheets (onBackup s) _ tag

theorem ptk_caughtUp (s : State) : (caughtUp s).ptk = (widenAll (onBackup s)).ptk := by
  have hbegin : beginBackup s = pullInDeadlines (widenAll (onBackup s)) := rfl
  have hpull : (pullInDeadlines (widenAll (onBackup s))).ptk = (widenAll (onBackup s)).ptk := by simp
  rw [caughtUp, hbegin, ← hpull]
  simp

theorem tracking_caughtUp (s : State) : (caughtUp s).tracking = s.tracking := by
  have hfrozen : (caughtUp s).ptk.frozen = s.ptk.frozen := by rw [ptk_caughtUp]; rfl
  rw [State.tracking, State.tracking, State.drivesRun, State.drivesRun, tsv_caughtUp, hfrozen]

theorem debouncing_caughtUp (s : State) (x : Sensor) : (caughtUp s).debouncing x = s.debouncing x := by
  have hdebounce : (caughtUp s).ptk.debounce = s.ptk.debounce := by rw [ptk_caughtUp]; rfl
  rw [State.debouncing, State.debouncing, hdebounce]

/-- The state and the run-out mark of a record stand through the takeover. -/
theorem sheet_caughtUp (s : State) (tag : Tag) :
    ((caughtUp s).sheet tag = none ∧ ∀ r, s.sheet tag = some r → r.state = .picking) ∨
    ∃ r q, s.sheet tag = some r ∧ (caughtUp s).sheet tag = some q ∧ q.state = r.state ∧ q.runOut = r.runOut := by
  have hsheet : (caughtUp s).sheet tag = (beginBackup s).sheet tag := rfl
  rw [hsheet]
  rcases (expired_beginBackup s).sheets tag with ⟨hnone, hpicking⟩ | ⟨r, q, hr, hq, hstate, hrun⟩
  · refine .inl ⟨hnone, fun r hr => ?_⟩
    have hwide := hpicking _ ((sheet_pulledIn s tag).trans (congrArg (Option.map _) hr))
    dsimp only at hwide
    split at hwide <;> exact hwide
  · rw [sheet_pulledIn] at hr
    obtain ⟨p, hp, rfl⟩ := Option.map_eq_some_iff.1 hr
    refine .inr ⟨p, q, hp, hq, hstate.trans ?_, hrun.trans ?_⟩ <;> split <;> rfl

theorem not_picking_caughtUp (h : ∀ r, s.sheet tag = some r → r.state ≠ .picking) :
    ∀ r, (caughtUp s).sheet tag = some r → r.state ≠ .picking := by
  intro q hq
  rcases sheet_caughtUp s tag with ⟨hnone, -⟩ | ⟨r, q', hr, hq', hstate, -⟩
  · simp [hnone] at hq
  · obtain rfl := Option.some.inj (hq'.symm.trans hq)
    rw [hstate]
    exact h r hr

theorem pickless_caughtUp (h : s.pickless) : (caughtUp s).pickless := fun tag => not_picking_caughtUp (h tag)

theorem tracks_caughtUp {r : Sheet} (hr : s.sheet tag = some r) (hstate : r.state ≠ .picking) :
    (caughtUp s).tracks tag = s.tracks tag := by
  have hrun : (caughtUp s).isRunOut tag = s.isRunOut tag := by
    rcases sheet_caughtUp s tag with ⟨-, hpicking⟩ | ⟨r', q, hr', hq, -, hrun⟩
    · exact absurd (hpicking r hr) hstate
    · simp [State.isRunOut, hr', hq, hrun]
  rw [State.tracks, State.tracks, tracking_caughtUp, hrun, tsv_caughtUp]

/-! ### The lists -/

/-- The distance by which a takeover widens the windows of a sensor's list (R105). -/
def listDistance (s : State) (x : Sensor) : Nat :=
  s.limit (if x ∈ [Sensor.f1, .f2, .f3] then .pickTolerance else .leadTolerance) * (s.limit .backupMultiplier - 1)

theorem list_caughtUp (s : State) (x : Sensor) :
    (caughtUp s).list x = (s.list x).map (Expectation.widen (listDistance s x)) := by
  have hlists : (caughtUp s).ptk.lists = (widenAll (onBackup s)).ptk.lists := by rw [ptk_caughtUp]
  have hdistance : widenBy (onBackup s) (entryTolerance (onBackup s) x) = listDistance s x := by
    cases x <;> rfl
  rw [list_of_eq hlists, ← hdistance]
  refine (Vector.getElem_ofFn _).trans ?_
  rw [sensor_all_getD x]
  rfl

theorem list_takeOver_sublist (s : State) (x : Sensor) :
    ((takeOver s).list x).Sublist ((s.list x).map (Expectation.widen (listDistance s x))) := by
  rw [takeOver_eq, ← list_caughtUp]
  exact sublist_takeAll _ _ x

theorem list_takeOver_same {x : Sensor} {l : List Expectation}
    (hl : l = (s.list x).map (Expectation.widen (listDistance s x)))
    (h : (∀ e ∈ l, reaches (plus s.tsv.pathCount s.catchUp) e.closes = false) ∨ s.debouncing x ≠ none) :
    (takeOver s).list x = l := by
  rw [← list_caughtUp] at hl
  rw [hl, ← now_caughtUp, ← debouncing_caughtUp] at h
  rw [takeOver_eq, hl]
  exact list_takeAll_same h _

theorem list_takeOver_gone {x : Sensor} {l : List Expectation} {e : Expectation}
    (hl : l = (s.list x).map (Expectation.widen (listDistance s x))) (htracking : s.tracking = true)
    (hclear : s.debouncing x = none) (he : e ∈ l) (hreach : reaches (plus s.tsv.pathCount s.catchUp) e.closes = true) :
    e ∉ (takeOver s).list x ∧ (x ∉ [Sensor.f1, .f2, .f3] →
      { cause := .late, sensor := x, tag := some e.tag } ∈ (takeOver s).requests.faults) := by
  rw [← list_caughtUp] at hl
  rw [hl] at he
  have hgone : e ∉ (takeOver s).list x := by
    rw [takeOver_eq]
    exact not_mem_takeAll ((tracking_caughtUp s).trans htracking) ((debouncing_caughtUp s x).trans hclear)
      (by rwa [now_caughtUp]) _ (count_dueExpiries _ x e)
  refine ⟨hgone, fun hx => ?_⟩
  have hroute : trayOf x = none := by
    cases x
    case f1 => exact absurd hx (by decide)
    case f2 => exact absurd hx (by decide)
    case f3 => exact absurd hx (by decide)
    all_goals rfl
  rw [takeOver_eq] at hgone ⊢
  exact fault_takeAll hroute he _ hgone

/-! ### The trail windows and the release window -/

/-- The distance by which a takeover widens a trail window and the release window (R105). -/
def trailDistance (s : State) : Nat := s.limit .trailTolerance * (s.limit .backupMultiplier - 1)

theorem trailOf_beginBackup {r : Sheet} {w : TrailPending} (hr : s.sheet tag = some r) (hmoving : r.moving = true)
    (hw : r.trail = some w) : (beginBackup s).trailOf tag = some (w.widen (trailDistance s)) := by
  have hsheet : (pulledIn s).sheet tag = some { r with trail := some (w.widen (trailDistance s)) } := by
    rw [sheet_pulledIn, hr, Option.map_some, if_pos hmoving, hw]
    rfl
  have hstate : r.state ≠ .picking := by
    intro h
    simp [Sheet.moving, h] at hmoving
  rw [beginBackup_eq, trailOf_takeAll hsheet hstate rfl, if_neg]
  simp

theorem trail_takeOver {r : Sheet} {w : TrailPending} (hr : s.sheet tag = some r) (hmoving : r.moving = true)
    (hw : r.trail = some w) : ∃ q, (takeOver s).sheet tag = some q ∧ q.state = r.state ∧
      q.trail = some (if (s.tracks tag && (s.debouncing w.sensor).isNone &&
        reaches (plus s.tsv.pathCount s.catchUp) (w.widen (trailDistance s)).closes) = true then
          (w.widen (trailDistance s)).expire else w.widen (trailDistance s)) ∧
      (w.expired = false → (∃ v, q.trail = some v ∧ v.expired = true) →
        { cause := stallCause w.sensor, sensor := w.sensor, tag := some tag } ∈ (takeOver s).requests.faults) := by
  have hstate : r.state ≠ .picking := by
    intro h
    simp [Sheet.moving, h] at hmoving
  have hsensor : (w.widen (trailDistance s)).sensor = w.sensor := by
    unfold TrailPending.widen
    split <;> rfl
  have hbefore : (caughtUp s).trailOf tag = some (w.widen (trailDistance s)) := trailOf_beginBackup hr hmoving hw
  obtain ⟨q, hq, hqw⟩ := Option.bind_eq_some_iff.1 hbefore
  have hqstate : q.state = r.state := by
    rcases sheet_caughtUp s tag with ⟨-, hpicking⟩ | ⟨r', q', hr', hq', hsame, -⟩
    · exact absurd (hpicking r hr) hstate
    · rw [← Option.some.inj (hq'.symm.trans hq), hsame, Option.some.inj (hr'.symm.trans hr)]
  have hqpick : q.state ≠ .picking := by rwa [hqstate]
  have hafter := trailOf_takeAll hq hqpick hqw (dueExpiries (caughtUp s))
  rw [← takeOver_eq, List.contains_iff_mem.2 (trail_mem_dueExpiries hbefore), Bool.true_and, trailDue,
    tracks_caughtUp hr hstate, debouncing_caughtUp, now_caughtUp, hsensor] at hafter
  obtain ⟨v, hv, hvw⟩ := Option.bind_eq_some_iff.1 hafter
  refine ⟨v, hv, ?_, hvw, fun hopen hexpired => ?_⟩
  · rcases (expired_takeOver s).sheets tag with ⟨hnone, -⟩ | ⟨q', v', hq', hv', hsame, -⟩
    · simp [hnone] at hv
    · rw [← Option.some.inj (hv'.symm.trans hv), hsame, Option.some.inj (hq'.symm.trans hq), hqstate]
  · have hwide : (w.widen (trailDistance s)).expired = false := by
      unfold TrailPending.widen
      split <;> exact hopen
    rw [takeOver_eq, ← hsensor]
    refine fault_trail_takeAll hq hqpick hqw hwide _ ?_
    obtain ⟨v', hv', hexp⟩ := hexpired
    refine ⟨v', ?_, hexp⟩
    rw [← takeOver_eq, State.trailOf, hv, Option.bind_some, hv']

theorem release_caughtUp (s : State) :
    (caughtUp s).ptk.release = s.ptk.release.map (ReleaseWindow.widen (trailDistance s)) := by
  rw [ptk_caughtUp]
  rfl

theorem release_takeOver (s : State) : (takeOver s).ptk.release = s.ptk.release.map fun w =>
    if (s.tracking && (s.debouncing .dup2).isNone &&
      reaches (plus s.tsv.pathCount s.catchUp) (w.widen (trailDistance s)).closes) = true then
        (w.widen (trailDistance s)).expire else w.widen (trailDistance s) := by
  rw [takeOver_eq, release_takeAll]
  cases hw : s.ptk.release with
  | none => rw [release_caughtUp, hw]; rfl
  | some w =>
    have hbefore : (caughtUp s).ptk.release = some (w.widen (trailDistance s)) := by
      rw [release_caughtUp, hw, Option.map_some]
    rw [List.contains_iff_mem.2 (release_mem_dueExpiries hbefore), hbefore]
    simp only [Option.map_some, Bool.true_and, releaseExpires, tracking_caughtUp, debouncing_caughtUp, now_caughtUp]

/-! ### The pitches -/

theorem pitchOf_pulledIn (s : State) (tag : Tag) :
    (pulledIn s).pitchOf tag = (s.pitchOf tag).map (Pitch.pullIn (pullDistance s)) :=
  find_tag_map s.tsq.pitches tag fun p => by
    unfold Pitch.pullIn
    split <;> rfl

theorem not_picking_pulledIn (h : ∀ r, s.sheet tag = some r → r.state ≠ .picking) :
    ∀ r, (pulledIn s).sheet tag = some r → r.state ≠ .picking := by
  intro q hq
  rw [sheet_pulledIn] at hq
  obtain ⟨r, hr, rfl⟩ := Option.map_eq_some_iff.1 hq
  split <;> exact h r hr

theorem now_pulledIn (s : State) : (pulledIn s).now = s.now := by
  have htsv : (pulledIn s).tsv = (onBackup s).tsv := by
    rw [pulledIn]
    simp
  rw [State.now, htsv]
  rfl

theorem halted_pulledIn (s : State) : (pulledIn s).tsq.halted = s.tsq.halted := by
  have htsq : (widenAll (onBackup s)).tsq = s.tsq := by simp [onBackup, loseEncoder]
  have hsame : (pulledIn s).tsq.halted = (widenAll (onBackup s)).tsq.halted := rfl
  rw [hsame, htsq]

theorem pitchOf_beginBackup (h : ∀ r, s.sheet tag = some r → r.state ≠ .picking) {p : Pitch}
    (hp : s.pitchOf tag = some p) : (beginBackup s).pitchOf tag =
      some (if pitchDue s (p.pullIn (pullDistance s)) = true then (p.pullIn (pullDistance s)).expire
        else p.pullIn (pullDistance s)) := by
  have hpulled : (pulledIn s).pitchOf tag = some (p.pullIn (pullDistance s)) := by
    rw [pitchOf_pulledIn, hp, Option.map_some]
  have hmem : Expiry.deadline tag ∈ (pulledIn s).tsq.pitches.map fun q => Expiry.deadline q.tag :=
    List.mem_map.2 ⟨_, List.mem_of_find?_eq_some hpulled, congrArg Expiry.deadline (tag_of_pitchOf hpulled)⟩
  have hdue : ∀ q, pitchDue (pulledIn s) q = pitchDue s q := fun q => by
    rw [pitchDue, pitchDue, halted_pulledIn, now_pulledIn]
  rw [beginBackup_eq, pitchOf_takeAll (not_picking_pulledIn h), hpulled, Option.map_some, List.contains_iff_mem.2 hmem,
    Bool.true_and, hdue]

theorem halted_caughtUp (s : State) : (caughtUp s).tsq.halted = s.tsq.halted := by
  have htsq : (caughtUp s).tsq = (beginBackup s).tsq := rfl
  rw [htsq, (expired_beginBackup s).halted, halted_pulledIn]

theorem pitchOf_takeOver (h : ∀ r, s.sheet tag = some r → r.state ≠ .picking) {q : Pitch}
    (hq : (caughtUp s).pitchOf tag = some q) : (takeOver s).pitchOf tag =
      some (if pitchDue (caughtUp s) q = true then q.expire else q) := by
  rw [takeOver_eq, pitchOf_takeAll (not_picking_caughtUp h), hq, Option.map_some,
    List.contains_iff_mem.2 (deadline_mem_dueExpiries hq), Bool.true_and]

theorem pitch_takeOver_other (h : ∀ r, s.sheet tag = some r → r.state ≠ .picking) {p : Pitch}
    (hp : s.pitchOf tag = some p) (hstate : p.state ≠ .called) : (takeOver s).pitchOf tag = some p := by
  have hpull : p.pullIn (pullDistance s) = p := if_neg hstate
  have hexpire : p.expire = p := if_neg hstate
  have hbefore : (caughtUp s).pitchOf tag = some p := by
    refine (pitchOf_beginBackup h hp).trans ?_
    rw [hpull, hexpire, ite_self]
  rw [pitchOf_takeOver h hbefore, hexpire, ite_self]

section called
variable {p : Pitch} (h : ∀ r, s.sheet tag = some r → r.state ≠ .picking) (hp : s.pitchOf tag = some p)
  (hstate : p.state = .called)
include h hp hstate

theorem pitch_beginBackup_called : (caughtUp s).pitchOf tag =
    some (if (!s.tsq.halted && reaches s.now (minus p.deadline (pullDistance s))) = true then
      { p with deadline := minus p.deadline (pullDistance s), state := .missed, reason := some .deadline }
    else { p with deadline := minus p.deadline (pullDistance s) }) := by
  have hpull : p.pullIn (pullDistance s) = { p with deadline := minus p.deadline (pullDistance s) } := if_pos hstate
  have hexpire : ({ p with deadline := minus p.deadline (pullDistance s) } : Pitch).expire =
      { p with deadline := minus p.deadline (pullDistance s), state := .missed, reason := some .deadline } :=
    if_pos hstate
  refine (pitchOf_beginBackup h hp).trans ?_
  rw [hpull, hexpire, pitchDue]

theorem pitch_takeOver_called : (takeOver s).pitchOf tag =
    some (if (!s.tsq.halted && (reaches s.now (minus p.deadline (pullDistance s)) ||
        reaches (plus s.tsv.pathCount s.catchUp) (minus p.deadline (pullDistance s)))) = true then
      { p with deadline := minus p.deadline (pullDistance s), state := .missed, reason := some .deadline }
    else { p with deadline := minus p.deadline (pullDistance s) }) := by
  have hbefore := pitch_beginBackup_called h hp hstate
  have hexpire : ({ p with deadline := minus p.deadline (pullDistance s) } : Pitch).expire =
      { p with deadline := minus p.deadline (pullDistance s), state := .missed, reason := some .deadline } :=
    if_pos hstate
  have hmissed : ({ p with deadline := minus p.deadline (pullDistance s), state := .missed, reason := some .deadline }
      : Pitch).expire =
      { p with deadline := minus p.deadline (pullDistance s), state := .missed, reason := some .deadline } :=
    if_neg (by simp)
  rw [pitchOf_takeOver h hbefore, pitchDue, halted_caughtUp, now_caughtUp]
  cases s.tsq.halted
  · cases reaches s.now (minus p.deadline (pullDistance s))
    · simp [hexpire]
    · simp [hmissed]
  · simp

/-- A pitch missed in the takeover asks for the break of its statement (R76). -/
theorem break_takeOver (hs : s.pickless) (hhalted : s.tsq.halted = false)
    (hreach : reaches s.now (minus p.deadline (pullDistance s)) = true ∨
      reaches (plus s.tsv.pathCount s.catchUp) (minus p.deadline (pullDistance s)) = true) :
    { slot := p.slot, generation := p.generation, cause := .blank, opening := none } ∈
      (takeOver s).requests.breaks := by
  have hpull : p.pullIn (pullDistance s) = { p with deadline := minus p.deadline (pullDistance s) } := if_pos hstate
  have hbefore := pitch_beginBackup_called h hp hstate
  obtain ⟨-, -, -, -, hkept⟩ := (expired_takeOver s).idle (pickless_caughtUp hs)
  by_cases hnow : reaches s.now (minus p.deadline (pullDistance s)) = true
  · refine hkept ?_
    have hpulled : (pulledIn s).pitchOf tag = some { p with deadline := minus p.deadline (pullDistance s) } := by
      rw [pitchOf_pulledIn, hp, Option.map_some, hpull]
    change _ ∈ (beginBackup s).requests.breaks
    rw [if_pos (by simp [hhalted, hnow])] at hbefore
    have hmissed := (congrArg (fun u : State => u.pitchOf tag) (beginBackup_eq s)).symm.trans hbefore
    rw [beginBackup_eq]
    exact break_takeAll (fun tag => not_picking_pulledIn (hs tag)) hpulled hmissed fun heq =>
      absurd ((congrArg Pitch.state heq).trans hstate) (by simp)
  · rw [if_neg (by simp [hnow])] at hbefore
    have hafter := pitch_takeOver_called h hp hstate
    rw [if_pos (by simp [hhalted, hreach.resolve_left hnow])] at hafter
    rw [takeOver_eq] at hafter ⊢
    exact break_takeAll (pickless_caughtUp hs) hbefore hafter fun heq =>
      absurd ((congrArg Pitch.state heq).trans hstate) (by simp)

end called

end takeover

end Sys2Proof.Machine
end

section
/-! Encoder silence (O49, R169, R170). -/

namespace Sys2Proof.Machine

set_option Elab.async false

/-- The state that a takeover ends in (R169). -/
def takeoverState (s : State) : TransportState := if s.tsv.state = .runout then .runout else .draining

section silence
variable {s : State}

theorem silence_watched (hwatch : s.tsv.silenceWatch = true) (hruns : s.runs = true) (hbackup : s.tsv.backup = false) :
    effect .encoderSilence s = takeSilence s := if_pos ⟨hwatch, hruns, by simp [hbackup]⟩

theorem takeSilence_takeover (h : s.tsv.state = .running ∨ s.tsv.state = .draining ∨ s.tsv.state = .runout) :
    takeSilence s = enter (takeOver s) (takeoverState s) .encoderLost .none_ := by
  rcases h with h | h | h <;> simp [takeSilence, takeoverState, h, beginDrain]

/-- A notice that leaves room in the queue stands last. -/
theorem getLast_notices_enter (u : State) (st : TransportState) (cause : TransportCause) (reason : StartReason)
    (h : (enter u st cause reason).cpt.notices.length < 32) :
    (enter u st cause reason).cpt.notices.getLast? = some (.transport st cause reason) := by
  by_cases hroom : u.cpt.notices.length < 32
  · rw [notices_enter _ _ _ hroom, List.getLast?_concat]
  · have hfull : (enter u st cause reason).cpt.notices = u.cpt.notices := by
      rw [enter, notify_full (s := { u with tsv := { u.tsv with state := st, cause := some cause } }) hroom]
    rw [hfull] at h
    exact absurd h hroom

theorem tsv_takeOver (s : State) : (takeOver s).tsv = { s.tsv with
    encoderLost := true, pulseSince := false, backup := true, span := none, silenceWatch := false
    pathCount := plus s.tsv.pathCount s.catchUp } :=
  (expired_takeOver s).tsv.trans (tsv_caughtUp s)

theorem idle_takeOver (hs : s.pickless) : (takeOver s).stu = s.stu ∧ (takeOver s).bnm = s.bnm ∧
    (takeOver s).adm.newQueue = s.adm.newQueue ∧ (takeOver s).adm.restartQueue = s.adm.restartQueue := by
  obtain ⟨hstu, hbnm, hnew, hrestart, -⟩ := (expired_takeOver s).idle (pickless_caughtUp hs)
  have hbefore : (caughtUp s).stu = s.stu ∧ (caughtUp s).bnm = s.bnm ∧ (caughtUp s).adm = s.adm := by
    simp [caughtUp]
  obtain ⟨hstu', hbnm', hadm'⟩ := hbefore
  rw [hstu'] at hstu
  rw [hbnm'] at hbnm
  rw [hadm'] at hnew hrestart
  exact ⟨hstu, hbnm, hnew, hrestart⟩

/-- The measured rate gives the catch-up counts of the 25 ms that the silence took (R170). -/
theorem catchUp_measured {rate : Nat} (h : s.tsv.rate = some rate) : s.catchUp = rate * 25 / 1000 := by
  rw [State.catchUp, State.takeoverRate, h]
  rfl

end silence

theorem TrailPending.widen_fields (d : Nat) (w : TrailPending) : (w.widen d).sensor = w.sensor ∧
    (w.widen d).widened = true ∧ (w.widen d).opens = (if w.widened then w.opens else minus w.opens d) ∧
    (w.widen d).closes = (if w.widened then w.closes else plus w.closes d) ∧ (w.widen d).expired = w.expired := by
  unfold TrailPending.widen
  cases h : w.widened <;> simp [h]

theorem ReleaseWindow.widen_fields (d : Nat) (w : ReleaseWindow) : (w.widen d).tag = w.tag ∧
    (w.widen d).widened = true ∧ (w.widen d).opens = (if w.widened then w.opens else minus w.opens d) ∧
    (w.widen d).closes = (if w.widened then w.closes else plus w.closes d) ∧ (w.widen d).expired = w.expired := by
  unfold ReleaseWindow.widen
  cases h : w.widened <;> simp [h]

/-- The trail window of a moving record after a takeover (R97, R105, R170). -/
theorem trailWindow_takeOver {s : State} {tag : Tag} {r : Sheet} {w : TrailPending} (hr : s.sheet tag = some r)
    (hstate : r.state ∈ [SheetState.main, .loop, .output]) (hw : r.trail = some w) :
    ∃ q v, (takeOver s).sheet tag = some q ∧ q.trail = some v ∧ q.state = r.state ∧ v.sensor = w.sensor ∧
      v.widened = true ∧ v.opens = (if w.widened then w.opens else minus w.opens (trailDistance s)) ∧
      v.closes = (if w.widened then w.closes else plus w.closes (trailDistance s)) ∧
      (v.expired = true ↔ w.expired = true ∨ (s.tracks tag = true ∧ s.debouncing w.sensor = none ∧
        reaches (plus s.tsv.pathCount s.catchUp) v.closes = true)) ∧
      (w.expired = false → v.expired = true →
        { cause := if w.sensor ∈ [Sensor.f1, .f2, .f3] then .overlap else .stall
          sensor := w.sensor
          tag := some tag } ∈ (takeOver s).requests.faults) := by
  have hmoving : r.moving = true := by
    simp only [List.mem_cons, List.not_mem_nil, or_false] at hstate
    rcases hstate with h | h | h <;> simp [Sheet.moving, h]
  obtain ⟨q, hq, hqstate, hqtrail, hfault⟩ := trail_takeOver hr hmoving hw
  obtain ⟨hsensor, hwidened, hopens, hcloses, hexpired⟩ := w.widen_fields (trailDistance s)
  rw [stallCause_eq] at hfault
  generalize w.widen (trailDistance s) = v at *
  by_cases hdue : (s.tracks tag && (s.debouncing w.sensor).isNone &&
      reaches (plus s.tsv.pathCount s.catchUp) v.closes) = true
  · rw [if_pos hdue] at hqtrail
    simp only [Bool.and_eq_true, Option.isNone_iff_eq_none] at hdue
    obtain ⟨⟨htracks, hclear⟩, hreach⟩ := hdue
    exact ⟨q, v.expire, hq, hqtrail, hqstate, hsensor, hwidened, hopens, hcloses,
      ⟨fun _ => .inr ⟨htracks, hclear, hreach⟩, fun _ => rfl⟩, fun hopen _ => hfault hopen ⟨_, hqtrail, rfl⟩⟩
  · rw [if_neg hdue] at hqtrail
    refine ⟨q, v, hq, hqtrail, hqstate, hsensor, hwidened, hopens, hcloses, ?_, fun hopen hexp =>
      hfault hopen ⟨v, hqtrail, hexp⟩⟩
    rw [hexpired]
    refine ⟨.inl, fun hor => hor.resolve_right fun ⟨htracks, hclear, hreach⟩ => hdue ?_⟩
    simp [htracks, hclear, hreach]

/-- The release window after a takeover (R100, R105, R170). -/
theorem releaseWindow_takeOver {s : State} {w : ReleaseWindow} (hw : s.ptk.release = some w) :
    ∃ v, (takeOver s).ptk.release = some v ∧ v.tag = w.tag ∧ v.widened = true ∧
      v.opens = (if w.widened then w.opens else minus w.opens (trailDistance s)) ∧
      v.closes = (if w.widened then w.closes else plus w.closes (trailDistance s)) ∧
      (v.expired = true ↔ w.expired = true ∨ (s.tracking = true ∧ s.debouncing .dup2 = none ∧
        reaches (plus s.tsv.pathCount s.catchUp) v.closes = true)) := by
  have hafter := release_takeOver s
  rw [hw, Option.map_some] at hafter
  obtain ⟨htag, hwidened, hopens, hcloses, hexpired⟩ := w.widen_fields (trailDistance s)
  generalize w.widen (trailDistance s) = v at *
  by_cases hdue : (s.tracking && (s.debouncing .dup2).isNone &&
      reaches (plus s.tsv.pathCount s.catchUp) v.closes) = true
  · rw [if_pos hdue] at hafter
    simp only [Bool.and_eq_true, Option.isNone_iff_eq_none] at hdue
    obtain ⟨⟨htracking, hclear⟩, hreach⟩ := hdue
    exact ⟨v.expire, hafter, htag, hwidened, hopens, hcloses,
      ⟨fun _ => .inr ⟨htracking, hclear, hreach⟩, fun _ => rfl⟩⟩
  · rw [if_neg hdue] at hafter
    refine ⟨v, hafter, htag, hwidened, hopens, hcloses, ?_⟩
    rw [hexpired]
    refine ⟨.inl, fun hor => hor.resolve_right fun ⟨htracking, hclear, hreach⟩ => hdue ?_⟩
    simp [htracking, hclear, hreach]

/-- The pitch of a tag after a takeover (R72, R73, R76, R81). -/
theorem pitch_takeOver {s : State} {tag : Tag} {p : Pitch} {d : Count} (hp : s.pitchOf tag = some p)
    (hd : d = minus p.deadline (pullDistance s)) (h : ∀ r, s.sheet tag = some r → r.state ≠ .picking) :
    (p.state ≠ .called → (takeOver s).pitchOf tag = some p) ∧
    (p.state = .called →
      (s.tsq.halted = true ∨ (reaches s.now d = false ∧ reaches (plus s.tsv.pathCount s.catchUp) d = false) →
        (takeOver s).pitchOf tag = some { p with deadline := d }) ∧
      (s.tsq.halted = false → reaches s.now d = true ∨ reaches (plus s.tsv.pathCount s.catchUp) d = true →
        (takeOver s).pitchOf tag = some { p with deadline := d, state := .missed, reason := some .deadline } ∧
        (s.pickless → { slot := p.slot, generation := p.generation, cause := .blank, opening := none } ∈
          (takeOver s).requests.breaks))) := by
  subst hd
  refine ⟨pitch_takeOver_other h hp, fun hstate => ?_⟩
  have hafter := pitch_takeOver_called h hp hstate
  refine ⟨fun hkept => ?_, fun hhalted hreach => ⟨?_, fun hs => break_takeOver h hp hstate hs hhalted hreach⟩⟩
  · rw [hafter, if_neg]
    rcases hkept with hhalted | ⟨hnow, hlater⟩
    · simp [hhalted]
    · simp [hnow, hlater]
  · rw [hafter, if_pos]
    simpa [hhalted] using hreach

/-- Settles O49: the state decides; a takeover widens, catches up and expires, and its notice comes last. -/
theorem encoderSilenceStartsTheBackupBase : Obligations.EncoderSilenceStartsTheBackupBase := by
  refine ⟨fun s hwatch hruns hbackup => ⟨fun hstarting => ?_, fun hstate now hnow => ?_⟩, fun s hidle => ?_, fun s =>
    ⟨fun hbackup hruns => ?_, fun hoff => ?_⟩⟩
  · have heffect : effect .encoderSilence s = endStart (loseEncoder s) .startFailed .encoder := by
      rw [silence_watched hwatch hruns hbackup]
      simp only [takeSilence, hstarting]
    exact ⟨_, runs_of_effect heffect, tsv_endStart (loseEncoder s) .startFailed .encoder,
      notices_endStart (s := loseEncoder s) .startFailed .encoder⟩
  · subst hnow
    have heffect := (silence_watched hwatch hruns hbackup).trans (takeSilence_takeover hstate)
    refine ⟨_, runs_of_effect heffect, ?_⟩
    have htsv : (enter (takeOver s) (takeoverState s) .encoderLost .none_).tsv = { s.tsv with
        state := takeoverState s, cause := some .encoderLost, encoderLost := true, pulseSince := false, backup := true
        span := none, silenceWatch := false, pathCount := plus s.tsv.pathCount s.catchUp } := by
      rw [tsv_enter, tsv_takeOver]
    have hlast := getLast_notices_enter (takeOver s) (takeoverState s) .encoderLost .none_
    have hsheet : ∀ tag, (enter (takeOver s) (takeoverState s) .encoderLost .none_).sheet tag = (takeOver s).sheet tag :=
      sheet_of_eq (by simp)
    have hlist : ∀ x, (enter (takeOver s) (takeoverState s) .encoderLost .none_).list x = (takeOver s).list x :=
      list_of_eq (by simp)
    have hpitch : ∀ tag, (enter (takeOver s) (takeoverState s) .encoderLost .none_).pitchOf tag =
        (takeOver s).pitchOf tag := pitchOf_of_tsq (by simp)
    have hframe : (enter (takeOver s) (takeoverState s) .encoderLost .none_).requests = (takeOver s).requests ∧
        (enter (takeOver s) (takeoverState s) .encoderLost .none_).ptk = (takeOver s).ptk ∧
        (enter (takeOver s) (takeoverState s) .encoderLost .none_).stu = (takeOver s).stu ∧
        (enter (takeOver s) (takeoverState s) .encoderLost .none_).bnm = (takeOver s).bnm ∧
        (enter (takeOver s) (takeoverState s) .encoderLost .none_).adm = (takeOver s).adm ∧
        (enter (takeOver s) (takeoverState s) .encoderLost .none_).gsc = s.gsc ∧
        (enter (takeOver s) (takeoverState s) .encoderLost .none_).jam = s.jam ∧
        (enter (takeOver s) (takeoverState s) .encoderLost .none_).profile = s.profile := by simp
    generalize enter (takeOver s) (takeoverState s) .encoderLost .none_ = t at htsv hlast hsheet hlist hpitch hframe ⊢
    obtain ⟨hrequests, hptk, hstu, hbnm, hadm, hgsc, hjam, hprofile⟩ := hframe
    rw [htsv, hrequests, hptk, hstu, hbnm, hadm]
    refine ⟨rfl, rfl, rfl, rfl, rfl, rfl, rfl, rfl, fun rate => catchUp_measured, hlast, ?_⟩
    simp only [hsheet, hlist, hpitch]
    refine ⟨fun x l hl => ?_, fun tag r w hr hmoving hw => trailWindow_takeOver hr hmoving hw, fun hnone => ?_,
      fun w hw => releaseWindow_takeOver hw, fun tag p d hp hd h => pitch_takeOver hp hd h, idle_takeOver, hgsc, hjam,
      hprofile⟩
    · have hwiden : l = (s.list x).map (Expectation.widen (listDistance s x)) := hl
      exact ⟨hwiden ▸ list_takeOver_sublist s x, list_takeOver_same hwiden,
        fun htracking hclear e he hreach => list_takeOver_gone hwiden htracking hclear he hreach⟩
    · rw [release_takeOver, hnone, Option.map_none]
  · refine runs_of_effect ?_
    change (if _ then _ else _) = s
    split
    case isFalse => rfl
    case isTrue h =>
      obtain ⟨hwatch, hruns, hbackup⟩ := h
      rcases hidle with h | h | h | h | h
      · simp [h] at hwatch
      · simp [h] at hruns
      · simp [h] at hbackup
      · simp only [takeSilence, h]
      · simp only [takeSilence, h]
  · refine runs_of_effect ((if_pos ⟨hbackup, hruns⟩).trans ?_)
    rfl
  · refine runs_of_effect (if_neg ?_)
    rintro ⟨hbackup, hruns⟩
    rcases hoff with h | h
    · simp [h] at hbackup
    · simp [h] at hruns

end Sys2Proof.Machine
end
